-- ==== Sys2Proof/Word.lean ====
section
/-! DEFINITION. The plain types the FB-2410's quantities are written in. -/

namespace Sys2Proof

/-- One byte of the serial line (R169). -/
abbrev Byte := BitVec 8

/-- A value of the show sample count S, in samples. R1 treats S as unbounded and no rule deals with
its wrapping, so it is a natural number. -/
abbrev Sample := Nat

/-- A text as the character codes it is stored and carried in (R49, R169). -/
abbrev Text := List Nat

/-- A player station and its Pit Link channel. Station number `n` of the manual, 1..24, is the value
`n - 1`. -/
abbrev Station := Fin 24

/-- Stations 1..24 in number order (log 64). -/
def allStations : List Station :=
  [0, 1, 2, 3, 4, 5, 6, 7, 8, 9, 10, 11, 12, 13, 14, 15, 16, 17, 18, 19, 20, 21, 22, 23]

/-- A video output. Output number `n` of the manual, 1..4, is the value `n - 1`. -/
abbrev OutputNo := Fin 4

/-- Outputs 1..4 in number order (log 64). -/
def allOutputs : List OutputNo := [0, 1, 2, 3]

/-- An entry number of the video format table, 0..15 (R145). -/
abbrev EntryNo := Fin 16

end Sys2Proof
end

