-- ==== Sys2Proof/Syntax.lean ====
section
/-! DEFINITION. The commands of the FB-2410: one constructor of `Instr` for each row of
spec/opcode_table.json, with the operands the row's rule names. Operands of host requests are raw:
a number that must name a member of an enumeration is carried as its value, so that the owner's own
judgement (a refusal with BAD_VALUE, a clamp) is part of the command's meaning. -/

namespace Sys2Proof

/-- The strap pins, read at POWER_UP (R4, R108, R168). -/
structure Straps where
  /-- The two line-rate straps, LINE_RATE 0..3 (Table 10.2). -/
  lineRate : Fin 4
  /-- CLOCK_PREFERENCE: set for WORD_PREFERRED (Table 1.3). -/
  wordPreferred : Bool
  /-- STOPLINE_POLARITY: set for ACTIVE_OPEN (Table 6.4). -/
  activeOpen : Bool
deriving DecidableEq, Repr

/-- A bank and a program (R50, R84). -/
structure Patch where
  bank : Nat
  program : Nat
deriving DecidableEq, Repr

/-- The two camera inputs (00, section 0.5). -/
inductive Input where
  | a
  | b
deriving DecidableEq, Repr

/-- STATION_KIND (Table 7.3). -/
inductive StationKind where
  | click
  | rig
deriving DecidableEq, Repr

/-- The five click settings of a station (R119). -/
structure ClickValues where
  enabled : Bool
  subdivision : Nat
  accent : Bool
  countInOnly : Bool
  level : Nat
deriving DecidableEq, Repr

/-- For each of the five click settings, whether the player holds it by hand (R119). -/
structure HeldMask where
  enabled : Bool
  subdivision : Bool
  accent : Bool
  countInOnly : Bool
  level : Bool
deriving DecidableEq, Repr

/-- Who controls a lamp at the station (R119). -/
inductive LampControl where
  | part
  | station
deriving DecidableEq, Repr

/-- Lamp control of the CUE and the STOP lamp (R119). -/
structure LampControls where
  cue : LampControl
  stop : LampControl
deriving DecidableEq, Repr

/-- HELD_STATE (Table 5.3). -/
inductive HeldState where
  | clear
  | held
deriving DecidableEq, Repr

/-- MD_INPUT_KIND (Table 7.10). -/
inductive MdInputKind where
  | go
  | tap
  | release
  | hold
  | stopCall
deriving DecidableEq, Repr

/-- One musical-director input of a status frame, with the station's stamp (R122, R141). -/
structure MdInput where
  kind : MdInputKind
  stamp : Sample
deriving DecidableEq, Repr

/-- What a SETTINGS reply and a status frame report of the station's own settings (R122, R126). -/
structure StationReport where
  actual : ClickValues
  heldMask : HeldMask
  lamps : LampControls
deriving DecidableEq, Repr

/-- The items of one valid status frame (R122). -/
structure StatusItems where
  report : StationReport
  /-- Each PATCH_DONE: the patch sounding and the serial of the PATCH applied. -/
  patchDone : List (Patch × Nat)
  localChange : Option Patch
  held : HeldState
  mdInputs : List MdInput
deriving DecidableEq, Repr

/-- A patch entry as PUT_CUE carries it (R51). -/
structure RawPatchEntry where
  station : Nat
  bank : Nat
  program : Nat
  policy : Nat
  deferLimit : Nat
deriving DecidableEq, Repr

/-- A cue as PUT_CUE carries it (R49, R51). -/
structure RawCue where
  number : Nat
  label : Text
  goMode : Nat
  goBar : Nat
  changePoint : Nat
  mapRef : Nat
  countIn : Nat
  entries : List RawPatchEntry
  /-- The warn list, a set of stations (R51). -/
  warn : List Station
  /-- The overlay text; empty when absent (R49). -/
  text : Text
deriving DecidableEq, Repr

/-- A segment as PUT_MAP carries it (R53). -/
structure RawSegment where
  kind : Nat
  bars : Nat
  beatsPerBar : Nat
  denominator : Nat
  startTempo : Nat
  /-- 0 for an absent target (R53). -/
  targetTempo : Nat
  /-- The marked beats of the bar. -/
  accents : List Nat
  vampExit : Nat
deriving DecidableEq, Repr

/-- The MD enables of a station (R119). -/
structure MdEnables where
  go : Bool
  tap : Bool
  release : Bool
  hold : Bool
  stopCall : Bool
deriving DecidableEq, Repr

/-- A whole assigned part as STATION_SET carries it (R120). -/
structure RawAssigned where
  role : Nat
  kind : Nat
  name : Text
  click : ClickValues
  md : MdEnables
  linkTries : Nat
  errorLimit : Nat
deriving DecidableEq, Repr

/-- A lamp pattern as LAMP carries it (R140). -/
structure RawLamp where
  lamp : Nat
  tick : Nat
  /-- Milliseconds for TIME, ticks per beat for BEAT. -/
  tickValue : Nat
  /-- The 8 bits, first bit most significant. -/
  bits : BitVec 8
  pause : Nat
deriving DecidableEq, Repr

/-- A format entry as FORMAT_PUT carries it (R145, R146). -/
structure RawFormat where
  lines : Nat
  period : Nat
  tolerance : Nat
  scan : Nat
  width : Nat
  rows : Nat
deriving DecidableEq, Repr

/-- For each of the six overlay fields, drawn or not (R158). -/
structure FieldMask where
  cue : Bool
  position : Bool
  flash : Bool
  banner : Bool
  countdown : Bool
  text : Bool
deriving DecidableEq, Repr

/-- An output's settings as OUTPUT_SET carries them (R158). -/
structure RawOutput where
  enabled : Bool
  source : Nat
  mask : FieldMask
  fallback : Nat
  flashAdvance : Nat
  flashFrames : Nat
deriving DecidableEq, Repr

/-- An overlay field's record as OVERLAY_PUT carries it (R162, R164). The downbeat colour is the
FLASH field's alone. -/
structure RawField where
  column : Nat
  row : Nat
  foreground : Nat
  background : Nat
  enabled : Bool
  downbeat : Nat
deriving DecidableEq, Repr

/-- The commands of the block, one constructor for each row of spec/opcode_table.json. The first
operand `tag` of a request is the tag of the frame that carries it (Table 10.3). -/
inductive Instr where
  | powerUp (straps : Straps) (contactClosed : Bool)
  | wordClockEdge
  | internalPeriod
  | missingEdgeEvent
  | rateWindowEnd
  | clockQuery (tag : Nat)
  | clockSelectWord (tag : Nat)
  | clockSelectInternal (tag : Nat)
  | beatProduction
  | changeDue
  | mapEnd
  | holdReached
  | continueReached
  | resumeReached
  | beginEdit (tag : Nat)
  | putCue (tag : Nat) (cue : RawCue)
  | deleteCue (tag number : Nat)
  | putMap (tag map first declared : Nat) (segments : List RawSegment)
  | deleteMap (tag map : Nat)
  | commitEdit (tag : Nat)
  | abandonEdit (tag : Nat)
  | cueQuerySummary (tag source : Nat)
  | cueQueryCue (tag source number : Nat)
  | cueQueryNextCue (tag source number : Nat)
  | cueQueryMap (tag source map first : Nat)
  | cueQueryRun (tag source : Nat)
  | go (tag expected : Nat)
  | goto (tag number : Nat)
  | lockoutSet (tag ms : Nat)
  | release (tag : Nat)
  | silenceEnd
  | silenceSet (tag limit : Nat)
  | idleMark (station : Station)
  | patchDeadline (station : Station)
  | ackTimeout (station : Station)
  | startPreshow (tag : Nat)
  | hold (tag : Nat)
  | continueShow (tag countIn : Nat)
  | stopLineActive
  | stopLineInactive
  | qualifierTimerExpiry
  | stoplineSet (tag mode time : Nat)
  | stop (tag : Nat)
  | resume (tag cue bar countIn : Nat)
  | endShow (tag : Nat)
  | stopQuery (tag : Nat)
  | stationSet (tag station : Nat) (assigned : RawAssigned)
  | settingsRefresh (station : Station)
  | statusFrame (station : Station) (items : StatusItems)
  | seekBurst (station : Station)
  | seekAnswer (station : Station)
  | seekHoldEnd (station : Station)
  | pageRepeat (station : Station)
  | pageTimeout (station : Station)
  | identReply (station : Station) (toggle : Bool) (kind : StationKind) (serial : Nat)
  | abilityReply (station : Station) (toggle offersFull offersReduced hasRig : Bool)
  | delayProbeReply (station : Station) (toggle : Bool) (stamp turnaround : Nat)
  | settingsReply (station : Station) (toggle : Bool) (report : StationReport)
      (patch : Option Patch) (held : HeldState)
  | readyReply (station : Station) (toggle : Bool)
  | linkSilence (station : Station)
  | backChannelCheckError (station : Station)
  | errorWindowEnd (station : Station)
  | retrain (tag station : Nat)
  | eventSendPoint (station : Station)
  | lamp (tag station : Nat) (pattern : RawLamp)
  | linkTest (tag station : Nat)
  | testFrameSend (station : Station)
  | testEcho (station : Station) (frame : Nat) (correct : Bool)
  | testEchoTimeout (station : Station) (frame : Nat)
  | stationParamRead (tag station number : Nat)
  | stationParamWrite (tag station number : Nat) (value : BitVec 32)
  | relayAnswer (station : Station) (serial : Nat) (known : Bool) (value : BitVec 32)
  | relayTimeout (station : Station)
  | stationQuery (tag station : Nat)
  | formatPutRead (tag entry : Nat)
  | formatPutWrite (tag entry : Nat) (format : RawFormat)
  | syncEdge (input : Input)
  | syncWatchExpiry (input : Input)
  | inputFrameStart (input : Input) (micros : Nat)
  | missingWatchExpiry (input : Input)
  | inputSetRead (tag address : Nat)
  | inputSetWrite (tag address mode entry lockCount unlockCount : Nat)
  | returnTime
  | select (tag mode hold : Nat)
  | outputSetRead (tag output : Nat)
  | outputSetWrite (tag output : Nat) (settings : RawOutput)
  | outputOwnFrameStart (output : OutputNo) (micros : Nat)
  | palette (tag entry red green blue : Nat)
  | overlayPutField (tag field : Nat) (record : RawField)
  | overlayPutBannerText (tag : Nat) (text : Text)
  | overlayCommit (tag : Nat)
  | byteReceived (byte : Byte) (stopBit : Bool)
  | byteGapExpiry
  | frameSent
  | noticeMaskRead (tag : Nat)
  | noticeMaskWrite (tag : Nat) (mask : BitVec 16)
  | status (tag : Nat)
  | restart (tag : Nat)
  | tapOrFreeSegmentStart
deriving DecidableEq, Repr

end Sys2Proof
end

