-- ==== Sys2Proof/Config.lean ====
section
/-! DEFINITION. The parameters of the manual's tables, and the free values: what the manual leaves
open without stopping the part. A free value is an `opaque` constant with no body. -/

namespace Sys2Proof.Config

/-! ## Common and Timebase parameters (Tables 0.6, 1.1) -/

abbrev horizon : Nat := 4800
abbrev fractionsPerSample : Nat := 65536
abbrev tempoMin : Nat := 2000
abbrev tempoMax : Nat := 40000
abbrev periodConstant : Nat := 18874368000000
abbrev tapListSize : Nat := 5
abbrev tapBounce : Nat := 7200
abbrev tapGap : Nat := 144000
abbrev tapConstant : Nat := 288000000
abbrev wcMissPeriods : Nat := 4
abbrev wcWindow : Nat := 4800
abbrev wcEdgesLow : Nat := 4752
abbrev wcEdgesHigh : Nat := 4848
abbrev wcGoodRun : Nat := 48000

/-! ## Click Engine parameters (Table 2.1) -/

abbrev barNumberMax : Nat := 9999
abbrev passMax : Nat := 9999
abbrev countInMax : Nat := 4
abbrev idleBeat : Nat := 24000

/-! ## Show book and firing parameters (Tables 3.1, 4.1) -/

abbrev cuesMax : Nat := 1024
abbrev patchEntriesMax : Nat := 8192
abbrev segmentsTotalMax : Nat := 4096
abbrev cueNumberMax : Nat := 99999
abbrev lockoutMax : Nat := 2000
abbrev lockoutDefault : Nat := 300
abbrev samplesPerMs : Nat := 48
abbrev silenceLimitMax : Nat := 50
abbrev silenceLimitDefault : Nat := 30
abbrev silenceUnit : Nat := 4800

/-! ## Patch and stop-line parameters (Tables 5.1, 6.1) -/

abbrev ackMargin : Nat := 960
abbrev qualifyMax : Nat := 255
abbrev qualifyDefault : Nat := 20
abbrev mdContinueBars : Nat := 1

/-! ## Pit Link parameters (Table 7.1) -/

abbrev seekInterval : Nat := 4800
abbrev seekHold : Nat := 48000
abbrev pageRepeat : Nat := 240
abbrev pageTimeout : Nat := 960
abbrev delayMax : Nat := 1200
abbrev leadMargin : Nat := 96
abbrev silenceLoss : Nat := 12000
abbrev errorWindow : Nat := 48000
abbrev queueCapacity : Nat := 32
abbrev lateCountMax : Nat := 65535
abbrev settingsRefresh : Nat := 48000
abbrev testFrames : Nat := 256
abbrev testSpacing : Nat := 48
abbrev relayTimeout : Nat := 2400

/-! ## Video parameters (Tables 8.1, 9.1) -/

abbrev syncTimeout : Nat := 4800
abbrev linesSaturation : Nat := 4095
abbrev periodSaturation : Nat := 999999
abbrev returnHoldMax : Nat := 60
abbrev samplesPerSecond : Nat := 48000
abbrev flashAdvanceMax : Nat := 9600

/-! ## Control Port parameters (Table 10.1) -/

abbrev syncByte : Byte := 0xA5#8
abbrev payloadMax : Nat := 250
abbrev byteGap : Nat := 241
abbrev requestPlaces : Nat := 4
abbrev rejectPlaces : Nat := 4
abbrev noticeQueue : Nat := 32

end Sys2Proof.Config

namespace Sys2Proof

/-- What a request's payload reads as: a wrong length, an action, subject or item outside the request's
own, or the request with its fields. -/
inductive PayloadReading where
  | badLength
  | badValue
  | request (i : Instr)
deriving DecidableEq, Repr, Inhabited

/-- FREE VALUE (log 8). How the payload of a request kind, with its tag, is read where 10 section
10.7 does not lay the payload out; none where it is no payload of that kind. -/
opaque Config.requestLayout : (kind tag : Nat) → List Byte → Option Instr

/-- FREE VALUE (log 8). The action, subject or item that the payload of a request kind carries; none where it
is too short to carry one. -/
opaque Config.requestCode : (kind : Nat) → List Byte → Option Nat

/-- FREE VALUE (log 20). The one-way delay kept when a DELAY_PROBE echo gives a stamp and a
turnaround beyond the value of S at which it is taken, so that the round trip of R127 is negative. -/
opaque Config.negativeRoundTripDelay : (taken stamp turnaround : Nat) → Nat

end Sys2Proof
end

