-- ==== Sys2Proof/Machine/State.lean ====
section
/-! DEFINITION. The state of the FB-2410, block by block as 00 section 0.1 lists them, as plain data;
what its ports put out; and the state right after POWER_UP. -/

namespace Sys2Proof.Machine

/-! ## Outcome reasons -/

/-- Why a step stops with a fault. No rule of the manual stops the block: a request it does not take
is answered, an input it does not take is ignored. The type has no member, so no command faults
(safe). -/
inductive Fault where
deriving DecidableEq, Repr

/-- Why a command has no meaning. -/
inductive Refusal where
  /-- Raised by an arm of `exec` whose row has no meaning yet (safe). -/
  | notModelled (mnemonic : String)
deriving DecidableEq, Repr

/-! ## Timebase (01) -/

/-- CLOCK_STATE (Table 1.2). -/
inductive ClockState where
  | internal
  | word
  | failover
deriving DecidableEq, Repr

/-- What set the pending-switch flag (R11). -/
inductive SwitchCause where
  | host
  | strap
deriving DecidableEq, Repr

/-- CLOCK_CAUSE (Table 1.4). -/
inductive ClockCause where
  | missingEdges
  | rate
  | host
  | strap
  | dropped
deriving DecidableEq, Repr

/-- The Timebase's state (R1, R3, R4) with the supervisor's record (R5, R6). -/
structure Timebase where
  /-- The show sample count (R1). -/
  S : Sample
  /-- MODEL: the samples S moved by at its last advance, for R2 (log 4). -/
  advance : Nat
  clockState : ClockState
  /-- The pending-switch flag; set, it holds the cause of the notice to come (R11). -/
  pendingSwitch : Option SwitchCause
  /-- CLOCK_PREFERENCE as read: set for WORD_PREFERRED (R4). -/
  wordPreferred : Bool
  autoSwitch : Bool
  watch : Nat
  edgesAbsent : Bool
  windowPosition : Nat
  windowEdges : Nat
  windowSpoiled : Bool
  lastWindowEdges : Nat
  goodRun : Nat
deriving DecidableEq, Repr

/-! ## Click Engine (02) -/

/-- SEGMENT_KIND (Table 2.2). -/
inductive SegmentKind where
  | metered
  | vamp
  | tap
  | free
deriving DecidableEq, Repr

/-- VAMP_EXIT (Table 2.3). -/
inductive VampExit where
  | atPassEnd
  | atBarEnd
deriving DecidableEq, Repr

/-- A segment record (R21). -/
structure Segment where
  kind : SegmentKind
  bars : Option Nat
  beatsPerBar : Nat
  denominator : Nat
  startTempo : Nat
  target : Option Nat
  accents : List Nat
  vampExit : Option VampExit
deriving DecidableEq, Repr

/-- The count-in still to be produced (R32, R43, R45): beats remaining, the bar `-bar`, the beat in
it of the next count-in beat, and the tempo all of them carry. -/
structure CountIn where
  remaining : Nat
  bar : Nat
  beat : Nat
  tempo : Nat
deriving DecidableEq, Repr

/-- The Active Map Context (R24). While a count-in plays, `bar`, `beatInBar` and `beatIndex` are
those of the beat it leads into, and the next beat to be produced is the one `countIn` gives. -/
structure Context where
  map : Nat
  segments : List Segment
  /-- Index of the current segment; the number of segments when the position is past the last. -/
  segmentIndex : Nat
  beatIndex : Nat
  bar : Nat
  beatInBar : Nat
  pass : Nat
  countIn : Option CountIn
  /-- The accumulator A in sample fractions (R16). -/
  acc : Nat
  tempo : Nat
  lastOnset : Option Sample
  /-- A TAP segment's first beat has been placed (R25, R40). -/
  tapPlaced : Bool
  /-- MODEL: the current segment's last beat is produced and the next segment is TAP or FREE, whose
  onset E = floor(A / 65,536) has not been reached (R23, log 12). -/
  moveDue : Bool
  /-- The first record's click events are not made (R35). -/
  muteFirst : Bool
deriving DecidableEq, Repr

/-- CLICK_LEVEL (Table 2.5). -/
inductive ClickLevel where
  | down
  | accent
  | beat
  | sub
deriving DecidableEq, Repr

/-- The subdivision onsets of a beat for each d (R17, R27). -/
structure Subdivisions where
  two : List Sample
  three : List Sample
  four : List Sample
  six : List Sample
  eight : List Sample
deriving DecidableEq, Repr

/-- A beat record (R27). A count-in beat carries its countdown (R29); its bar is negative. -/
structure BeatRecord where
  onset : Sample
  bar : Int
  beatInBar : Nat
  level : ClickLevel
  tempo : Nat
  pass : Option Nat
  countdown : Option Nat
  subs : Subdivisions
deriving DecidableEq, Repr

/-- ENGINE_STATE (Table 2.4). -/
inductive EngineState where
  | silent
  | countIn
  | playing
  | vamping
  | waitTap
  | free
  | held
deriving DecidableEq, Repr

/-- What the engine hands the Show State Controller when S reaches a returned beat (R43, R45). -/
inductive ReachKind where
  | continued
  | resumed
deriving DecidableEq, Repr

/-- The returned beat the engine has still to report (R43, R45). -/
structure Reach where
  kind : ReachKind
  at_ : Sample
deriving DecidableEq, Repr

/-- The Click Engine's state (R24, R29, R34, R37, R41). -/
structure ClickEngine where
  context : Option Context
  held : Bool
  limit : Option Sample
  holdPoint : Option Sample
  release : Bool
  /-- The tap list, oldest first (R19). -/
  taps : List Sample
  /-- The kept beat records, at most two, the later produced last (R29). -/
  kept : List BeatRecord
  reach : Option Reach
deriving DecidableEq, Repr

/-! ## Cue Engine (03, 04) -/

/-- GO_MODE with the go bar of AT_BAR (Table 3.2, R49). -/
inductive GoMode where
  | manual
  | follow
  | atBar (bar : Nat)
deriving DecidableEq, Repr

/-- CHANGE_POINT (Table 2.6). -/
inductive ChangeKind where
  | immediate
  | nextBeat
  | nextBar
deriving DecidableEq, Repr

/-- MAP_REFERENCE (Table 3.3): a map number, NONE, CONTINUE. -/
inductive MapRef where
  | map (number : Nat)
  | silence
  | keep
deriving DecidableEq, Repr

/-- PATCH_POLICY (Table 3.4). -/
inductive PatchPolicy where
  | now
  | onRelease
deriving DecidableEq, Repr

/-- A patch entry (R50). -/
structure PatchEntry where
  station : Station
  patch : Patch
  policy : PatchPolicy
  deferLimit : Nat
deriving DecidableEq, Repr

/-- A cue record (R49). -/
structure Cue where
  number : Nat
  label : Text
  goMode : GoMode
  changeKind : ChangeKind
  mapRef : MapRef
  countIn : Nat
  entries : List PatchEntry
  warn : List Station
  text : Text
deriving DecidableEq, Repr

/-- A map entry (R52). The received count is the number of segments held. -/
structure MapEntry where
  number : Nat
  declared : Nat
  segments : List Segment
deriving DecidableEq, Repr

/-- A cue list in cue-number order and map entries in map-number order (R47, R48, R52). -/
structure Book where
  cues : List Cue
  maps : List MapEntry
deriving DecidableEq, Repr

/-- EDIT_STATE (Table 3.5). -/
inductive EditState where
  | closed
  | openEdit
  | pendingApply
deriving DecidableEq, Repr

/-- GO_SOURCE (Table 4.2). -/
inductive GoSource where
  | host
  | md
  | auto
  | bar
deriving DecidableEq, Repr

/-- SLOT (Table 4.3). -/
inductive SlotName where
  | inFlight
  | queued
deriving DecidableEq, Repr

/-- A fired cue waiting in the queued slot (R65). -/
structure FiredCue where
  cue : Nat
  source : GoSource
  takenAt : Sample
  /-- For BAR, the bar. -/
  bar : Option Nat
deriving DecidableEq, Repr

/-- The in-flight slot: a fired cue with its change point (R65). -/
structure Flight where
  fired : FiredCue
  changePoint : Sample
deriving DecidableEq, Repr

/-- The running cue: a copy of number, label and overlay text, and the sample it took effect (R65). -/
structure RunningCue where
  number : Nat
  label : Text
  text : Text
  since : Sample
deriving DecidableEq, Repr

/-- CONTROL_MODE (Table 4.4). -/
inductive ControlMode where
  | remote
  | local_
deriving DecidableEq, Repr

/-- The LOCAL entry (R81). -/
structure LocalEntry where
  enteredAt : Sample
  mdGos : Nat
deriving DecidableEq, Repr

/-- The Cue Engine's state: the show book, the edit buffer and the firing record (R47, R54, R65). -/
structure CueEngine where
  book : Book
  serial : Nat
  edit : EditState
  buffer : Book
  copiedFrom : Nat
  /-- `none` is END. -/
  standby : Option Nat
  running : Option RunningCue
  warned : Option Nat
  inFlight : Option Flight
  queued : Option FiredCue
  lockoutMs : Nat
  lockoutEnd : Option Sample
  /-- Set while the bar mark is armed (R72). -/
  barMark : Bool
  mode : ControlMode
  localEntry : Option LocalEntry
deriving DecidableEq, Repr

/-! ## Patch Tracker (05) -/

/-- The state of a pending entry with the fields present in it (R84). -/
inductive PendingPhase where
  | waitingRelease (beats : Nat) (idleMark : Sample) (deadline : Option Sample)
  | sent (due : Sample) (force : Bool) (serial : Nat) (ackEnd : Sample)
  | unconfirmed (due : Sample) (force : Bool) (serial : Nat)
deriving DecidableEq, Repr

/-- A pending patch entry (R84). -/
structure PendingEntry where
  patch : Patch
  changePoint : Sample
  phase : PendingPhase
deriving DecidableEq, Repr

/-- A station's patch record (R84). `none` in a patch is UNKNOWN. -/
structure PatchRecord where
  confirmed : Option Patch
  expected : Option Patch
  held : HeldState
  serial : Nat
  entry : Option PendingEntry
deriving DecidableEq, Repr

/-- PENDING_STATE (Table 5.1). -/
inductive PendingState where
  | none_
  | waitingRelease
  | sent
  | unconfirmed
deriving DecidableEq, Repr

/-- PATCH_STATE_CAUSE (Table 5.4). -/
inductive PatchStateCause where
  | ackTimeout
  | linkLost
  | forced
  | lateDone
  | trained
deriving DecidableEq, Repr

/-- MISMATCH_CAUSE (Table 5.5). -/
inductive MismatchCause where
  | done
  | local_
  | training
deriving DecidableEq, Repr

/-! ## Show State Controller (06) -/

/-- SHOW_STATE (Table 6.2). -/
inductive ShowState where
  | dark
  | preshow
  | running
  | holding
  | stopped
  | resuming
deriving DecidableEq, Repr

/-- SHOW_STATE_CAUSE (Table 6.3). -/
inductive ShowCause where
  | startPreshow
  | firstGo
  | holdReached
  | continueReached
  | resume
  | resumeReached
  | endShow
deriving DecidableEq, Repr

/-- Who called a HOLD or a CONTINUE (R100). -/
inductive HoldSource where
  | host
  | md
deriving DecidableEq, Repr

/-- The hold pending (R100). -/
structure HoldPending where
  point : Sample
  source : HoldSource
deriving DecidableEq, Repr

/-- The continue pending (R100, R106). -/
structure ContinuePending where
  start : Sample
  countIn : Nat
  source : HoldSource
deriving DecidableEq, Repr

/-- STOP_SOURCE (Table 6.7). -/
inductive StopSource where
  | host
  | line
  | md
deriving DecidableEq, Repr

/-- The cause set of a stop record (R112). -/
structure StopCauses where
  host : Bool
  line : Bool
  md : Bool
deriving DecidableEq, Repr

/-- A sounded position: bar, beat in bar and pass (R29, R112). -/
structure SoundedPosition where
  bar : Int
  beatInBar : Nat
  pass : Option Nat
deriving DecidableEq, Repr

/-- The RESUME taken after a stop (R112). -/
structure ResumeInfo where
  takenAt : Sample
  cue : Nat
  bar : Nat
  map : Option Nat
deriving DecidableEq, Repr

/-- The stop record (R112). -/
structure StopRecord where
  causes : StopCauses
  firstCause : StopSource
  stopSample : Sample
  before : ShowState
  running : Option Nat
  sounded : Option SoundedPosition
  /-- `none` is END. -/
  standby : Option Nat
  resume : Option ResumeInfo
deriving DecidableEq, Repr

/-- STOPLINE_MODE (Table 6.5). -/
inductive LineMode where
  | level
  | edge
deriving DecidableEq, Repr

/-- QUALIFIER_STATE (Table 6.6). -/
inductive Qualifier where
  | idle
  | qualifying
  | qualified
  | releasing
deriving DecidableEq, Repr

/-- The Show State Controller's record (R100) with the stop line's level and the host-silence
timer. -/
structure ShowControl where
  state : ShowState
  holdPending : Option HoldPending
  continuePending : Option ContinuePending
  stopRecord : Option StopRecord
  lineMode : LineMode
  qualifyMs : Nat
  /-- STOPLINE_POLARITY as read: set for ACTIVE_OPEN (Table 6.4). -/
  activeOpen : Bool
  qualifier : Qualifier
  timerEnd : Option Sample
  /-- The stop line is active. -/
  lineActive : Bool
  silenceLimit : Nat
  silenceEnd : Option Sample
deriving DecidableEq, Repr

/-! ## Pit Link Controller (07) -/

/-- STATION_ROLE (Table 7.2). -/
inductive StationRole where
  | unused
  | player
  | md
deriving DecidableEq, Repr

/-- The assigned part of a station record (R119). -/
structure Assigned where
  role : StationRole
  kind : StationKind
  name : Text
  click : ClickValues
  md : MdEnables
  linkTries : Nat
  errorLimit : Nat
deriving DecidableEq, Repr

/-- The reported part of a station record (R119). The held state is in the patch record. -/
structure Reported where
  actual : Option ClickValues
  heldMask : HeldMask
  lamps : LampControls
deriving DecidableEq, Repr

/-- LINK_STATE (Table 7.4). -/
inductive LinkState where
  | off
  | seek
  | training
  | up
deriving DecidableEq, Repr

/-- LINK_RATE (Table 7.5). -/
inductive LinkRate where
  | full
  | reduced
deriving DecidableEq, Repr

/-- LINK_CAUSE (Table 7.6). -/
inductive LinkCause where
  | role
  | answered
  | trained
  | downshift
  | exhausted
  | silence
  | errors
  | retrain
  | pageTimeout
  | tooFar
deriving DecidableEq, Repr

/-- TRAINING_PAGE (Table 7.7). -/
inductive PageKind where
  | ident
  | ability
  | delayProbe
  | settings
  | ready
deriving DecidableEq, Repr

/-- The contents of a SETTINGS page, made up when it is first sent (R95, R126). -/
structure SettingsPage where
  assigned : Assigned
  delay : Nat
  expected : Option Patch
  deferMark : Bool
deriving DecidableEq, Repr

/-- The training page awaiting its reply (R123, R125). -/
structure Page where
  kind : PageKind
  toggle : Bool
  firstSent : Sample
  nextRepeat : Sample
  settings : Option SettingsPage
deriving DecidableEq, Repr

/-- The two lamps of a station (R138). -/
inductive Lamp where
  | cue
  | stop
deriving DecidableEq, Repr

/-- LAMP_TICK with its value: milliseconds, or ticks per beat (Table 7.9). -/
inductive LampTick where
  | time (ms : Nat)
  | beat (perBeat : Nat)
deriving DecidableEq, Repr

/-- A lamp pattern: 8 bits shown most significant first, then a pause (07 section 7.6). -/
structure LampPattern where
  tick : LampTick
  bits : BitVec 8
  pause : Nat
deriving DecidableEq, Repr

/-- The source that set a lamp's present pattern (R138). -/
inductive LampSource where
  | show_
  | cue
  | host
deriving DecidableEq, Repr

/-- A runner of a BEAT pattern (R139). -/
structure Runner where
  perBeat : Nat
  bit : Nat
  pauseLeft : Nat
  last : Option Bool
deriving DecidableEq, Repr

/-- A lamp's present pattern, its source and, for BEAT, its runner (R138). -/
structure LampState where
  pattern : LampPattern
  source : LampSource
  runner : Option Runner
deriving DecidableEq, Repr

/-- What a LAMP event carries: a TIME pattern or a level (Table 7.8). -/
inductive LampDrive where
  | pattern (p : LampPattern)
  | level (on : Bool)
deriving DecidableEq, Repr

/-- A timed event of an outbound queue (Table 7.8). A CANCEL is never placed in a queue (R137). -/
inductive Event where
  | click (due : Sample) (level : ClickLevel)
  | patch (due : Sample) (patch : Patch) (force : Bool) (serial : Nat)
  | lamp (due : Sample) (lamp : Lamp) (drive : LampDrive)
deriving DecidableEq, Repr

/-- A test frame whose echo is not judged yet (R142). -/
structure TestFrame where
  number : Nat
  sentAt : Sample
deriving DecidableEq, Repr

/-- A link test in progress (R142). -/
structure LinkTest where
  tag : Nat
  began : Sample
  /-- The number of the next frame to send, 256 when all are sent. -/
  nextFrame : Nat
  outstanding : List TestFrame
  mismatches : Nat
deriving DecidableEq, Repr

/-- A parameter relay in flight (R143). -/
structure Relay where
  tag : Nat
  serial : Nat
  start : Sample
  write : Bool
deriving DecidableEq, Repr

/-- The link record (R123). The lead is the delay plus 96 (R127). -/
structure Link where
  state : LinkState
  rate : LinkRate
  tries : Nat
  seekHoldEnd : Option Sample
  /-- The sample of the next SEEK burst, in SEEK (R124). -/
  nextBurst : Option Sample
  page : Option Page
  toggle : Bool
  delay : Option Nat
  stationSerial : Option Nat
  reportedKind : Option StationKind
  rigCapable : Option Bool
  /-- Whether FULL and whether REDUCED is offered. -/
  ratesOffered : Option (Bool × Bool)
  serialLastUp : Option Nat
  lastFailure : Option (LinkCause × Sample)
  silenceEnd : Option Sample
  errorCount : Nat
  windowEnd : Option Sample
  /-- The sample of the next repeated settings frame, while UP (R121). -/
  refreshAt : Option Sample
  queue : List Event
  lateCount : Nat
  cueLamp : Option LampState
  stopLamp : Option LampState
  test : Option LinkTest
  relay : Option Relay
  relaySerial : Nat
deriving DecidableEq, Repr

/-- A channel: its station record and its link record (07). -/
structure Channel where
  assigned : Assigned
  reported : Reported
  link : Link
deriving DecidableEq, Repr

/-- MD_OUTCOME (Table 7.11), with the refusal reasons an input can meet. -/
inductive MdOutcome where
  /-- GO fired a cue, with the cue and its slot. -/
  | fired (cue : Nat) (slot : SlotName)
  /-- RELEASE accepted or TAP taken. -/
  | taken
  | disabled
  | notMd
  | notTaken
  | holdTaken
  | continueTaken
  | stopTaken
  | stopAdded
  | wrongState
  | debounced
  | notFound
  | goQueueFull
  | notVamping
deriving DecidableEq, Repr

/-! ## Video Input Monitor (08) -/

/-- The scan of a format (R145). -/
inductive Scan where
  | progressive
  | interlaced
deriving DecidableEq, Repr

/-- A format entry (R145). -/
structure Format where
  lines : Nat
  period : Nat
  tolerance : Nat
  scan : Scan
  width : Nat
  rows : Nat
deriving DecidableEq, Repr

/-- LOCK_STATE (Table 8.3). -/
inductive LockState where
  | noSignal
  | searching
  | locked
deriving DecidableEq, Repr

/-- INPUT_MODE (Table 8.4). -/
inductive InputMode where
  | autoDetect
  | forced (entry : EntryNo)
deriving DecidableEq, Repr

/-- The record of one input (R147). -/
structure InputRecord where
  mode : InputMode
  lockCount : Nat
  unlockCount : Nat
  syncPresent : Bool
  syncWatchEnd : Option Sample
  lastFrame : Option Sample
  /-- Measurement valid: the next frame start will be measured (R148). -/
  valid : Bool
  /-- Sync edges counted since the last frame start (R148). -/
  edges : Nat
  lines : Option Nat
  period : Option Nat
  lock : LockState
  matched : Option EntryNo
  matchCount : Nat
  missCount : Nat
  missEnd : Option Sample
  lockStart : Option Sample
deriving DecidableEq, Repr

/-- SELECTION_MODE (Table 8.5). -/
inductive SelectionMode where
  | auto
  | forceA
  | forceB
deriving DecidableEq, Repr

/-- The selection record (R154). -/
structure Selection where
  mode : SelectionMode
  hold : Nat
  chosen : Option Input
  inEffect : Option Input
  pendingChange : Option Input
  returnTime : Option Sample
deriving DecidableEq, Repr

/-- The Video Input Monitor's state (R145, R147, R154). -/
structure VideoIn where
  formats : Vector (Option Format) 16
  inputA : InputRecord
  inputB : InputRecord
  selection : Selection
  /-- MODEL: the sample at which A's present return time was reached with no input chosen, for the last
  sentence of R154 (log 55). -/
  returnReached : Option Sample
  /-- MODEL: S has reached A's present return time, which does not act again (log 46). -/
  returnSpent : Bool
deriving DecidableEq, Repr

/-- The event of a VIDEO_STATE notice (R157). -/
inductive VideoEvent where
  | lock
  | select
  | effect
deriving DecidableEq, Repr

/-! ## Video Output Mixer (09) -/

/-- OUTPUT_SOURCE (Table 9.2). -/
inductive OutputSource where
  | selected
  | a
  | b
deriving DecidableEq, Repr

/-- FALLBACK_PATTERN (Table 9.3). -/
inductive Fallback where
  | black
  | bars
  | card
deriving DecidableEq, Repr

/-- A palette colour (R161). -/
structure Colour where
  red : Nat
  green : Nat
  blue : Nat
deriving DecidableEq, Repr

/-- The record of one overlay field in a layout (R162). -/
structure FieldRecord where
  column : Nat
  row : Nat
  foreground : Fin 8
  background : Fin 8
  enabled : Bool
deriving DecidableEq, Repr

/-- An overlay layout (R162); `downbeat` is the FLASH field's downbeat colour. -/
structure Layout where
  cue : FieldRecord
  position : FieldRecord
  flash : FieldRecord
  banner : FieldRecord
  countdown : FieldRecord
  text : FieldRecord
  downbeat : Fin 8
deriving DecidableEq, Repr

/-- OVERLAY_FIELD (Table 9.4). -/
inductive OverlayField where
  | cue
  | position
  | flash
  | banner
  | countdown
  | text
deriving DecidableEq, Repr

/-- The state of an output's frame in progress (R159). -/
inductive FrameState where
  | picture
  | fill
  | fallback
deriving DecidableEq, Repr

/-- The frame in progress: its state, the source input it was started for, and the format entry whose
fields were taken at its start (R159). -/
structure FrameInProgress where
  state : FrameState
  input : Option Input
  format : Format
deriving DecidableEq, Repr

/-- A banner as latched (R166). -/
inductive Banner where
  | stop
  | hold
  | localControl
  | host (text : Text)
deriving DecidableEq, Repr

/-- The values an output latches at a frame start (R166). -/
structure Latched where
  palette : Vector Colour 8
  cue : Option RunningCue
  sounded : Option BeatRecord
  countdown : Option Nat
  banner : Option Banner
deriving DecidableEq, Repr

/-- The record of one output (R158, R167). -/
structure OutputRecord where
  enabled : Bool
  source : OutputSource
  mask : FieldMask
  fallback : Fallback
  holdFormat : EntryNo
  flashAdvance : Nat
  flashFrames : Nat
  layout : Layout
  adoptionDue : Bool
  litOnset : Option Sample
  framesLeft : Nat
  litColour : Fin 8
  lastFrame : Option Sample
  frame : Option FrameInProgress
  /-- A picture frame has been shown since the output was last enabled (R159). -/
  shownPicture : Bool
  latched : Option Latched
deriving DecidableEq, Repr

/-- The Video Output Mixer's state (R158, R161, R164, R165). -/
structure VideoOut where
  outputs : Vector OutputRecord 4
  palette : Vector Colour 8
  pendingLayout : Layout
  committed : Layout
  staged : Option Layout
  bannerText : Text
deriving DecidableEq, Repr

/-! ## Control Port (10): refusals, replies, notices -/

/-- REFUSAL_REASON (Table 10.5). -/
inductive Reason where
  | badFrame
  | badKind
  | badLength
  | badValue
  | wrongState
  | busy
  | notFound
  | full
  | editOpen
  | editNotOpen
  | editPending
  | notVamping
  | stopAsserted
  | debounced
  | goQueueFull
  | notReady
  | timeout
  | aborted
deriving DecidableEq, Repr

/-- COMMIT_RESULT (Table 3.6). -/
inductive CommitResult where
  | applied
  | pendingApply
deriving DecidableEq, Repr

/-- The reset kinds (00 section 0.5). -/
inductive ResetKind where
  | powerUp
  | restart
deriving DecidableEq, Repr

/-- The clock record (R9). -/
structure ClockRecord where
  clockState : ClockState
  pendingSwitch : Bool
  wordPreferred : Bool
  autoSwitch : Bool
  edgesAbsent : Bool
  rateHz : Nat
  goodRun : Nat
  at_ : Sample
deriving DecidableEq, Repr

/-- The detail of a refusal (R171): what a refused COMMIT_EDIT names (R58), and the clock record of a
refused CLOCK request (R9). -/
inductive Detail where
  | none_
  | map (number : Nat)
  | cue (number : Nat)
  | clock (r : ClockRecord)
deriving DecidableEq, Repr

/-- The STATUS reply (Table 10.7). -/
structure StatusRecord where
  S : Sample
  lastReset : ResetKind
  showState : ShowState
  mode : ControlMode
  clockState : ClockState
  edit : EditState
  serial : Nat
  standby : Option Nat
  running : Option Nat
  lost : Bool
  noticesQueued : Nat
  placesFree : Nat
  lineRate : Fin 4
  linksUp : Nat
  linksReduced : Nat
  inEffect : Option Input
  stopRecord : Bool
deriving DecidableEq, Repr

/-- Counts of cues, patch entries, maps and (declared) segments (R55, R62, R64). -/
structure BookCounts where
  cues : Nat
  entries : Nat
  maps : Nat
  segments : Nat
deriving DecidableEq, Repr

/-- The SUMMARY reply of CUE_QUERY (R64). -/
structure SummaryRecord where
  counts : BookCounts
  firstCue : Option Nat
  lastCue : Option Nat
  /-- The book serial for BOOK, the serial copied from for EDIT. -/
  serial : Nat
  /-- For EDIT, the number of incomplete maps. -/
  incompleteMaps : Option Nat
  edit : EditState
  standby : Option Nat
  running : Option Nat
deriving DecidableEq, Repr

/-- The MAP reply of CUE_QUERY (R64). -/
structure MapRecord where
  declared : Nat
  received : Nat
  complete : Bool
  lastBar : Option Nat
  segments : List Segment
deriving DecidableEq, Repr

/-- The engine's part of the RUN reply (R24, R83). -/
structure PositionRecord where
  map : Nat
  segmentIndex : Nat
  bar : Int
  beatInBar : Nat
  pass : Nat
  tempo : Nat
  denominator : Option Nat
deriving DecidableEq, Repr

/-- The RUN reply of CUE_QUERY (R83). -/
structure RunRecord where
  showState : ShowState
  mode : ControlMode
  localEntry : Option LocalEntry
  standby : Option Nat
  barMark : Bool
  running : Option (Nat × Sample)
  warned : Option Nat
  inFlight : Option Flight
  queued : Option FiredCue
  lockoutMs : Nat
  lockoutEnd : Option Sample
  edit : EditState
  engine : EngineState
  position : Option PositionRecord
deriving DecidableEq, Repr

/-- The STOP_QUERY reply (R118). -/
structure StopQueryRecord where
  showState : ShowState
  holdPending : Option HoldPending
  continuePending : Option ContinuePending
  stopRecord : Option StopRecord
  activeOpen : Bool
  lineMode : LineMode
  qualifyMs : Nat
  qualifier : Qualifier
  timerEnd : Option Sample
  asserted : Bool
  silenceLimit : Nat
  silenceEnd : Option Sample
deriving DecidableEq, Repr

/-- The outcome of a LAMP request on one station (R140). -/
inductive LampOutcome where
  | queued
  | running
  | dropped
  | notUp
deriving DecidableEq, Repr

/-- The result of a link test (R142). -/
inductive TestResult where
  | pass
  | fail (mismatches : Nat)
  | aborted
deriving DecidableEq, Repr

/-- The link part of the STATION_QUERY reply (R144). -/
structure LinkReport where
  state : LinkState
  rate : LinkRate
  tries : Nat
  lastFailure : Option (LinkCause × Sample)
  delay : Option Nat
  lead : Option Nat
  stationSerial : Option Nat
  reportedKind : Option StationKind
  rigCapable : Option Bool
  ratesOffered : Option (Bool × Bool)
  errorCount : Nat
  windowEnd : Option Sample
  clicks : Nat
  patches : Nat
  lampEvents : Nat
  cueLamp : Option (LampPattern × LampSource)
  stopLamp : Option (LampPattern × LampSource)
  testing : Bool
  relaying : Bool
  lateCount : Nat
deriving DecidableEq, Repr

/-- The contents of an OK reply after its kind and flags (R171), by request. -/
inductive ReplyBody where
  | empty
  | status (r : StatusRecord)
  | noticeMask (mask : BitVec 13)
  | clock (r : ClockRecord)
  | editBegun (serial : Nat) (counts : BookCounts)
  | cueCounts (cues entries : Nat)
  | mapCounts (received declared total : Nat)
  | commit (result : CommitResult)
  | abandoned (found : EditState)
  | summary (r : SummaryRecord)
  | cue (c : Cue)
  | map (r : MapRecord)
  | run (r : RunRecord)
  | fired (cue : Nat) (slot : SlotName) (changePoint : Option Sample) (standby : Option Nat)
  | lockout (ms : Nat)
  | standby (cue : Option Nat)
  | holdPoint (at_ : Sample)
  | continueStart (start countIn : Nat)
  | stopRecord (r : Option StopRecord)
  | resume (start : Sample) (map : Option Nat) (bar countIn : Nat)
  | stopQuery (r : StopQueryRecord)
  | stopLine (mode : LineMode) (time : Nat) (qualifier : Qualifier)
  | stationsWritten (count : Nat) (assigned : Assigned)
  | retrained (count : Nat)
  | lampOutcome (o : LampOutcome)
  | lampCounts (queued running dropped notUp : Nat)
  | testResult (r : TestResult) (began ended : Sample)
  | relayed (value : BitVec 32)
  | station (assigned : Assigned) (reported : Reported) (link : LinkReport) (patch : PatchRecord)
  | format (f : Option Format)
  | input (r : InputRecord)
  | selection (r : Selection)
  | output (r : OutputRecord)
  | adoptions (outputs : Nat)
deriving DecidableEq, Repr

/-- An owner's answer to a request (R170). A deferred answer gives no reply yet. -/
inductive Answer where
  | ok (clamped : Bool) (body : ReplyBody)
  | refused (reason : Reason) (detail : Detail)
  | deferred
deriving DecidableEq, Repr

/-- A reply awaiting transmission (R170, R171). -/
structure Reply where
  kind : Nat
  tag : Nat
  answer : Answer
  /-- The reply holds a place of the request buffer. -/
  place : Bool
deriving DecidableEq, Repr

/-- A REJECT (R169, R170). -/
structure Reject where
  reason : Reason
  tag : Nat
deriving DecidableEq, Repr

/-- The stop a SHOW_STOP notice reports (R112). -/
inductive StopNotice where
  | new (record : StopRecord)
  | added (source : StopSource) (causes : StopCauses)
deriving DecidableEq, Repr

/-- The cause of CUE_CANCELLED (R77, R78). -/
inductive CancelCause where
  | stop
  | endShow
deriving DecidableEq, Repr

/-- The notices (Table 10.4). -/
inductive Notice where
  | cueFired (at_ : Sample) (fired : FiredCue) (changePoint : Sample) (mapRef : MapRef)
      (standby : Option Nat) (promoted : Bool)
  | cueCancelled (cause : CancelCause) (at_ : Sample) (inFlight : Option FiredCue)
      (queued : Option FiredCue) (reverted : Option Nat)
  | mapEnd (map : Nat) (onset at_ : Sample)
  | patchState (station : Station) (cause : PatchStateCause) (at_ : Sample) (state : PendingState)
      (patch : Patch) (sent : Option (Sample × Nat))
  | patchMismatch (station : Station) (cause : MismatchCause) (at_ : Sample)
      (confirmed expected : Option Patch)
  | linkState (station : Station) (before after : LinkState) (rate : LinkRate) (cause : LinkCause)
      (at_ : Sample) (entry : Option (Nat × Nat × Nat × Bool))
  | videoState (event : VideoEvent) (input : Option Input) (before after : Option LockState)
      (matched : Option EntryNo) (lines period : Option Nat) (mode : Option InputMode)
      (selection : Selection) (at_ : Sample)
  | showState (before after : ShowState) (cause : ShowCause) (at_ : Sample) (beat : Option Sample)
  | showStop (at_ : Sample) (stop : StopNotice)
  | clock (cause : ClockCause) (state : ClockState) (at_ : Sample) (rateHz : Nat)
  | controlMode (mode : ControlMode) (entered : Sample) (returned : Option (Sample × Nat))
  | mdInput (station : Station) (input : MdInput) (at_ : Sample) (outcome : MdOutcome)
  | editCommitted (serial : Nat) (at_ : Sample) (counts : BookCounts) (standby : Option Nat)
      (changed : Bool)
deriving DecidableEq, Repr

/-- The phase of the frame assembler (R169). -/
inductive Phase where
  | hunt
  | header
  | body
  | check
deriving DecidableEq, Repr

/-- The frame being sent (R172). A reply or a notice being sent is still at the head of its queue. -/
inductive Sending where
  | reject (r : Reject)
  | reply
  | notice
deriving DecidableEq, Repr

/-- The Control Port's state (R168 to R175). -/
structure ControlPort where
  /-- LINE_RATE (Table 10.2). -/
  lineRate : Fin 4
  phase : Phase
  /-- LENGTH, KIND, TAG, payload and CHECK bytes taken of the frame in progress. -/
  bytes : List Byte
  /-- Bytes still expected in the present phase. -/
  expected : Nat
  lastByteAt : Option Sample
  rejects : List Reject
  replies : List Reply
  sending : Option Sending
  restarting : Bool
  notices : List Notice
  lost : Bool
  /-- Bit k is the enable of notice kind 0xC0 + k (R173). -/
  mask : BitVec 13
  lastReset : ResetKind
deriving DecidableEq, Repr

/-! ## What the ports put out -/

/-- A frame sent on a Pit Link (07). -/
inductive LinkFrame where
  | seekBurst
  | page (page : Page)
  | settings (assigned : Assigned)
  | event (e : Event)
  | cancel (from_ : Sample)
  | test (number : Nat)
  | relay (serial : Nat) (number : Nat) (write : Option (BitVec 32))
deriving DecidableEq, Repr

/-- A frame sent on the serial line (R171, R173). -/
inductive SerialFrame where
  | reject (r : Reject)
  | reply (r : Reply)
  | notice (n : Notice)
deriving DecidableEq, Repr

/-- What the picture of an output frame is drawn from (R159). -/
inductive Picture where
  | input (i : Input)
  | lastPicture
  | pattern (f : Fallback)
deriving DecidableEq, Repr

/-- The contents of a drawn overlay field (R163). -/
inductive FieldContent where
  | text (t : Text)
  | box (colour : Fin 8)
deriving DecidableEq, Repr

/-- One cell of the picture as an overlay field writes it (R162): a character in the foreground colour, or
none, on a cell of the background colour. -/
structure OverlayCell where
  character : Option Nat
  foreground : Fin 8
  background : Fin 8
deriving DecidableEq, Repr

/-- A drawn overlay field with its cells, row by row from its column and row (R162, R163). -/
structure DrawnField where
  field : OverlayField
  record : FieldRecord
  content : FieldContent
  cells : List (List OverlayCell)
deriving DecidableEq, Repr

/-- An output frame as composed at its frame start (R159, R162, R163, R166, R167). -/
structure OutputFrame where
  stamp : Sample
  state : FrameState
  format : EntryNo
  scan : Scan
  picture : Picture
  palette : Vector Colour 8
  fields : List DrawnField
deriving DecidableEq, Repr

/-- One thing a command put on a port of the part. -/
inductive Emission where
  /-- A Pit Link frame, with the value of S at its sending (R122). -/
  | link (station : Station) (stamp : Sample) (frame : LinkFrame)
  | serial (frame : SerialFrame)
  | output (output : OutputNo) (frame : OutputFrame)
deriving DecidableEq, Repr

/-- A report a block hands during an act, taken when the act is complete (R73, R116). -/
inductive Report where
  | barReached (bar pass : Nat)
  | changeDue
  | mapEnd
  | continueReached (at_ : Sample)
  | resumeReached (at_ : Sample)
deriving DecidableEq, Repr

/-! ## The whole state -/

/-- The state of the FB-2410. -/
structure State where
  time : Timebase
  click : ClickEngine
  cue : CueEngine
  patches : Vector PatchRecord 24
  ctl : ShowControl
  chan : Vector Channel 24
  vin : VideoIn
  vout : VideoOut
  port : ControlPort
  /-- MODEL: reports handed and not yet taken; empty between commands. -/
  reports : List Report
  /-- MODEL: what the last command put on the ports, oldest first (log 10). -/
  emitted : List Emission
  /-- MODEL: the commands that wait, first in, first out. -/
  pending : List Instr
deriving DecidableEq, Repr

/-! ## Values after POWER_UP -/

/-- R1, R3 to R6 at POWER_UP. -/
def Timebase.powerUp (wordPreferred : Bool) : Timebase where
  S := 0
  advance := 0
  clockState := .internal
  pendingSwitch := none
  wordPreferred := wordPreferred
  autoSwitch := wordPreferred
  watch := 0
  edgesAbsent := false
  windowPosition := 0
  windowEdges := 0
  windowSpoiled := false
  lastWindowEdges := 0
  goodRun := 0

/-- R46. -/
def ClickEngine.powerUp : ClickEngine where
  context := none
  held := false
  limit := none
  holdPoint := none
  release := false
  taps := []
  kept := []
  reach := none

/-- The empty book (R47, R54). -/
def Book.empty : Book := ⟨[], []⟩

/-- R47, R54 and the firing record of R65 at POWER_UP. -/
def CueEngine.powerUp : CueEngine where
  book := Book.empty
  serial := 0
  edit := .closed
  buffer := Book.empty
  copiedFrom := 0
  standby := none
  running := none
  warned := none
  inFlight := none
  queued := none
  lockoutMs := Config.lockoutDefault
  lockoutEnd := none
  barMark := false
  mode := .remote
  localEntry := none

/-- R84. -/
def PatchRecord.powerUp : PatchRecord where
  confirmed := none
  expected := none
  held := .clear
  serial := 0
  entry := none

/-- R80, R100 and R108 at POWER_UP, with the line read at S = 0 and the default qualification time of
20 ms (960 samples). -/
def ShowControl.powerUp (activeOpen lineActive : Bool) : ShowControl where
  state := .dark
  holdPending := none
  continuePending := none
  stopRecord := none
  lineMode := .level
  qualifyMs := Config.qualifyDefault
  activeOpen := activeOpen
  qualifier := if lineActive then .qualifying else .idle
  timerEnd := if lineActive then some (Config.samplesPerMs * Config.qualifyDefault) else none
  lineActive := lineActive
  silenceLimit := Config.silenceLimitDefault
  silenceEnd := some (Config.silenceLimitDefault * Config.silenceUnit)

/-- R119: the assigned part at POWER_UP. -/
def Assigned.powerUp : Assigned where
  role := .unused
  kind := .click
  name := []
  click := ⟨true, 1, true, false, 8⟩
  md := ⟨false, false, false, false, false⟩
  linkTries := 3
  errorLimit := 3

/-- R119: the reported part after a reset and while the link is not UP. -/
def Reported.cleared : Reported where
  actual := none
  heldMask := ⟨false, false, false, false, false⟩
  lamps := ⟨.part, .part⟩

/-- R123: the link record at POWER_UP. -/
def Link.powerUp : Link where
  state := .off
  rate := .full
  tries := 0
  seekHoldEnd := none
  nextBurst := none
  page := none
  toggle := false
  delay := none
  stationSerial := none
  reportedKind := none
  rigCapable := none
  ratesOffered := none
  serialLastUp := none
  lastFailure := none
  silenceEnd := none
  errorCount := 0
  windowEnd := none
  refreshAt := none
  queue := []
  lateCount := 0
  cueLamp := none
  stopLamp := none
  test := none
  relay := none
  relaySerial := 0

/-- A channel at POWER_UP (R119, R123). -/
def Channel.powerUp : Channel := ⟨Assigned.powerUp, Reported.cleared, Link.powerUp⟩

/-- Table 8.2: the built-in format entries, and the empty host entries 10..15 (R145). -/
def Format.table : Vector (Option Format) 16 :=
  #v[some ⟨525, 33367, 7, .interlaced, 90, 60⟩,
     some ⟨625, 40000, 7, .interlaced, 90, 72⟩,
     some ⟨750, 16683, 7, .progressive, 160, 90⟩,
     some ⟨750, 16667, 7, .progressive, 160, 90⟩,
     some ⟨750, 20000, 7, .progressive, 160, 90⟩,
     some ⟨1125, 33367, 7, .interlaced, 240, 135⟩,
     some ⟨1125, 40000, 7, .interlaced, 240, 135⟩,
     some ⟨1125, 16683, 7, .progressive, 240, 135⟩,
     some ⟨1125, 16667, 7, .progressive, 240, 135⟩,
     some ⟨1125, 20000, 7, .progressive, 240, 135⟩,
     none, none, none, none, none, none]

/-- R147: an input record at POWER_UP. -/
def InputRecord.powerUp : InputRecord where
  mode := .autoDetect
  lockCount := 8
  unlockCount := 3
  syncPresent := false
  syncWatchEnd := none
  lastFrame := none
  valid := false
  edges := 0
  lines := none
  period := none
  lock := .noSignal
  matched := none
  matchCount := 0
  missCount := 0
  missEnd := none
  lockStart := none

/-- R154, R156: the selection record at POWER_UP, with the choice of A taken and in effect. -/
def Selection.powerUp : Selection where
  mode := .auto
  hold := 5
  chosen := some .a
  inEffect := some .a
  pendingChange := none
  returnTime := none

/-- The Video Input Monitor at POWER_UP. -/
def VideoIn.powerUp : VideoIn :=
  ⟨Format.table, InputRecord.powerUp, InputRecord.powerUp, Selection.powerUp, none, false⟩

/-- R162: the layout at POWER_UP. -/
def Layout.powerUp : Layout where
  cue := ⟨1, 1, 1, 0, true⟩
  position := ⟨1, 3, 1, 0, true⟩
  flash := ⟨1, 5, 5, 0, false⟩
  banner := ⟨1, 8, 1, 2, false⟩
  countdown := ⟨15, 3, 5, 0, false⟩
  text := ⟨1, 10, 1, 0, false⟩
  downbeat := 2

/-- R161: the palette after a reset: black, white, red, green, blue, yellow, cyan, grey. -/
def Colour.powerUpPalette : Vector Colour 8 :=
  #v[⟨0, 0, 0⟩, ⟨255, 255, 255⟩, ⟨255, 0, 0⟩, ⟨0, 255, 0⟩, ⟨0, 0, 255⟩, ⟨255, 255, 0⟩,
     ⟨0, 255, 255⟩, ⟨128, 128, 128⟩]

/-- R158: an output record after a reset, over the committed layout. -/
def OutputRecord.afterReset (enabled : Bool) (committed : Layout) : OutputRecord where
  enabled := enabled
  source := .selected
  mask := ⟨true, true, true, true, true, true⟩
  fallback := .card
  holdFormat := 2
  flashAdvance := 1920
  flashFrames := 2
  layout := committed
  adoptionDue := false
  litOnset := none
  framesLeft := 0
  litColour := 0
  lastFrame := none
  frame := none
  shownPicture := false
  latched := none

/-- R158, R161, R164, R165: the Video Output Mixer after a reset, over the committed layout that
reset leaves. -/
def VideoOut.afterReset (committed : Layout) : VideoOut where
  outputs := #v[OutputRecord.afterReset true committed, OutputRecord.afterReset false committed,
    OutputRecord.afterReset false committed, OutputRecord.afterReset false committed]
  palette := Colour.powerUpPalette
  pendingLayout := committed
  committed := committed
  staged := none
  bannerText := []

/-- R168 to R175: the Control Port after a reset of kind `kind`. -/
def ControlPort.afterReset (lineRate : Fin 4) (kind : ResetKind) : ControlPort where
  lineRate := lineRate
  phase := .hunt
  bytes := []
  expected := 0
  lastByteAt := none
  rejects := []
  replies := []
  sending := none
  restarting := false
  notices := []
  lost := false
  mask := BitVec.allOnes 13
  lastReset := kind

/-- The state POWER_UP sets: all state at its power-up value, S = 0, the straps read (00 section 0.5),
and the stop line read (R108). The queue of commands is not the part's. -/
def State.powerUp (straps : Straps) (lineActive : Bool) (pending : List Instr) : State where
  time := Timebase.powerUp straps.wordPreferred
  click := ClickEngine.powerUp
  cue := CueEngine.powerUp
  patches := Vector.replicate 24 PatchRecord.powerUp
  ctl := ShowControl.powerUp straps.activeOpen lineActive
  chan := Vector.replicate 24 Channel.powerUp
  vin := VideoIn.powerUp
  vout := VideoOut.afterReset Layout.powerUp
  port := ControlPort.afterReset straps.lineRate .powerUp
  reports := []
  emitted := []
  pending := pending

/-- The machine right after reset: POWER_UP with every strap at value 0 and an inactive stop line
(DESIGN CHOICE, log 7), and no command waiting. -/
def State.reset : State := State.powerUp ⟨0, false, false⟩ false []

end Sys2Proof.Machine
end

