-- ==== Sys2Proof/Machine/Arith.lean ====
section
/-! DEFINITION. The Timebase's arithmetic (01 sections 1.5 to 1.10) and the position arithmetic of a
tempo map (02 sections 2.1, 2.3, 2.5, 2.8): pure functions that every block calls on. -/

namespace Sys2Proof.Machine

/-! ## Clamps -/

/-- The nearest value of `low..high`. -/
def clampTo (low high n : Nat) : Nat := min high (max low n)

/-- R14: a tempo brought into 2,000..40,000. -/
def clampTempo (t : Nat) : Nat := clampTo Config.tempoMin Config.tempoMax t

/-- A count that saturates at `top`. -/
def addSat (top n k : Nat) : Nat := min top (n + k)

/-! ## Periods and onsets -/

/-- R15: the beat period P(T) in sample fractions. -/
def beatPeriod (tempo : Nat) : Nat := Config.periodConstant / tempo

/-- R16: the sample of an accumulator value. -/
def onsetOf (acc : Nat) : Sample := acc / Config.fractionsPerSample

/-- R16: the accumulator re-based at a sample. -/
def rebase (s0 : Sample) : Nat := s0 * Config.fractionsPerSample

/-- R17: the subdivision onsets of a beat at accumulator `acc` with period `p`, for subdivision `d`. -/
def subOnsets (acc p d : Nat) : List Sample :=
  (List.range (d - 1)).map fun j => onsetOf (acc + (j + 1) * p / d)

/-- R17, R27: the subdivision onsets for every d of 2, 3, 4, 6 and 8. -/
def subdivisionsOf (acc p : Nat) : Subdivisions where
  two := subOnsets acc p 2
  three := subOnsets acc p 3
  four := subOnsets acc p 4
  six := subOnsets acc p 6
  eight := subOnsets acc p 8

/-- The onsets a subdivision picks from a record (R17, R30, R139); none for d = 1. -/
def Subdivisions.pick (x : Subdivisions) (d : Nat) : List Sample :=
  if d = 2 then x.two else if d = 3 then x.three else if d = 4 then x.four
  else if d = 6 then x.six else if d = 8 then x.eight else []

/-- R18: the tempo of beat `i` of a segment of `n` beats from `start` towards `target`, the quotient
truncated toward zero before it is added. -/
def rampTempo (start : Nat) (target : Option Nat) (n i : Nat) : Nat :=
  match target with
  | none => start
  | some t => ((start : Int) + (((t : Int) - start) * i).tdiv n).toNat

/-! ## Taps -/

/-- What a tap does to the tap list (R19). -/
inductive TapResult where
  | bounce
  | stored (taps : List Sample)
deriving DecidableEq, Repr

/-- R19: a tap with stamp `t` against the tap list. -/
def storeTap (taps : List Sample) (t : Sample) : TapResult :=
  match taps.getLast? with
  | none => .stored [t]
  | some last =>
    if last + Config.tapGap < t then .stored [t]
    else if t ≤ last ∨ t - last < Config.tapBounce then .bounce
    else if taps.length < Config.tapListSize then .stored (taps ++ [t])
    else .stored (taps.drop 1 ++ [t])

/-- R20: the mean interval of a tap list of two or more stamps. -/
def tapInterval (taps : List Sample) : Nat :=
  (taps.getLastD 0 - taps.headD 0) / (taps.length - 1)

/-- R20: the tap tempo, 288,000,000 / I rounded half up and clamped. -/
def tapTempo (taps : List Sample) : Nat :=
  let i := tapInterval taps
  clampTempo ((Config.tapConstant + i / 2) / i)

/-- R40: the first onset of a TAP segment, `t + m * i` for the smallest m from 1 up that puts it after
`after`. -/
def tapFirstOnset (t i after : Nat) : Sample :=
  if after < t + i then t + i else t + ((after - t) / i + 1) * i

/-! ## Segments (R21, R22) -/

/-- R21: N, the beats of a segment, when it has bars. -/
def Segment.beats (g : Segment) : Option Nat := g.bars.map (· * g.beatsPerBar)

/-- The bars a segment takes in the static numbering: METERED and VAMP alone (R22). -/
def Segment.staticBars (g : Segment) : Nat :=
  match g.kind with
  | .metered | .vamp => g.bars.getD 0
  | .tap | .free => 0

/-- The segment has a METERED or VAMP kind, whose bars have static numbers (R22). -/
def Segment.isStatic (g : Segment) : Bool :=
  match g.kind with
  | .metered | .vamp => true
  | .tap | .free => false

/-- R22: the number of static bars before segment `i`. -/
def staticBefore (gs : List Segment) (i : Nat) : Nat :=
  ((gs.take i).map Segment.staticBars).sum

/-- R22: the number of the first bar of segment `i`: the next static number, or a TAP segment's first
running number; held at 9,999. -/
def firstBar (gs : List Segment) (i : Nat) : Nat :=
  min Config.barNumberMax (staticBefore gs i + 1)

/-- R22, R23: how many segments of a map are reachable: those before its first FREE segment and its
first TAP segment without bars, with that segment itself. -/
def reachableCount : List Segment → Nat
  | [] => 0
  | g :: gs =>
    if g.kind = .free ∨ (g.kind = .tap ∧ g.bars = none) then 1 else reachableCount gs + 1

/-- R22: the last bar of a map, or none when its reachable segments have no METERED or VAMP one. -/
def lastBar (gs : List Segment) : Option Nat :=
  let r := gs.take (reachableCount gs)
  if r.any Segment.isStatic then
    some (min Config.barNumberMax ((r.map Segment.staticBars).sum))
  else none

/-- R18, R27: the tempo of beat `i` of segment `g`; in a TAP segment the current tempo (R40). -/
def Segment.tempoAt (g : Segment) (i current : Nat) : Nat :=
  match g.kind with
  | .metered | .vamp => rampTempo g.startTempo g.target (g.beats.getD 1) i
  | .tap | .free => current

/-! ## The position in a context (R24 to R28, R38) -/

/-- The current segment, or none when the position is past the last (R23). -/
def Context.segment (c : Context) : Option Segment := c.segments[c.segmentIndex]?

/-- The position is past the last segment of the map (R23, R36). -/
def Context.pastLast (c : Context) : Bool := decide (c.segments.length ≤ c.segmentIndex)

/-- The onset the next beat would have (R16), E where no beat follows (R23). -/
def Context.nextOnset (c : Context) : Sample := onsetOf c.acc

/-- The tempo of the next beat (R18, R32, R40). -/
def Context.beatTempo (c : Context) : Nat :=
  match c.countIn with
  | some k => k.tempo
  | none =>
    match c.segment with
    | some g => g.tempoAt c.beatIndex c.tempo
    | none => c.tempo

/-- The next beat is beat 1 of a bar, count-in bars included (R33). -/
def Context.atDownbeat (c : Context) : Bool :=
  match c.countIn with
  | some k => decide (k.beat = 1)
  | none => decide (c.beatInBar = 1)

/-- The next beat is beat 1 of a bar and not a count-in beat (R41). -/
def Context.atMainDownbeat (c : Context) : Bool :=
  c.countIn.isNone && decide (c.beatInBar = 1)

/-- The position enters segment `i` (R28): beat index 0, pass 1, the next static or running number,
and the segment's start tempo as the current tempo. -/
def Context.enter (c : Context) (i : Nat) : Context :=
  { c with
    segmentIndex := i
    beatIndex := 0
    bar := firstBar c.segments i
    beatInBar := 1
    pass := 1
    tempo := ((c.segments[i]?).map Segment.startTempo).getD c.tempo
    tapPlaced := false
    moveDue := false }

/-- The position leaves its segment (R23, R28): at once into a METERED or VAMP segment and past the
last, where the pass count is 1 (R24); into a TAP or FREE segment only when its onset E comes within the
horizon (log 12). -/
def Context.leave (c : Context) : Context :=
  match c.segments[c.segmentIndex + 1]? with
  | none => { c with segmentIndex := c.segments.length, beatIndex := 0, pass := 1 }
  | some g => if g.isStatic then c.enter (c.segmentIndex + 1) else { c with moveDue := true }

/-- R28: the count-in after one of its beats. -/
def CountIn.next (k : CountIn) (beatsPerBar : Nat) : Option CountIn :=
  if k.remaining ≤ 1 then none
  else if beatsPerBar ≤ k.beat then
    some { k with remaining := k.remaining - 1, bar := k.bar - 1, beat := 1 }
  else some { k with remaining := k.remaining - 1, beat := k.beat + 1 }

/-- R28, R38: where the position of a main beat of segment `g` moves, with release flag `rel`: the new
context and whether the flag is consumed. The accumulator is the caller's. -/
def Context.advanceIn (c : Context) (g : Segment) (rel : Bool) : Context × Bool :=
  let barEnd := decide (g.beatsPerBar ≤ c.beatInBar)
  let moved : Context :=
    { c with
      beatIndex := c.beatIndex + 1
      beatInBar := if barEnd then 1 else c.beatInBar + 1
      bar := if barEnd then addSat Config.barNumberMax c.bar 1 else c.bar }
  let atEnd : Bool :=
    match g.beats with
    | some n => decide (n ≤ moved.beatIndex)
    | none => false
  match g.kind with
  | .metered | .tap => if atEnd then (moved.leave, false) else (moved, false)
  | .free => (moved, false)
  | .vamp =>
    if (atEnd || (barEnd && decide (g.vampExit = some .atBarEnd))) && rel then (moved.leave, true)
    else if atEnd then
      ({ moved with
          beatIndex := 0
          bar := firstBar c.segments c.segmentIndex
          pass := addSat Config.passMax c.pass 1 }, false)
    else (moved, false)

/-- R28: the context after the next beat has been produced, with release flag `rel`: P of the beat's tempo added to
A and the position moved on; and whether the flag is consumed (R38). The beat's tempo becomes the current tempo, a
count-in beat's too: so a tap stored during a count-in into a placed TAP segment does not set the tempo of the
segment's first beat (the model's choice, log 67). -/
def Context.advance (c : Context) (rel : Bool) : Context × Bool :=
  let c' := { c with acc := c.acc + beatPeriod c.beatTempo, tempo := c.beatTempo }
  match c.segment with
  | none => (c', false)
  | some g =>
    match c.countIn with
    | some k => ({ c' with countIn := k.next g.beatsPerBar }, false)
    | none => c'.advanceIn g rel

/-- The walk of R33 and R41: forward from the next beat to the first position where `stop` holds,
stopping early at `bound` (a pending hold point or production limit), at the onset E of a TAP or FREE
segment, and at the map end; it produces and hands nothing. -/
def walk (stop : Context → Bool) (bound : Option Sample) : Nat → Context → Bool → Sample
  | 0, c, _ => c.nextOnset
  | n + 1, c, rel =>
    match bound.filter (· ≤ c.nextOnset) with
    | some b => b
    | none =>
      if c.moveDue || c.pastLast || stop c then c.nextOnset
      else
        let r := c.advance rel
        walk stop bound n r.1 (rel && !r.2)

/-- Beats enough for any walk: four count-in bars and one bar, of 15 beats each (Table 2.1). -/
def walkLimit : Nat := 80

/-! ## Beat records (R27, R29, R32) -/

/-- R29: the countdown of a count-in beat: itself and the count-in beats after it. -/
def CountIn.countdown (k : CountIn) (beatsPerBar : Nat) : Nat :=
  (k.bar - 1) * beatsPerBar + (beatsPerBar - k.beat + 1)

/-- R27, R32: the accent level of the next beat. -/
def Context.beatLevel (c : Context) (g : Segment) : ClickLevel :=
  match c.countIn with
  | some k => if k.beat = 1 then .down else .beat
  | none =>
    if c.beatInBar = 1 then .down else if c.beatInBar ∈ g.accents then .accent else .beat

/-- R27: the beat record of the next beat. A count-in record has no pass, into a VAMP segment too (log 52). -/
def Context.record (c : Context) (g : Segment) : BeatRecord :=
  let p := beatPeriod c.beatTempo
  match c.countIn with
  | some k =>
    { onset := c.nextOnset
      bar := -(k.bar : Int)
      beatInBar := k.beat
      level := c.beatLevel g
      tempo := c.beatTempo
      pass := none
      countdown := some (k.countdown g.beatsPerBar)
      subs := subdivisionsOf c.acc p }
  | none =>
    { onset := c.nextOnset
      bar := c.bar
      beatInBar := c.beatInBar
      level := c.beatLevel g
      tempo := c.beatTempo
      pass := if g.kind = .vamp then some c.pass else none
      countdown := none
      subs := subdivisionsOf c.acc p }

/-- R26 step 6: the bar number and pass count of the bar-reached report the next beat gives, if any. -/
def Context.barReached (c : Context) (g : Segment) : Option (Nat × Nat) :=
  if c.atMainDownbeat && g.isStatic then some (c.bar, c.pass) else none

/-! ## Building contexts (R32, R35, R40, R43, R45) -/

/-- A context at the start of segment `i` of a map, re-based at `s0`, with no count-in. -/
def Context.start (map : Nat) (gs : List Segment) (i : Nat) (s0 : Sample) : Context where
  map := map
  segments := gs
  segmentIndex := i
  beatIndex := 0
  bar := firstBar gs i
  beatInBar := 1
  pass := 1
  countIn := none
  acc := rebase s0
  tempo := ((gs[i]?).map Segment.startTempo).getD 0
  lastOnset := none
  tapPlaced := false
  moveDue := false
  muteFirst := false

/-- `bars` count-in bars of `beatsPerBar` beats at `tempo`; none for no bars (R32, R43, R45). -/
def countInOf (bars beatsPerBar tempo : Nat) : Option CountIn :=
  if bars * beatsPerBar = 0 then none else some ⟨bars * beatsPerBar, bars, 1, tempo⟩

/-- R32, R35: the context a map number starts at change point `c0` with count-in `bars`. -/
def Context.build (map : Nat) (gs : List Segment) (c0 : Sample) (bars : Nat) : Context :=
  let c := Context.start map gs 0 c0
  match gs.head? with
  | some g => if g.isStatic then { c with countIn := countInOf bars g.beatsPerBar g.startTempo } else c
  | none => c

/-- R43, R45: the context re-based at `s` with `bars` count-in bars at the tempo and meter of its
position. A count-in that a hold was reached in is dropped: the new one leads straight into the beat it was to lead
into (R42, R43 do not say; the model's choice, log 68). -/
def Context.returnAt (c : Context) (s : Sample) (bars : Nat) : Context :=
  match c.segment with
  | none => c
  | some g =>
    { c with
      acc := rebase s
      countIn := countInOf bars g.beatsPerBar (g.tempoAt c.beatIndex c.tempo)
      lastOnset := none
      muteFirst := false }

/-- R43, R45: the sample of the beat that the count-in of a context leads into. -/
def Context.mainOnset (c : Context) : Sample :=
  match c.countIn with
  | none => c.nextOnset
  | some k => onsetOf (c.acc + k.remaining * beatPeriod k.tempo)

/-- R45: the first static bar of the map, in segment order, whose number is `target`: the segment and
the bar's offset in it. `i` and `before` are the index and static count reached. -/
def findBar (target : Nat) : List Segment → (i before : Nat) → Option (Nat × Nat)
  | [], _, _ => none
  | g :: gs, i, before =>
    match (List.range g.staticBars).find? fun b =>
      decide (min Config.barNumberMax (before + b + 1) = target) with
    | some b => some (i, b)
    | none => findBar target gs (i + 1) (before + g.staticBars)

/-- R45: the context of a RESUME at bar `target` with its position set and A at `s`, before its
count-in. -/
def Context.atBar (map : Nat) (gs : List Segment) (target : Nat) (s : Sample) : Context :=
  match findBar target gs 0 0 with
  | none => Context.start map gs 0 s
  | some (i, b) =>
    let c := Context.start map gs i s
    match gs[i]? with
    | none => c
    | some g =>
      { c with
        beatIndex := b * g.beatsPerBar
        bar := target
        tempo := g.tempoAt (b * g.beatsPerBar) g.startTempo }

end Sys2Proof.Machine
end

