-- ==== Sys2Proof/Machine/Flags.lean ====
section
/-! DEFINITION. The states, lines and marks that follow from other state: the engine state, the lead,
the word clock's judgement, the asserted stop line, the offered banner, the attention line. -/

namespace Sys2Proof.Machine

/-- R25: the engine state. Past the last segment it stays PLAYING until MAP_END (02 section 2.12,
log 13). -/
def ClickEngine.state (e : ClickEngine) : EngineState :=
  if e.held then .held
  else
    match e.context with
    | none => .silent
    | some c =>
      if c.countIn.isSome then .countIn
      else
        match c.segment with
        | none => .playing
        | some g =>
          match g.kind with
          | .metered => .playing
          | .vamp => .vamping
          | .tap => if c.tapPlaced then .playing else .waitTap
          | .free => .free

/-- The states in which the engine produces beats (R26). -/
def EngineState.produces : EngineState → Bool
  | .countIn | .playing | .vamping => true
  | .silent | .waitTap | .free | .held => false

/-- The states in which an idle mark counts a beat (R89). -/
def EngineState.idles : EngineState → Bool
  | .silent | .waitTap | .free => true
  | .countIn | .playing | .vamping | .held => false

/-- R127: the lead of a link. A link that has measured no delay is never UP. -/
def Link.lead (l : Link) : Nat := l.delay.getD 0 + Config.leadMargin

/-- R5: the word clock is judged good. -/
def Timebase.wordClockGood (t : Timebase) : Bool := decide (t.goodRun = Config.wcGoodRun)

/-- R5, R9: the rate of the last completed window in hertz. -/
def Timebase.rateHz (t : Timebase) : Nat := t.lastWindowEdges * 10

/-- R108: the stop line is asserted. -/
def ShowControl.asserted (c : ShowControl) : Bool :=
  match c.qualifier with
  | .qualified | .releasing => true
  | .idle | .qualifying => false

/-- R102, R115: the stop line holds START_PRESHOW and RESUME back. -/
def ShowControl.holdsBack (c : ShowControl) : Bool :=
  decide (c.lineMode = .level) && c.asserted

/-- R114: the Show State Controller offers the HOLD banner. -/
def ShowControl.offersHold (c : ShowControl) : Bool :=
  c.holdPending.isSome || decide (c.state = .holding)

/-- R166: the banner an output latches: STOP, else HOLD, else LOCAL CONTROL, else the host's text. -/
def bannerOf (c : ShowControl) (mode : ControlMode) (host : Text) : Option Banner :=
  if c.state = .stopped then some .stop
  else if c.offersHold then some .hold
  else if mode = .local_ then some .localControl
  else if host = [] then none
  else some (.host host)

/-- R173: the attention line is asserted. -/
def ControlPort.attention (p : ControlPort) : Bool := !p.notices.isEmpty

/-- R170: how many places of the request buffer are held. -/
def ControlPort.placesHeld (p : ControlPort) : Nat := (p.replies.filter Reply.place).length

/-- R113: the STOP lamp pattern of a show state. -/
def stopLampOf : ShowState → LampPattern
  | .stopped => ⟨.time 10, BitVec.allOnes 8, 0⟩
  | .resuming => ⟨.beat 2, 0b10101010#8, 0⟩
  | .dark | .preshow | .running | .holding => ⟨.time 10, 0#8, 0⟩

/-- R79, Table 4.1: the WARN pattern of the CUE lamp. -/
def warnPattern : LampPattern := ⟨.time 100, 0b11110000#8, 0⟩

/-- R138: steady OFF. -/
def offPattern : LampPattern := ⟨.time 10, 0#8, 0⟩

/-- R29: of the kept records with onset at or before `x`, the one produced later. -/
def soundedAt (kept : List BeatRecord) (x : Sample) : Option BeatRecord :=
  (kept.filter fun r => decide (r.onset ≤ x)).getLast?

/-- The position of a beat record. -/
def BeatRecord.position (r : BeatRecord) : SoundedPosition := ⟨r.bar, r.beatInBar, r.pass⟩

/-- The due sample of an event. -/
def Event.due : Event → Sample
  | .click d _ => d
  | .patch d _ _ _ => d
  | .lamp d _ _ => d

/-- The event is a CLICK. -/
def Event.isClick : Event → Bool
  | .click .. => true
  | .patch .. | .lamp .. => false

/-- The event is a PATCH. -/
def Event.isPatch : Event → Bool
  | .patch .. => true
  | .click .. | .lamp .. => false

/-- The event is a LAMP. -/
def Event.isLamp : Event → Bool
  | .lamp .. => true
  | .click .. | .patch .. => false

/-- The event is a LAMP for lamp `l`. -/
def Event.isFor (l : Lamp) : Event → Bool
  | .lamp _ k _ => decide (k = l)
  | .click .. | .patch .. => false

/-- The pending state a patch notice reports (Table 5.1). -/
def PendingPhase.state : PendingPhase → PendingState
  | .waitingRelease .. => .waitingRelease
  | .sent .. => .sent
  | .unconfirmed .. => .unconfirmed

/-- The due and serial of the PATCH of a SENT or UNCONFIRMED entry (R98). -/
def PendingPhase.sentAs : PendingPhase → Option (Sample × Nat)
  | .waitingRelease .. => none
  | .sent d _ n _ => some (d, n)
  | .unconfirmed d _ n => some (d, n)

/-- The entry has been sent: SENT or UNCONFIRMED. -/
def PendingPhase.isSent : PendingPhase → Bool
  | .waitingRelease .. => false
  | .sent .. | .unconfirmed .. => true

/-- A station in use: its role is not UNUSED. -/
def Channel.inUse (c : Channel) : Bool := decide (c.assigned.role ≠ .unused)

/-- A RIG station whose role is PLAYER or MD (R87, R97). -/
def Channel.isRig (c : Channel) : Bool := c.inUse && decide (c.assigned.kind = .rig)

/-- The link of a channel is UP. -/
def Channel.isUp (c : Channel) : Bool := decide (c.link.state = .up)

/-- The stop sources present in a cause set. -/
def StopCauses.has (c : StopCauses) : StopSource → Bool
  | .host => c.host
  | .line => c.line
  | .md => c.md

/-- A cause set with a source added (R112). -/
def StopCauses.add (c : StopCauses) : StopSource → StopCauses
  | .host => { c with host := true }
  | .line => { c with line := true }
  | .md => { c with md := true }

/-- The empty cause set. -/
def StopCauses.none_ : StopCauses := ⟨false, false, false⟩

end Sys2Proof.Machine
end

