-- ==== Sys2Proof/Machine/Ops.lean ====
section
/-! DEFINITION. The named operations every block uses: reading and writing one station's records,
offering a notice, putting something on a port, taking an act at the sample it waited for, and the
transmitter's choice of the next frame. -/

namespace Sys2Proof.Machine

/-! ## Station records -/

/-- The channel of a station. -/
def State.ch (s : State) (n : Station) : Channel := s.chan.get n

/-- The state with a station's channel replaced. -/
def State.setCh (s : State) (n : Station) (c : Channel) : State :=
  { s with chan := s.chan.set n.val c n.isLt }

/-- The state with a station's link record changed. -/
def State.mapLink (s : State) (n : Station) (f : Link → Link) : State :=
  s.setCh n { s.ch n with link := f (s.ch n).link }

/-- The patch record of a station (R84). -/
def State.patchOf (s : State) (n : Station) : PatchRecord := s.patches.get n

/-- The state with a station's patch record replaced. -/
def State.setPatch (s : State) (n : Station) (p : PatchRecord) : State :=
  { s with patches := s.patches.set n.val p n.isLt }

/-- An act on each of a list of stations in turn (the order between stations by log 64). -/
def forStations (f : Station → State → State) : List Station → State → State
  | [], s => s
  | n :: ns, s => forStations f ns (f n s)

/-- An act on every station, in number order (log 64). -/
def forAll (f : Station → State → State) (s : State) : State := forStations f allStations s

/-- The station a request names by its number 1..24. -/
def stationOf (n : Nat) : Option Station :=
  if h : 1 ≤ n ∧ n ≤ 24 then some ⟨n - 1, by omega⟩ else none

/-- The stations in use, in number order (log 64). -/
def State.inUse (s : State) : List Station := allStations.filter fun n => (s.ch n).inUse

/-! ## Ports and notices -/

/-- Puts something on a port. -/
def State.emit (s : State) (e : Emission) : State := { s with emitted := s.emitted ++ [e] }

/-- Sends a frame on a station's link; every frame carries the value of S at its sending (R122). -/
def State.send (s : State) (n : Station) (f : LinkFrame) : State := s.emit (.link n s.time.S f)

/-- Hands a report, taken when the act in progress is complete (R73). -/
def State.report (s : State) (r : Report) : State := { s with reports := s.reports ++ [r] }

/-- The number k of a notice kind 0xC0 + k (Table 10.4). -/
def Notice.kind : Notice → Nat
  | .cueFired .. => 0
  | .cueCancelled .. => 1
  | .mapEnd .. => 2
  | .patchState .. => 3
  | .patchMismatch .. => 4
  | .linkState .. => 5
  | .videoState .. => 6
  | .showState .. => 7
  | .showStop .. => 8
  | .clock .. => 9
  | .controlMode .. => 10
  | .mdInput .. => 11
  | .editCommitted .. => 12

/-- R173: a notice offered to the Control Port: lost when its enable is clear, placed at the end of
the queue, or dropped with the lost flag set when the queue holds 32. -/
def ControlPort.offer (p : ControlPort) (n : Notice) : ControlPort :=
  if p.mask.getLsbD n.kind = false then p
  else if p.notices.length < Config.noticeQueue then { p with notices := p.notices ++ [n] }
  else { p with lost := true }

/-- R173: a block offers a notice. -/
def State.offer (s : State) (n : Notice) : State := { s with port := s.port.offer n }

/-! ## The transmitter (R172) -/

/-- R172, R175: a free transmitter takes the oldest waiting REJECT, then the oldest waiting reply, then
the oldest notice; no notice once a RESTART has been decoded. -/
def ControlPort.arbitrate (p : ControlPort) : ControlPort :=
  match p.sending with
  | some _ => p
  | none =>
    match p.rejects with
    | r :: rs => { p with sending := some (.reject r), rejects := rs }
    | [] =>
      if p.replies ≠ [] then { p with sending := some .reply }
      else if p.notices ≠ [] ∧ p.restarting = false then { p with sending := some .notice }
      else p

/-- R172: a REJECT made; it is dropped while 4 wait. -/
def ControlPort.reject (p : ControlPort) (reason : Reason) (tag : Nat) : ControlPort :=
  if p.rejects.length < Config.rejectPlaces then { p with rejects := p.rejects ++ [⟨reason, tag⟩] }
  else p

/-- R171: a reply made, at the end of the order of replies. -/
def ControlPort.answer (p : ControlPort) (r : Reply) : ControlPort :=
  { p with replies := p.replies ++ [r] }

/-- A reply made for a request of kind `kind` with tag `tag`; a deferred answer makes none (R170). -/
def State.answer (s : State) (kind tag : Nat) (a : Answer) (place : Bool) : State :=
  match a with
  | .deferred => s
  | a => { s with port := s.port.answer ⟨kind, tag, a, place⟩ }

/-! ## Reached samples (R2) -/

/-- R2: the sample at which an act that waited for `v` is taken: `v` itself when the last advance of S
passed over it, and the present S otherwise (log 4). -/
def State.takenAt (s : State) (v : Sample) : Sample :=
  if s.time.S < v + s.time.advance ∧ v ≤ s.time.S then v else s.time.S

/-- The state with the show sample count set. -/
def State.atS (s : State) (v : Sample) : State := { s with time := { s.time with S := v } }

/-- R2: an act that waited for `v`, taken as if S had passed through `v` alone. -/
def State.reach (s : State) (v : Sample) (act : State → State) : State :=
  (act (s.atS (s.takenAt v))).atS s.time.S

/-- A waiting value has been reached (R2). -/
def reached (v : Option Sample) (S : Sample) : Bool :=
  match v with
  | some x => decide (x ≤ S)
  | none => false

/-- A step that waits for the sample `v`: not due, it changes nothing (log 2); due, its act is taken
as R2 lays down. -/
def State.whenReached (s : State) (v : Option Sample) (act : State → State) : State :=
  match v with
  | some x => if x ≤ s.time.S then s.reach x act else s
  | none => s

/-! ## The frame of a command -/

/-- Every command: its act from a state that has put nothing out yet, after which a free transmitter
takes what waits (R172). -/
def command (act : State → State) (s : State) : Host.Outcome State Fault Refusal :=
  let t := act { s with emitted := [] }
  .next { t with port := t.port.arbitrate }

end Sys2Proof.Machine
end

