-- ==== Sys2Proof/Machine/Operands.lean ====
section
/-! DEFINITION. The operands of the host's requests: each value carried in a frame brought into the
record its owner stores, with the mark that a value was clamped, or found out of range (none, which
every owner refuses with BAD_VALUE). -/

namespace Sys2Proof.Machine

/-! ## Enumerations by value -/

/-- CHANGE_POINT by value (Table 2.6). -/
def ChangeKind.ofCode : Nat → Option ChangeKind
  | 0 => some .immediate
  | 1 => some .nextBeat
  | 2 => some .nextBar
  | _ => none

/-- GO_MODE by value, with the go bar of AT_BAR clamped to 1..9,999 (Table 3.2, R51). -/
def GoMode.ofCode (code bar : Nat) : Option GoMode :=
  match code with
  | 0 => some .manual
  | 1 => some .follow
  | 2 => some (.atBar (clampTo 1 Config.barNumberMax bar))
  | _ => none

/-- MAP_REFERENCE by value (Table 3.3). -/
def MapRef.ofCode (code : Nat) : Option MapRef :=
  if code ≤ 255 then some (.map code)
  else if code = 256 then some .silence
  else if code = 257 then some .keep
  else none

/-- PATCH_POLICY by value (Table 3.4). -/
def PatchPolicy.ofCode : Nat → Option PatchPolicy
  | 0 => some .now
  | 1 => some .onRelease
  | _ => none

/-- SEGMENT_KIND by value (Table 2.2). -/
def SegmentKind.ofCode : Nat → Option SegmentKind
  | 0 => some .metered
  | 1 => some .vamp
  | 2 => some .tap
  | 3 => some .free
  | _ => none

/-- VAMP_EXIT by value (Table 2.3). -/
def VampExit.ofCode : Nat → Option VampExit
  | 0 => some .atPassEnd
  | 1 => some .atBarEnd
  | _ => none

/-- STOPLINE_MODE by value (Table 6.5). -/
def LineMode.ofCode : Nat → Option LineMode
  | 0 => some .level
  | 1 => some .edge
  | _ => none

/-- STATION_ROLE by value (Table 7.2). -/
def StationRole.ofCode : Nat → Option StationRole
  | 0 => some .unused
  | 1 => some .player
  | 2 => some .md
  | _ => none

/-- STATION_KIND by value (Table 7.3). -/
def kindOfCode : Nat → Option StationKind
  | 0 => some .click
  | 1 => some .rig
  | _ => none

/-- SELECTION_MODE by value (Table 8.5). -/
def SelectionMode.ofCode : Nat → Option SelectionMode
  | 0 => some .auto
  | 1 => some .forceA
  | 2 => some .forceB
  | _ => none

/-- OUTPUT_SOURCE by value (Table 9.2). -/
def OutputSource.ofCode : Nat → Option OutputSource
  | 0 => some .selected
  | 1 => some .a
  | 2 => some .b
  | _ => none

/-- FALLBACK_PATTERN by value (Table 9.3). -/
def Fallback.ofCode : Nat → Option Fallback
  | 0 => some .black
  | 1 => some .bars
  | 2 => some .card
  | _ => none

/-- OVERLAY_FIELD by value (Table 9.4). -/
def OverlayField.ofCode : Nat → Option OverlayField
  | 0 => some .cue
  | 1 => some .position
  | 2 => some .flash
  | 3 => some .banner
  | 4 => some .countdown
  | 5 => some .text
  | _ => none

/-- The scan of a format by value; the manual gives PROGRESSIVE and INTERLACED no values, and lists
them in this order (R145, log 31). -/
def Scan.ofCode : Nat → Option Scan
  | 0 => some .progressive
  | 1 => some .interlaced
  | _ => none

/-- The inputs an INPUT_SET address names, A, B or BOTH by their places in the list of R153 (log 31); BOTH is A
before B (log 64). -/
def addressOf : Nat → Option (List Input)
  | 0 => some [.a]
  | 1 => some [.b]
  | 2 => some [.a, .b]
  | _ => none

/-- A palette entry number (R161). -/
def colourNo (n : Nat) : Option (Fin 8) := if h : n < 8 then some ⟨n, h⟩ else none

/-- A format entry number (R146, R153). -/
def entryNo (n : Nat) : Option EntryNo := if h : n < 16 then some ⟨n, h⟩ else none

/-- An output number 1..4 (R158). -/
def outputNo (n : Nat) : Option OutputNo := if h : 1 ≤ n ∧ n ≤ 4 then some ⟨n - 1, by omega⟩ else none

/-- Every character code lies in 32..126 (R49, R119, R164). -/
def Text.printable (t : Text) : Bool := t.all fun c => decide (32 ≤ c ∧ c ≤ 126)

/-- The values of a list all read, in order, or none when one does not. -/
def readAll {α β : Type} (f : α → Option β) : List α → Option (List β)
  | [] => some []
  | x :: xs =>
    match f x, readAll f xs with
    | some y, some ys => some (y :: ys)
    | _, _ => none

/-! ## PUT_CUE (R49 to R51) -/

/-- R51: one patch entry. -/
def readEntry (r : RawPatchEntry) : Option (PatchEntry × Bool) :=
  match stationOf r.station, PatchPolicy.ofCode r.policy with
  | some n, some p =>
    some (⟨n, ⟨clampTo 0 127 r.bank, clampTo 0 127 r.program⟩, p, clampTo 1 16 r.deferLimit⟩,
      decide (127 < r.bank) || decide (127 < r.program)
        || decide (clampTo 1 16 r.deferLimit ≠ r.deferLimit))
  | _, _ => none

/-- R50: an entry placed in ascending station order. -/
def insertEntry (e : PatchEntry) : List PatchEntry → List PatchEntry
  | [] => [e]
  | x :: xs => if e.station ≤ x.station then e :: x :: xs else x :: insertEntry e xs

/-- R50: entries in ascending station order. -/
def sortEntries (es : List PatchEntry) : List PatchEntry := es.foldr insertEntry []

/-- R49 to R51: the cue record of a PUT_CUE and whether a value was clamped; none where a field is
refused. -/
def readCue (r : RawCue) : Option (Cue × Bool) :=
  match GoMode.ofCode r.goMode r.goBar, ChangeKind.ofCode r.changePoint, MapRef.ofCode r.mapRef,
      readAll readEntry r.entries with
  | some g, some k, some m, some es =>
    let entries := es.map Prod.fst
    if 1 ≤ r.number ∧ r.number ≤ Config.cueNumberMax ∧ Text.printable r.label ∧ Text.printable r.text
        ∧ r.entries.length ≤ 24 ∧ (entries.map PatchEntry.station).Nodup then
      some
        (⟨r.number, r.label, g, k, m, min r.countIn Config.countInMax, sortEntries entries, r.warn,
            r.text⟩,
          decide (Config.countInMax < r.countIn)
            || decide (r.goMode = 2 ∧ clampTo 1 Config.barNumberMax r.goBar ≠ r.goBar)
            || es.any Prod.snd)
    else none
  | _, _, _, _ => none

/-! ## PUT_MAP (R21, R53) -/

/-- R53: the bars of a segment of a kind, and whether they were clamped. -/
def readBars (k : SegmentKind) (bars : Nat) : Option Nat × Bool :=
  match k with
  | .metered => (some (clampTo 1 999 bars), decide (clampTo 1 999 bars ≠ bars))
  | .vamp => (some (clampTo 1 16 bars), decide (clampTo 1 16 bars ≠ bars))
  | .tap => if bars = 0 then (none, false) else (some (min 999 bars), decide (999 < bars))
  | .free => (none, false)

/-- R53: the vamp exit: refused for a VAMP when not in VAMP_EXIT, stored absent for other kinds. -/
def readVampExit (k : SegmentKind) (code : Nat) : Option (Option VampExit) :=
  match k with
  | .vamp => (VampExit.ofCode code).map some
  | .metered | .tap | .free => some none

/-- R53: the segment record of a carried segment and whether a value was clamped. -/
def readSegment (r : RawSegment) : Option (Segment × Bool) :=
  match SegmentKind.ofCode r.kind with
  | none => none
  | some k =>
    match readVampExit k r.vampExit with
    | none => none
    | some x =>
      if r.denominator = 2 ∨ r.denominator = 4 ∨ r.denominator = 8 ∨ r.denominator = 16 then
        let bars := readBars k r.bars
        let target := if r.targetTempo = 0 then none else some (clampTempo r.targetTempo)
        some
          ({ kind := k
             bars := bars.1
             beatsPerBar := clampTo 1 15 r.beatsPerBar
             denominator := r.denominator
             startTempo := clampTempo r.startTempo
             target := target
             accents := r.accents.filter (· ≠ 1)
             vampExit := x },
           bars.2 || decide (clampTo 1 15 r.beatsPerBar ≠ r.beatsPerBar)
             || decide (clampTempo r.startTempo ≠ r.startTempo)
             || (decide (r.targetTempo ≠ 0) && decide (clampTempo r.targetTempo ≠ r.targetTempo)))
      else none

/-! ## Pit Link requests (R120, R140) -/

/-- A subdivision is one of 1, 2, 3, 4, 6, 8 (R119). -/
def validSubdivision (d : Nat) : Bool :=
  decide (d = 1 ∨ d = 2 ∨ d = 3 ∨ d = 4 ∨ d = 6 ∨ d = 8)

/-- R120: the assigned part of a STATION_SET and whether a value was clamped. -/
def readAssigned (r : RawAssigned) : Option (Assigned × Bool) :=
  match StationRole.ofCode r.role, kindOfCode r.kind with
  | some role, some kind =>
    if validSubdivision r.click.subdivision ∧ Text.printable r.name then
      some
        (⟨role, kind, r.name, { r.click with level := min 15 r.click.level }, r.md,
            clampTo 1 7 r.linkTries, min 15 r.errorLimit⟩,
          decide (15 < r.click.level) || decide (clampTo 1 7 r.linkTries ≠ r.linkTries)
            || decide (15 < r.errorLimit))
    else none
  | _, _ => none

/-- R140: the lamp a LAMP request names. -/
def lampOfCode : Nat → Option Lamp
  | 0 => some .cue
  | 1 => some .stop
  | _ => none

/-- R140: a TIME tick in 10..630 ms, lowered to its step of 10. -/
def lampMs (ms : Nat) : Nat := clampTo 10 630 ms / 10 * 10

/-- R140: the lamp and pattern of a LAMP request and whether a value was clamped. -/
def readLamp (r : RawLamp) : Option (Lamp × LampPattern × Bool) :=
  match lampOfCode r.lamp with
  | none => none
  | some l =>
    let late := decide (15 < r.pause)
    if r.tick = 0 then
      some (l, ⟨.time (lampMs r.tickValue), r.bits, min 15 r.pause⟩,
        late || decide (lampMs r.tickValue ≠ r.tickValue))
    else if r.tick = 1 ∧ (r.tickValue = 1 ∨ r.tickValue = 2 ∨ r.tickValue = 4) then
      some (l, ⟨.beat r.tickValue, r.bits, min 15 r.pause⟩, late)
    else none

/-! ## Video requests (R146, R158, R164) -/

/-- R145, R146: the format entry of a FORMAT_PUT with lines above 0, clamped into its ranges. -/
def readFormat (r : RawFormat) : Option (Format × Bool) :=
  match Scan.ofCode r.scan with
  | none => none
  | some sc =>
    let f : Format :=
      ⟨clampTo 200 1250 r.lines, clampTo 10000 50000 r.period, min 500 r.tolerance, sc,
        clampTo 1 240 r.width, clampTo 1 135 r.rows⟩
    some (f, decide (f.lines ≠ r.lines ∨ f.period ≠ r.period ∨ f.tolerance ≠ r.tolerance
      ∨ f.width ≠ r.width ∨ f.rows ≠ r.rows))

/-- R164: the record of a FIELD item, its downbeat colour (kept only for FLASH) and whether a value was
clamped. -/
def readField (f : OverlayField) (r : RawField) : Option (FieldRecord × Fin 8 × Bool) :=
  match colourNo r.foreground, colourNo r.background,
      (if f = .flash then colourNo r.downbeat else some 0) with
  | some fg, some bg, some down =>
    some (⟨min 239 r.column, min 134 r.row, fg, bg, r.enabled⟩, down,
      decide (239 < r.column) || decide (134 < r.row))
  | _, _, _ => none

end Sys2Proof.Machine
end

