-- ==== Sys2Proof/Machine/Request.lean ====
section
/-! DEFINITION. The path of a host request through the Control Port: what every valid frame does before
it is decoded (R80, R82, R169), the request buffer (R170), and the reply (R171). -/

namespace Sys2Proof.Machine

/-- R80: the host-silence timer restarted, with a limit of 0 not running. -/
def State.restartSilence (s : State) : State :=
  { s with
    ctl :=
      { s.ctl with
        silenceEnd :=
          if s.ctl.silenceLimit = 0 then none
          else some (s.time.S + s.ctl.silenceLimit * Config.silenceUnit) } }

/-- R82: a valid host frame in LOCAL returns the control mode to REMOTE, queues CONTROL_MODE and clears
the LOCAL entry. -/
def State.returnToRemote (s : State) : State :=
  match s.cue.mode with
  | .remote => s
  | .local_ =>
    let e := s.cue.localEntry.getD ⟨s.time.S, 0⟩
    { s.offer (.controlMode .remote e.enteredAt (some (s.time.S, e.mdGos))) with
      cue := { s.cue with mode := .remote, localEntry := none } }

/-- R169: the two reports a valid frame makes, in their order. -/
def State.validFrame (s : State) : State := s.restartSilence.returnToRemote

/-- R169, R170, R175: a valid frame of kind `kind` with tag `tag`: discarded once a RESTART has been
decoded; reported; answered REJECT BUSY with all four places held; otherwise judged, and answered. -/
def takeFrame (kind tag : Nat) (judge : State → State × Answer) (s : State) : State :=
  if s.port.restarting then s
  else
    let s1 := s.validFrame
    if Config.requestPlaces ≤ s1.port.placesHeld then
      { s1 with port := s1.port.reject .busy tag }
    else
      let r := judge s1
      r.1.answer kind tag r.2 true

/-- A refusal with no detail. -/
def refuse (s : State) (r : Reason) : State × Answer := (s, .refused r .none_)

/-- R170: decoding of a request whose kind is known: a tag of 0 is refused with BAD_VALUE, a wrong
length with BAD_LENGTH, and the rest handed to its owner. -/
def decodeRequest (tag : Nat) (lengthOk : Bool) (owner : State → State × Answer) (s : State) :
    State × Answer :=
  if tag = 0 then refuse s .badValue
  else if lengthOk = false then refuse s .badLength
  else owner s

/-- The taking of a valid frame that carries a request (log 6). -/
def serve (kind tag : Nat) (lengthOk : Bool) (owner : State → State × Answer) (s : State) :
    Host.Outcome State Fault Refusal :=
  command (takeFrame kind tag (decodeRequest tag lengthOk owner)) s

end Sys2Proof.Machine
end

