-- ==== Sys2Proof/Machine/Layouts.lean ====
section
/-! DEFINITION. Bytes on the serial line (10): the check of a frame, frames, and the payloads the manual
lays out. -/

/-- FREE VALUE (log 9). The contents of a reply, after its kind and flags or its reason, where 10 section
10.7 does not lay them out. -/
opaque Sys2Proof.Config.replyContents : Sys2Proof.Machine.Reply → List Sys2Proof.Byte

/-- FREE VALUE (log 9). The payload of a notice other than CUE_FIRED. -/
opaque Sys2Proof.Config.noticeContents : Sys2Proof.Machine.Notice → List Sys2Proof.Byte

namespace Sys2Proof.Machine

/-! ## The check (R169) -/

/-- R169: one bit step of the CRC-16 with polynomial x^16+x^12+x^5+1. -/
def crcShift (c : BitVec 16) : BitVec 16 := if c.msb then (c <<< 1) ^^^ 0x1021#16 else c <<< 1

/-- R169: a byte fed to the check, most significant bit first. -/
def crcByte (c : BitVec 16) (b : Byte) : BitVec 16 :=
  let x := c ^^^ (b.setWidth 16 <<< 8)
  crcShift (crcShift (crcShift (crcShift (crcShift (crcShift (crcShift (crcShift x)))))))

/-- R169: the check over a list of bytes, from the initial value 0xFFFF. -/
def crcOf (bs : List Byte) : BitVec 16 := bs.foldl crcByte 0xFFFF#16

/-- R169: the CHECK field, high byte first. -/
def checkBytes (bs : List Byte) : List Byte :=
  [(crcOf bs).extractLsb' 8 8, (crcOf bs).extractLsb' 0 8]

/-- R169: a number in `n` bytes, high byte first. -/
def bytesOf : (n value : Nat) → List Byte
  | 0, _ => []
  | n + 1, v => BitVec.ofNat 8 (v / 256 ^ n) :: bytesOf n v

/-- R169: the number a list of bytes carries, high byte first. -/
def valueOf (bs : List Byte) : Nat := bs.foldl (fun n b => n * 256 + b.toNat) 0

/-- Table 10.3: a frame of kind `kind` and tag `tag` with a payload. -/
def frameBytes (kind tag : Nat) (payload : List Byte) : List Byte :=
  let body := bytesOf 1 payload.length ++ bytesOf 1 kind ++ bytesOf 1 tag ++ payload
  Config.syncByte :: body ++ checkBytes body

/-! ## Enumeration values -/

/-- REFUSAL_REASON by value (Table 10.5). -/
def Reason.code : Reason → Nat
  | .badFrame => 1
  | .badKind => 2
  | .badLength => 3
  | .badValue => 4
  | .wrongState => 5
  | .busy => 6
  | .notFound => 7
  | .full => 8
  | .editOpen => 9
  | .editNotOpen => 10
  | .editPending => 11
  | .notVamping => 12
  | .stopAsserted => 13
  | .debounced => 14
  | .goQueueFull => 15
  | .notReady => 16
  | .timeout => 17
  | .aborted => 18

/-- The reset kinds by value (00 section 0.5). -/
def ResetKind.code : ResetKind → Nat
  | .powerUp => 0
  | .restart => 1

/-- SHOW_STATE by value (Table 6.2). -/
def ShowState.code : ShowState → Nat
  | .dark => 0
  | .preshow => 1
  | .running => 2
  | .holding => 3
  | .stopped => 4
  | .resuming => 5

/-- CONTROL_MODE by value (Table 4.4). -/
def ControlMode.code : ControlMode → Nat
  | .remote => 0
  | .local_ => 1

/-- CLOCK_STATE by value (Table 1.2). -/
def ClockState.code : ClockState → Nat
  | .internal => 0
  | .word => 1
  | .failover => 2

/-- EDIT_STATE by value (Table 3.5). -/
def EditState.code : EditState → Nat
  | .closed => 0
  | .openEdit => 1
  | .pendingApply => 2

/-- GO_SOURCE by value (Table 4.2). -/
def GoSource.code : GoSource → Nat
  | .host => 0
  | .md => 1
  | .auto => 2
  | .bar => 3

/-- SLOT by value (Table 4.3). -/
def SlotName.code : SlotName → Nat
  | .inFlight => 0
  | .queued => 1

/-- MAP_REFERENCE by value (Table 3.3). -/
def MapRef.code : MapRef → Nat
  | .map n => n
  | .silence => 256
  | .keep => 257

/-- The input in effect by value (Table 10.7). -/
def inputCode : Option Input → Nat
  | none => 0
  | some .a => 1
  | some .b => 2

/-! ## Payloads (Tables 10.6 to 10.8) -/

/-- Table 10.7: the STATUS reply after its kind and flags. -/
def StatusRecord.bytes (r : StatusRecord) : List Byte :=
  bytesOf 6 r.S ++ bytesOf 1 r.lastReset.code ++ bytesOf 1 r.showState.code ++ bytesOf 1 r.mode.code
    ++ bytesOf 1 r.clockState.code ++ bytesOf 1 r.edit.code ++ bytesOf 2 r.serial
    ++ bytesOf 3 (r.standby.getD 0) ++ bytesOf 3 (r.running.getD 0) ++ bytesOf 1 r.lost.toNat
    ++ bytesOf 1 r.noticesQueued ++ bytesOf 1 r.placesFree ++ bytesOf 1 r.lineRate
    ++ bytesOf 1 r.linksUp ++ bytesOf 1 r.linksReduced ++ bytesOf 1 (inputCode r.inEffect)
    ++ bytesOf 1 r.stopRecord.toNat

/-- Tables 10.6, 10.7, R173: the contents of an OK reply after its kind and flags; NOTICE_MASK's are the mask as
two bytes, the enable of kind 0xC0 + k in bit k (bits 13 to 15 by log 65); other layouts are free (log 9). -/
def Reply.contents (r : Reply) : List Byte :=
  match r.answer with
  | .ok _ .empty => []
  | .ok _ (.status x) => x.bytes
  | .ok _ (.noticeMask m) => bytesOf 2 m.toNat
  | .ok _ (.fired cue slot point standby) =>
    bytesOf 3 cue ++ bytesOf 1 slot.code ++ bytesOf 6 (point.getD 0) ++ bytesOf 3 (standby.getD 0)
  | .refused _ .none_ => []
  | _ => Config.replyContents r

/-- R171: the frame of a reply. -/
def Reply.bytes (r : Reply) : List Byte :=
  match r.answer with
  | .ok clamped _ => frameBytes 0x80 r.tag (bytesOf 1 r.kind ++ bytesOf 1 clamped.toNat ++ r.contents)
  | .refused reason _ =>
    frameBytes 0x81 r.tag (bytesOf 1 r.kind ++ bytesOf 1 reason.code ++ r.contents)
  | .deferred => []

/-- Table 10.8: the payload of a notice. -/
def Notice.payload (n : Notice) : List Byte :=
  match n with
  | .cueFired at_ f point ref standby promoted =>
    bytesOf 6 at_ ++ bytesOf 3 f.cue ++ bytesOf 1 f.source.code ++ bytesOf 2 (f.bar.getD 0)
      ++ bytesOf 6 f.takenAt ++ bytesOf 6 point ++ bytesOf 2 ref.code
      ++ bytesOf 3 (standby.getD 0) ++ bytesOf 1 promoted.toNat
  | n => Config.noticeContents n

/-- R171, R173: the bytes of a frame sent on the serial line. -/
def SerialFrame.bytes : SerialFrame → List Byte
  | .reject r => frameBytes 0x82 r.tag (bytesOf 1 r.reason.code)
  | .reply r => r.bytes
  | .notice n => frameBytes (0xC0 + n.kind) 0 n.payload

end Sys2Proof.Machine
end

