-- ==== Sys2Proof/Machine/Book.lean ====
section
/-! DEFINITION. The show book and the edit buffer as data: lookups in cue-number order, insertion,
removal, counts, validation (03). -/

namespace Sys2Proof.Machine

/-- The cue with a number (R48). -/
def Book.cue? (b : Book) (n : Nat) : Option Cue := b.cues.find? fun c => decide (c.number = n)

/-- R48: the cue after a number: the one with the lowest number greater than it. -/
def Book.after (b : Book) (n : Nat) : Option Cue := b.cues.find? fun c => decide (n < c.number)

/-- R48: the number of the cue after a number, or END. -/
def Book.numberAfter (b : Book) (n : Nat) : Option Nat := (b.after n).map Cue.number

/-- R48: the first cue of the list. -/
def Book.first (b : Book) : Option Cue := b.cues.head?

/-- The map entry with a number (R52). -/
def Book.map? (b : Book) (n : Nat) : Option MapEntry := b.maps.find? fun m => decide (m.number = n)

/-- The warn list of a cue number, empty for none (R49, R79). -/
def Book.warnList (b : Book) (n : Option Nat) : List Station :=
  ((n.bind b.cue?).map Cue.warn).getD []

/-- R52: an entry is complete. -/
def MapEntry.complete (m : MapEntry) : Bool := decide (m.segments.length = m.declared)

/-- R48: a cue placed at its number's place, replacing a cue of the same number. -/
def insertCue (c : Cue) : List Cue → List Cue
  | [] => [c]
  | x :: xs =>
    if c.number = x.number then c :: xs
    else if c.number < x.number then c :: x :: xs
    else x :: insertCue c xs

/-- A map entry placed in map-number order, replacing an entry of the same number (R52). -/
def insertMap (m : MapEntry) : List MapEntry → List MapEntry
  | [] => [m]
  | x :: xs =>
    if m.number = x.number then m :: xs
    else if m.number < x.number then m :: x :: xs
    else x :: insertMap m xs

/-- R50: the patch entries of all cues. -/
def entryCount (cues : List Cue) : Nat := (cues.map fun c => c.entries.length).sum

/-- R57: the declared segments of all maps. -/
def declaredTotal (maps : List MapEntry) : Nat := (maps.map MapEntry.declared).sum

/-- The counts R55, R62 and R64 report. -/
def Book.counts (b : Book) : BookCounts :=
  ⟨b.cues.length, entryCount b.cues, b.maps.length, declaredTotal b.maps⟩

/-- R58, first pass: the lowest incomplete map number. -/
def Book.incompleteMap (b : Book) : Option Nat :=
  (b.maps.find? fun m => !m.complete).map MapEntry.number

/-- R58, second pass: a cue refers to a map the book lacks. -/
def Book.lacksMapOf (b : Book) (c : Cue) : Bool :=
  match c.mapRef with
  | .map n => (b.map? n).isNone
  | .silence | .keep => false

/-- R58, second pass: the first cue, in list order, whose map is absent. -/
def Book.cueWithoutMap (b : Book) : Option Nat :=
  (b.cues.find? fun c => b.lacksMapOf c).map Cue.number

/-- R115: the map a RESUME at a cue uses: its own reference, or for CONTINUE that of the nearest cue
before it whose reference is a map number or NONE. -/
def Book.mapUsed (b : Book) (c : Cue) : Option Nat :=
  match c.mapRef with
  | .map n => some n
  | .silence => none
  | .keep =>
    match (b.cues.filter fun x => decide (x.number < c.number ∧ x.mapRef ≠ .keep)).getLast? with
    | some x =>
      match x.mapRef with
      | .map n => some n
      | .silence | .keep => none
    | none => none

/-- The segments of a map of the book, empty for a number it lacks. -/
def Book.segments (b : Book) (n : Nat) : List Segment := ((b.map? n).map MapEntry.segments).getD []

end Sys2Proof.Machine
end

