-- ==== Sys2Proof/Machine/PitQueue.lean ====
section
/-! DEFINITION. A channel's outbound queue, its transmission, and the lamps with their runners
(07 sections 7.5 and 7.6). -/

namespace Sys2Proof.Machine

/-! ## Placing events (R134, R136) -/

/-- R134: an event placed after every queued event whose due is at or before its own. -/
def insertDue (e : Event) : List Event → List Event
  | [] => [e]
  | x :: xs => if x.due ≤ e.due then x :: insertDue e xs else e :: x :: xs

/-- A list without its first member that satisfies `p`. -/
def removeFirst (p : Event → Bool) : List Event → List Event
  | [] => []
  | x :: xs => if p x then xs else x :: removeFirst p xs

/-- R135, R136: the late-click count raised by one, saturating. -/
def Link.countLate (l : Link) : Link := { l with lateCount := addSat Config.lateCountMax l.lateCount 1 }

/-- R134: a new event placed in the queue by its due. -/
def Link.put (l : Link) (e : Event) : Link := { l with queue := insertDue e l.queue }

/-- R134, R136: a new CLICK, PATCH or LAMP handed to a link that is UP, and whether it was placed. -/
def Link.place (l : Link) (e : Event) : Link × Bool :=
  if e.isPatch && l.queue.any Event.isPatch then
    ({ l with queue := insertDue e (l.queue.filter fun x => !x.isPatch) }, true)
  else if l.queue.length < Config.queueCapacity then (l.put e, true)
  else if e.isClick then (l.countLate, false)
  else if l.queue.any Event.isClick then
    (({ l with queue := removeFirst Event.isClick l.queue }.countLate).put e, true)
  else if e.isPatch then
    ({ l with queue := insertDue e (removeFirst Event.isLamp l.queue) }, true)
  else (l, false)

/-- R134: an event handed to a channel; handing to a channel whose link is not UP places nothing. -/
def Link.hand (l : Link) (e : Event) : Link × Bool :=
  if l.state = .up then l.place e else (l, false)

/-- An event handed to a station's channel (R134). -/
def State.handEvent (s : State) (n : Station) (e : Event) : State :=
  s.mapLink n fun l => (l.hand e).1

/-- Events handed to a link in order (R30). -/
def Link.handAll (l : Link) (es : List Event) : Link := es.foldl (fun x e => (x.hand e).1) l

/-- R84, R88: any PATCH still queued is withdrawn. -/
def Link.withdrawPatch (l : Link) : Link := { l with queue := l.queue.filter fun x => !x.isPatch }

/-- R137: every queued event whose due is at or after the stop sample is removed. -/
def Link.cancelFrom (l : Link) (s0 : Sample) : Link :=
  { l with queue := l.queue.filter fun x => decide (x.due < s0) }

/-- R111, R137: a CANCEL from the stop sample on a station whose link is UP: transmitted at once, ahead
of the queue. -/
def State.cancel (s0 : Sample) (n : Station) (s : State) : State :=
  if (s.ch n).isUp then (s.send n (.cancel s0)).mapLink n fun l => l.cancelFrom s0 else s

/-! ## Transmission (R135) -/

/-- R135: the events at the head of a queue whose send point `S` has reached, in queue order, and the
rest. An event's send point is its due less the lead. -/
def splitDue (S lead : Nat) : List Event → List Event × List Event
  | [] => ([], [])
  | x :: xs => if x.due ≤ S + lead then (x :: (splitDue S lead xs).1, (splitDue S lead xs).2) else ([], x :: xs)

/-- R135: an event reached after its send point has passed is late. -/
def Event.late (S lead : Nat) (e : Event) : Bool := decide (e.due < S + lead)

/-- R135: one reached event transmitted, or a late CLICK dropped. -/
def State.transmitOne (n : Station) (s : State) (e : Event) : State :=
  if e.isClick && e.late s.time.S (s.ch n).link.lead then s.mapLink n Link.countLate
  else s.send n (.event e)

/-- R135: a station's head events judged against their send points at the present S, while the link is
UP and no link test holds the channel. -/
def State.transmit (s : State) (n : Station) : State :=
  let l := (s.ch n).link
  if l.state = .up ∧ l.test = none then
    let r := splitDue s.time.S l.lead l.queue
    r.1.foldl (State.transmitOne n) (s.mapLink n fun x => { x with queue := r.2 })
  else s

/-! ## Lamps (R138, R139) -/

/-- The state of a lamp of a link. -/
def Link.lamp (l : Link) : Lamp → Option LampState
  | .cue => l.cueLamp
  | .stop => l.stopLamp

/-- A lamp's state replaced. -/
def Link.setLampState (l : Link) (k : Lamp) (x : Option LampState) : Link :=
  match k with
  | .cue => { l with cueLamp := x }
  | .stop => { l with stopLamp := x }

/-- R138: a setting of a lamp, due at `d`, on an UP link, with the outcome R140 reports. -/
def Link.setLamp (l : Link) (k : Lamp) (source : LampSource) (p : LampPattern) (d : Sample) :
    Link × LampOutcome :=
  let cleared := { l with queue := l.queue.filter fun x => !(x.isFor k && decide (d ≤ x.due)) }
  match p.tick with
  | .time _ =>
    let r := (cleared.setLampState k (some ⟨p, source, none⟩)).hand (.lamp d k (.pattern p))
    (r.1, if r.2 then .queued else .dropped)
  | .beat t => (cleared.setLampState k (some ⟨p, source, some ⟨t, 0, 0, none⟩⟩), .running)

/-- R138: a setting of a station's lamp; it is made only on a channel whose link is UP. -/
def State.setLamp (s : State) (n : Station) (k : Lamp) (source : LampSource) (p : LampPattern)
    (d : Sample) : State :=
  if (s.ch n).isUp then s.mapLink n fun l => (l.setLamp k source p d).1 else s

/-- R139: the level a runner takes at a tick, and the runner after it. -/
def Runner.tick (r : Runner) (p : LampPattern) : Bool × Runner :=
  if 0 < r.pauseLeft then
    (p.bits.getMsbD 7,
      { r with pauseLeft := r.pauseLeft - 1, bit := if r.pauseLeft = 1 then 0 else r.bit })
  else if r.bit < 7 then (p.bits.getMsbD r.bit, { r with bit := r.bit + 1 })
  else if p.pause = 0 then (p.bits.getMsbD 7, { r with bit := 0 })
  else (p.bits.getMsbD 7, { r with bit := 7, pauseLeft := p.pause })

/-- R139: one tick of a lamp's runner on a link, handing a LAMP event when the level changes. -/
def Link.tickLamp (k : Lamp) (l : Link) (at_ : Sample) : Link :=
  match l.lamp k with
  | some x =>
    match x.runner with
    | some r =>
      let t := r.tick x.pattern
      let l' := l.setLampState k (some { x with runner := some { t.2 with last := some t.1 } })
      if r.last = some t.1 then l' else (l'.hand (.lamp at_ k (.level t.1))).1
    | none => l
  | none => l

/-- R139: the ticks a beat record gives a runner of `t` ticks per beat. -/
def BeatRecord.ticks (b : BeatRecord) (t : Nat) : List Sample := b.onset :: b.subs.pick t

/-- R139: a beat record handed to one lamp of a link. -/
def Link.runLamp (b : BeatRecord) (k : Lamp) (l : Link) : Link :=
  match (l.lamp k).bind LampState.runner with
  | some r => (b.ticks r.perBeat).foldl (Link.tickLamp k) l
  | none => l

/-- R26 step 4, R139: a beat record handed to every runner on an UP channel: to the CUE lamp's runner with all its
ticks, then to the STOP lamp's. The rules order the two in no way; this order is the model's choice (log 69). -/
def State.runLamps (b : BeatRecord) (n : Station) (s : State) : State :=
  if (s.ch n).isUp then s.mapLink n fun l => (l.runLamp b .cue).runLamp b .stop else s

/-- R113: the STOP lamp pattern of a show state handed, due at the present S, to a station whose link
is UP. -/
def State.stopLamp (st : ShowState) (n : Station) (s : State) : State :=
  s.setLamp n .stop .show_ (stopLampOf st) s.time.S

/-! ## Clicks (R30, R31) -/

/-- R31: the subdivision a station is handed: at REDUCED no more than 2. -/
def Channel.subdivision (c : Channel) : Nat :=
  if c.link.rate = .reduced ∧ 2 < c.assigned.click.subdivision then 2
  else c.assigned.click.subdivision

/-- R30: the click events a beat gives a station, in onset order. -/
def clickEvents (b : BeatRecord) (c : Channel) : List Event :=
  .click b.onset (if c.assigned.click.accent then b.level else .beat)
    :: (b.subs.pick c.subdivision).map fun x => .click x .sub

/-- R30: the station is admitted to the clicks of a beat. -/
def admitsClick (b : BeatRecord) (c : Channel) : Bool :=
  c.assigned.click.enabled && c.isUp && (!c.assigned.click.countInOnly || b.countdown.isSome)

/-- R26 step 3, R30: the click events of a beat handed to a station's channel. -/
def State.handClicks (b : BeatRecord) (n : Station) (s : State) : State :=
  if admitsClick b (s.ch n) then s.mapLink n fun l => l.handAll (clickEvents b (s.ch n)) else s

end Sys2Proof.Machine
end

