-- ==== Sys2Proof/Machine/Patch.lean ====
section
/-! DEFINITION. The Patch Tracker (05): the hand-over of patch entries, waiting, confirmation, link loss
and training, stops and resumption; and the commands IDLE_MARK, PATCH_DEADLINE and ACK_TIMEOUT. -/

namespace Sys2Proof.Machine

/-! ## Records and notices -/

/-- R98: a PATCH_STATE notice for an entry, with the pending state after the event. -/
def State.patchState (s : State) (n : Station) (cause : PatchStateCause) (after : PendingState)
    (e : PendingEntry) : State :=
  s.offer (.patchState n cause s.time.S after e.patch e.phase.sentAs)

/-- R98: a PATCH_MISMATCH notice. -/
def State.patchMismatch (s : State) (n : Station) (cause : MismatchCause) : State :=
  s.offer (.patchMismatch n cause s.time.S (s.patchOf n).confirmed (s.patchOf n).expected)

/-- The confirmed patch differs from an expected patch that is not UNKNOWN (R92, R93, R95). -/
def PatchRecord.mismatched (p : PatchRecord) : Bool :=
  p.expected.isSome && decide (p.confirmed ≠ p.expected)

/-- R84, R121: the record returned to its power-up values, and a queued PATCH withdrawn. -/
def State.dropPatchRecord (s : State) (n : Station) : State :=
  (s.setPatch n PatchRecord.powerUp).mapLink n Link.withdrawPatch

/-- R86: a PATCH handed to a station: the serial raised, the event queued, the entry SENT. -/
def State.sendPatch (s : State) (n : Station) (patch : Patch) (due : Sample) (force : Bool)
    (changePoint : Sample) : State :=
  let p := s.patchOf n
  let serial := (p.serial + 1) % 256
  (s.handEvent n (.patch due patch force serial)).setPatch n
    { p with
      expected := some patch
      serial := serial
      entry := some ⟨patch, changePoint,
        .sent due force serial (due + (s.ch n).link.lead + Config.ackMargin)⟩ }

/-! ## The hand-over (R87, R88) -/

/-- R87, R88: one patch entry of a hand-over at change point `c0`. -/
def State.takeEntry (c0 : Sample) (s : State) (e : PatchEntry) : State :=
  let n := e.station
  let p := s.patchOf n
  if !(s.ch n).isRig then s
  else if !(s.ch n).isUp then s.setPatch n { p with expected := some e.patch, entry := none }
  else if p.entry.isNone && decide (p.confirmed = some e.patch) then
    s.setPatch n { p with expected := some e.patch }
  else if e.policy = .now ∨ p.held = .clear then s.sendPatch n e.patch c0 false c0
  else
    (s.setPatch n
      { p with
        expected := some e.patch
        entry := some ⟨e.patch, c0, .waitingRelease e.deferLimit (c0 + Config.idleBeat) none⟩ }).mapLink n
      Link.withdrawPatch

/-- R73 step 2: the patch entries of a hand-over, each on its own. -/
def State.takeEntries (c0 : Sample) (es : List PatchEntry) (s : State) : State :=
  es.foldl (State.takeEntry c0) s

/-! ## Waiting (R89, R90) -/

/-- R89: one beat counted at sample `at_`, which sets the deadline when it brings the count to 0; a count that
is 0 already keeps its deadline. -/
def countedBeat (beats : Nat) (at_ : Sample) (deadline : Option Sample) : Nat × Option Sample :=
  if beats = 0 then (0, deadline) else (beats - 1, if beats = 1 then some at_ else none)

/-- R26 step 5, R89: a beat onset handed to the tracker, for one station: every waiting entry whose change
point lies before it counts it and has its idle mark set from it. -/
def State.countBeat (onset : Sample) (n : Station) (s : State) : State :=
  let p := s.patchOf n
  match p.entry with
  | some ⟨patch, cp, .waitingRelease k _ dl⟩ =>
    if cp < onset then
      let r := countedBeat k onset dl
      s.setPatch n
        { p with entry := some ⟨patch, cp, .waitingRelease r.1 (onset + Config.idleBeat) r.2⟩ }
    else s
  | _ => s

/-- R90: the due sample of a waiting entry's send: the later of S + lead and its change point. -/
def State.waitDue (s : State) (n : Station) (e : PendingEntry) : Sample :=
  max (s.time.S + (s.ch n).link.lead) e.changePoint

/-- R90: a waiting entry sent. -/
def State.sendWaiting (s : State) (n : Station) (e : PendingEntry) (force : Bool) : State :=
  s.sendPatch n e.patch (s.waitDue n e) force e.changePoint

/-- R85, R90: the held state reported in a status frame; HELD to CLEAR is a release. -/
def State.heldReport (s : State) (n : Station) (h : HeldState) : State :=
  let p := s.patchOf n
  let s' := s.setPatch n { p with held := h }
  if p.held = .held ∧ h = .clear then
    match p.entry with
    | some e => if e.phase.isSent then s' else s'.sendWaiting n e false
    | none => s'
  else s'

/-! ## Confirmation (R91 to R93) -/

/-- R92: a PATCH_DONE report. -/
def State.patchDone (n : Station) (s : State) (done : Patch × Nat) : State :=
  let p := { s.patchOf n with confirmed := some done.1 }
  let s' := s.setPatch n p
  match p.entry with
  | none => if p.mismatched then s'.patchMismatch n .done else s'
  | some e =>
    match e.phase with
    | .waitingRelease .. =>
      if p.confirmed = p.expected then s.setPatch n { p with entry := none } else s'
    | .sent _ _ serial _ =>
      if done.2 = serial then
        let s1 := s.setPatch n { p with entry := none }
        if p.mismatched then s1.patchMismatch n .done else s1
      else s'
    | .unconfirmed _ _ serial =>
      if done.2 = serial then
        let s1 := s.setPatch n { p with entry := none }
        let s2 := if p.mismatched then s1.patchMismatch n .done else s1
        s2.patchState n .lateDone .none_ e
      else s'

/-- R93: a patch change the player made by hand. -/
def State.localChange (s : State) (n : Station) (patch : Patch) : State :=
  let p := { s.patchOf n with confirmed := some patch }
  match p.entry with
  | none =>
    let s' := s.setPatch n p
    if p.mismatched then s'.patchMismatch n .local_ else s'
  | some e =>
    if !e.phase.isSent && decide (e.patch = patch) then s.setPatch n { p with entry := none }
    else s.setPatch n p

/-! ## Link loss and training (R94, R95) -/

/-- R94: the station's link leaves UP. -/
def State.patchLinkLost (s : State) (n : Station) : State :=
  let p := { s.patchOf n with held := .clear }
  match p.entry with
  | some ⟨patch, cp, .sent due force serial _⟩ =>
    let e : PendingEntry := ⟨patch, cp, .unconfirmed due force serial⟩
    (s.setPatch n { p with entry := some e }).patchState n .linkLost .unconfirmed e
  | _ => s.setPatch n p

/-- R95: the defer mark of a SETTINGS page: a waiting entry whose deadline is not yet reached. -/
def State.deferMark (s : State) (n : Station) : Bool :=
  match (s.patchOf n).entry with
  | some ⟨_, _, .waitingRelease _ _ dl⟩ => !reached dl s.time.S
  | _ => false

/-- R95: the SETTINGS reply's patch and held state taken, and the pending entry settled. -/
def State.patchTrained (s : State) (n : Station) (patch : Option Patch) (h : HeldState) : State :=
  let p := { s.patchOf n with confirmed := patch, held := h }
  match p.entry with
  | none =>
    let s' := s.setPatch n p
    if p.mismatched then s'.patchMismatch n .training else s'
  | some e =>
    if e.phase.isSent then
      let s' := (s.setPatch n { p with entry := none }).patchState n .trained .none_ e
      if p.confirmed = p.expected then s' else s'.patchMismatch n .training
    else if p.confirmed = p.expected then s.setPatch n { p with entry := none }
    else s.setPatch n p

/-- R95, R129 step 2: a waiting entry judged when the link comes UP. -/
def State.patchLinkUp (s : State) (n : Station) : State :=
  let p := s.patchOf n
  match p.entry with
  | some ⟨patch, cp, .waitingRelease k im dl⟩ =>
    let e : PendingEntry := ⟨patch, cp, .waitingRelease k im dl⟩
    if reached dl s.time.S then s.sendWaiting n e true
    else if p.held = .clear then s.sendWaiting n e false
    else s
  | _ => s

/-! ## Stops and resumption (R96, R97) -/

/-- R96: whether a stop at `s0` discards an entry. -/
def PendingPhase.discardedAt (s0 : Sample) : PendingPhase → Bool
  | .waitingRelease .. => true
  | .sent due _ _ _ => decide (s0 ≤ due)
  | .unconfirmed due _ _ => decide (s0 ≤ due)

/-- R96: a stop at `s0`, for one station: a discarded entry's expected patch reverts. -/
def State.patchStop (s0 : Sample) (n : Station) (s : State) : State :=
  let p := s.patchOf n
  match p.entry with
  | some e =>
    if e.phase.discardedAt s0 then s.setPatch n { p with expected := p.confirmed, entry := none } else s
  | none => s

/-- R97: the patch the last cue up to `target` with an entry for the station calls for. -/
def patchUpTo (cues : List Cue) (target : Nat) (n : Station) : Option Patch :=
  ((cues.filter fun c => decide (c.number ≤ target)).flatMap fun c =>
    (c.entries.filter fun e => decide (e.station = n)).map PatchEntry.patch).getLast?

/-- R97: a record whose expected patch has been rebuilt and for which no PATCH is handed: on a link that is not UP
it has no entry, and on one that is UP only an entry whose patch is the expected one. -/
def PatchRecord.settled (p : PatchRecord) (up : Bool) : PatchRecord :=
  { p with entry := p.entry.filter fun e => up && decide (p.expected = some e.patch) }

/-- R97: a RESUME at cue `target` with resume start `r`, for one station. The change point of an entry it makes
is `r` (log 53). -/
def State.patchResume (target : Nat) (r : Sample) (n : Station) (s : State) : State :=
  if !(s.ch n).isRig then s
  else
    let p0 := s.patchOf n
    let p := { p0 with expected := (patchUpTo s.cue.book.cues target n).or p0.expected }
    let up := (s.ch n).isUp
    match p.expected.filter fun x => up && decide (p.confirmed ≠ some x) with
    | some x => (s.setPatch n p).sendPatch n x r false r
    | none => s.setPatch n (p.settled up)

/-! ## The commands -/

/-- The idle mark of a station's waiting entry (R89). -/
def State.idleMarkOf (s : State) (n : Station) : Option Sample :=
  match (s.patchOf n).entry with
  | some ⟨_, _, .waitingRelease _ im _⟩ => some im
  | _ => none

/-- R89: the idle mark `m` reached: it moves on by 24,000 and, while the engine is SILENT, FREE or
WAIT_TAP, counts one idle beat. -/
def actIdleMark (n : Station) (s : State) : State :=
  let p := s.patchOf n
  match p.entry with
  | some ⟨patch, cp, .waitingRelease k im dl⟩ =>
    let r := if s.click.state.idles then countedBeat k im dl else (k, dl)
    s.setPatch n { p with entry := some ⟨patch, cp, .waitingRelease r.1 (im + Config.idleBeat) r.2⟩ }
  | _ => s

/-- IDLE_MARK (R89). -/
def execIdleMark (n : Station) (s : State) : Host.Outcome State Fault Refusal :=
  command (fun s => s.whenReached (s.idleMarkOf n) (actIdleMark n)) s

/-- The deadline of a station's waiting entry (R89). -/
def State.deadlineOf (s : State) (n : Station) : Option Sample :=
  match (s.patchOf n).entry with
  | some ⟨_, _, .waitingRelease _ _ dl⟩ => dl
  | _ => none

/-- R90: the deadline reached: with the link UP a PATCH with FORCE is handed and PATCH_STATE FORCED
queued; otherwise the entry stays waiting with its deadline passed. -/
def actPatchDeadline (n : Station) (s : State) : State :=
  match (s.patchOf n).entry with
  | some e =>
    if (s.ch n).isUp then
      let s' := s.sendWaiting n e true
      match (s'.patchOf n).entry with
      | some e' => s'.patchState n .forced .sent e'
      | none => s'
    else s
  | none => s

/-- PATCH_DEADLINE (R90). -/
def execPatchDeadline (n : Station) (s : State) : Host.Outcome State Fault Refusal :=
  command (fun s => s.whenReached (s.deadlineOf n) (actPatchDeadline n)) s

/-- The acknowledgement end of a station's SENT entry (R91). -/
def State.ackEndOf (s : State) (n : Station) : Option Sample :=
  match (s.patchOf n).entry with
  | some ⟨_, _, .sent _ _ _ a⟩ => some a
  | _ => none

/-- R91: the acknowledgement end reached: the entry becomes UNCONFIRMED with ACK_TIMEOUT. -/
def actAckTimeout (n : Station) (s : State) : State :=
  let p := s.patchOf n
  match p.entry with
  | some ⟨patch, cp, .sent due force serial _⟩ =>
    let e : PendingEntry := ⟨patch, cp, .unconfirmed due force serial⟩
    (s.setPatch n { p with entry := some e }).patchState n .ackTimeout .unconfirmed e
  | _ => s

/-- ACK_TIMEOUT (R91). -/
def execAckTimeout (n : Station) (s : State) : Host.Outcome State Fault Refusal :=
  command (fun s => s.whenReached (s.ackEndOf n) (actAckTimeout n)) s

end Sys2Proof.Machine
end

