-- ==== Sys2Proof/Machine/Click.lean ====
section
/-! DEFINITION. The Click Engine (02): producing a beat, change points and hold points, the engine's part
of a hand-over, map ends, vamps, taps, holds, stops and resumption. The commands that call on these are
in Engine.lean, Cue.lean, Show.lean and StatusFrame.lean. -/

namespace Sys2Proof.Machine

/-- The state with the Click Engine changed. -/
def State.mapClick (s : State) (f : ClickEngine → ClickEngine) : State := { s with click := f s.click }

/-- S + HORIZON. -/
def State.horizon (s : State) : Sample := s.time.S + Config.horizon

/-! ## What comes next (R23, R26, R36) -/

/-- What the engine does when S + HORIZON reaches the next onset: a beat, the map end, or the start of
a TAP or FREE segment. -/
inductive Move where
  | beat
  | mapEnd
  | start
deriving DecidableEq, Repr

/-- R26, R34, R36: nothing is made at or after the production limit or the hold point. A hold point at
the end of the map or at the start of a TAP or FREE segment keeps the position there (log 15). -/
def ClickEngine.blocked (e : ClickEngine) (x : Sample) : Bool :=
  reached e.limit x || reached e.holdPoint x

/-- The kind of the context's next move. -/
def Context.move (c : Context) : Move :=
  if c.moveDue then .start else if c.pastLast then .mapEnd else .beat

/-- R26: the engine's next move with its onset, in the states that produce beats. -/
def ClickEngine.next (e : ClickEngine) : Option (Move × Sample) :=
  match e.context with
  | none => none
  | some c =>
    if e.state.produces && !e.blocked c.nextOnset then some (c.move, c.nextOnset) else none

/-! ## Producing a beat (R26) -/

/-- R29: the record kept with the later of the two kept before it. -/
def keepRecord (b : BeatRecord) (kept : List BeatRecord) : List BeatRecord :=
  kept.drop (kept.length - 1) ++ [b]

/-- R26 steps 1 and 2: the engine after producing the beat of context `c` in segment `g`; the tap list is
emptied when the position leaves a TAP segment (R39). -/
def ClickEngine.afterBeat (e : ClickEngine) (c : Context) (g : Segment) : ClickEngine :=
  let b := c.record g
  let r := c.advance e.release
  { e with
    context := some { r.1 with lastOnset := some b.onset, muteFirst := false }
    release := e.release && !r.2
    taps := if g.kind = .tap ∧ r.1.segmentIndex ≠ c.segmentIndex then [] else e.taps
    kept := keepRecord b e.kept }

/-- R26 steps 3 to 5: a beat record handed to the channels, the lamps and the Patch Tracker. -/
def State.handBeat (s : State) (b : BeatRecord) (mute : Bool) : State :=
  let s1 := if mute then s else forAll (State.handClicks b) s
  forAll (State.countBeat b.onset) (forAll (State.runLamps b) s1)

/-- R26: the next beat produced, in the order of the rule's steps. -/
def State.produceBeat (s : State) : State :=
  match s.click.context with
  | none => s
  | some c =>
    match c.segment with
    | none => s
    | some g =>
      let s1 := (s.mapClick fun e => e.afterBeat c g).handBeat (c.record g) c.muteFirst
      match c.barReached g with
      | some (bar, pass) => s1.report (.barReached bar pass)
      | none => s1

/-! ## TAP segments (R39, R40) -/

/-- R40: the first beat of a TAP segment placed, in a new context of the same segments, when the list
holds two or more stamps. -/
def State.placeTap (s : State) : State :=
  match s.click.context with
  | none => s
  | some c =>
    if s.click.state = .waitTap ∧ 2 ≤ s.click.taps.length then
      let taps := s.click.taps
      let first := tapFirstOnset (taps.getLastD 0) (tapInterval taps) s.horizon
      s.mapClick fun e =>
        { e with
          context := some
            { c with
              acc := rebase first, tempo := tapTempo taps, tapPlaced := true, lastOnset := none
              muteFirst := false } }
    else s

/-- The index of the segment of the next beat: the segment to come once the current one has produced its
last beat (R37, log 39). -/
def Context.currentIndex (c : Context) : Nat :=
  if c.moveDue then c.segmentIndex + 1 else c.segmentIndex

/-- R37, R39: the current segment or the one after it is of kind `k`. -/
def Context.isNear (c : Context) (k : SegmentKind) : Bool :=
  let kindAt := fun i => (c.segments[i]?).map Segment.kind
  decide (kindAt c.currentIndex = some k ∨ kindAt (c.currentIndex + 1) = some k)

/-- R39: the engine takes a tap in its state and position. -/
def ClickEngine.takesTap (e : ClickEngine) : Bool :=
  (e.state.produces || decide (e.state = .waitTap))
    && (e.context.map fun c => c.isNear .tap).getD false

/-- R40: the current segment is TAP with its first beat placed, so a tap tempo is its current tempo. -/
def Context.followsTaps (c : Context) : Bool :=
  c.tapPlaced && !c.moveDue && decide (c.segment.map Segment.kind = some .tap)

/-- R40: the current tempo a tap list gives a TAP segment that produces beats. A tap stored while a count-in into
such a segment plays sets it too, and the next count-in beat sets it back (`Context.advance`, log 67). -/
def Context.followTaps (c : Context) (taps : List Sample) : Context :=
  if c.followsTaps && decide (2 ≤ taps.length) then { c with tempo := tapTempo taps } else c

/-- R19, R39, R40: a tap with its stamp. -/
def State.takeTap (s : State) (stamp : Sample) : State :=
  match storeTap s.click.taps stamp with
  | .bounce => s
  | .stored taps =>
    (s.mapClick fun e =>
      { e with taps := taps, context := e.context.map fun c => c.followTaps taps }).placeTap

/-! ## Moves into a TAP or FREE segment (R23, R28) -/

/-- R28: a production limit that falls after E once the position is in a TAP or FREE segment is due at
once at S + HORIZON (R33, log 14). -/
def State.pullLimit (s : State) : State :=
  match s.click.limit with
  | none => s
  | some _ =>
    let s1 := s.mapClick fun e => { e with limit := none }
    let flight := s.cue.inFlight.map fun f => { f with changePoint := s.horizon }
    { s1 with cue := { s1.cue with inFlight := flight } }.report .changeDue

/-- The pending hold point set, with the Show State Controller's record of it (R41, R104). -/
def State.setHoldPoint (s : State) (x : Sample) : State :=
  let s1 := s.mapClick fun e => { e with holdPoint := some x }
  { s1 with ctl := { s1.ctl with holdPending := s1.ctl.holdPending.map fun h => { h with point := x } } }

/-- R28, R41: a hold point that falls after E is found again at S + HORIZON (log 14). -/
def State.pullHold (s : State) : State :=
  match s.click.holdPoint with
  | none => s
  | some _ => s.setHoldPoint s.horizon

/-- R23, R28: the position moves into the TAP or FREE segment that follows; the tap list is kept unless
a TAP segment is left (R39). -/
def ClickEngine.startSegment (e : ClickEngine) : ClickEngine :=
  match e.context with
  | none => e
  | some c =>
    { e with
      context := some (c.enter (c.segmentIndex + 1))
      taps := if c.segment.map Segment.kind = some .tap then [] else e.taps }

/-- R23, R28, R40: the start of a TAP or FREE segment at E. -/
def State.startSegment (s : State) : State :=
  (s.mapClick ClickEngine.startSegment).pullHold.pullLimit.placeTap

/-! ## Production at once (R26) -/

/-- R26, R34, R36: what is due at the present S after a context is built, re-based or released from a
limit: one beat, the map end, or the start of a TAP or FREE segment. -/
def State.runEngine (s : State) : State :=
  match s.click.next with
  | none => s
  | some (m, x) =>
    if x ≤ s.horizon then
      match m with
      | .beat => s.produceBeat
      | .mapEnd => s.report .mapEnd
      | .start => s.startSegment
    else s

/-! ## Change points and hold points (R33, R41) -/

/-- R33: the change point of a kind. R33 lists no answer for HELD; the model gives S + HORIZON there (log 51). -/
def ClickEngine.changePoint (e : ClickEngine) (horizon : Sample) (k : ChangeKind) : Sample :=
  match e.context with
  | none => horizon
  | some c =>
    if e.state.produces then
      match k with
      | .immediate => horizon
      | .nextBeat => walk (fun _ => true) e.holdPoint walkLimit c e.release
      | .nextBar => walk Context.atDownbeat e.holdPoint walkLimit c e.release
    else horizon

/-- R33, R34: the Cue Engine's change-point request: a sample after S + HORIZON becomes the production
limit, and any other brings CHANGE_DUE at once. -/
def State.setChangePoint (s : State) (x : Sample) : State :=
  if s.horizon < x then s.mapClick fun e => { e with limit := some x } else s.report .changeDue

/-- R41: the hold point a HOLD asks for. -/
def ClickEngine.holdPointAt (e : ClickEngine) (horizon : Sample) : Sample :=
  match e.context with
  | none => horizon
  | some c =>
    if e.state.produces then walk Context.atMainDownbeat e.limit walkLimit c e.release else horizon

/-- R35, R41: a hold point pending at a hand-over, found again in the context the hand-over has built:
its first beat 1 that is not a count-in beat, or `c0` where it produces no beats. -/
def State.rehold (s : State) (c0 : Sample) : State :=
  match s.click.holdPoint with
  | none => s
  | some _ => s.setHoldPoint (ClickEngine.holdPointAt { s.click with limit := none, holdPoint := none } c0)

/-! ## The hand-over (R35) -/

/-- R35: a map number: a new context at `c0`, its first record's clicks not made when the replaced
context's last onset was `c0`. -/
def ClickEngine.build (e : ClickEngine) (map : Nat) (gs : List Segment) (c0 : Sample) (countIn : Nat) :
    ClickEngine :=
  { e with
    context := some
      { Context.build map gs c0 countIn with
        muteFirst := decide (e.context.bind Context.lastOnset = some c0) }
    limit := none
    release := false
    taps := [] }

/-- R35: the engine's part of a hand-over at `c0`. One made while the engine is HELD leaves it HELD, in the new
context, in none or in the one kept; a CONTINUE then leads straight into the new context's first segment, without the
count-in of the cue (R35 and R25 do not say; the model's choice, log 72). -/
def State.engineHandOver (s : State) (c0 : Sample) (ref : MapRef) (countIn : Nat) : State :=
  match ref with
  | .map n =>
    ((s.mapClick fun e => e.build n (s.cue.book.segments n) c0 countIn).rehold c0).runEngine
  | .silence =>
    (s.mapClick fun e =>
      { e with context := none, limit := none, release := false, taps := [] }).rehold c0
  | .keep => (s.mapClick fun e => { e with limit := none }).runEngine

/-! ## Map end (R36) -/

/-- R1, R36: the context discarded at the map end, with its MAP_END notice: the map, E, and the value of S at
which the end is taken. -/
def State.discardMap (s : State) (e : Sample) : State :=
  match s.click.context with
  | none => s
  | some c => (s.mapClick fun x => { x with context := none }).offer (.mapEnd c.map e s.time.S)

/-! ## Releases (R37) -/

/-- R37: the engine accepts a RELEASE. -/
def ClickEngine.accepts (e : ClickEngine) : Bool :=
  (e.context.map fun c => c.isNear .vamp).getD false

/-- R37: a RELEASE passed to the engine, and whether it accepts it. -/
def State.release (s : State) : State × Bool :=
  if s.click.accepts then (s.mapClick fun e => { e with release := true }, true) else (s, false)

/-! ## Holds, stops and resumption (R42 to R46) -/

/-- R42: the hold point reached: the engine HELD at its position, which is the start of the TAP or FREE
segment where the walk stopped there. -/
def ClickEngine.hold (e : ClickEngine) : ClickEngine :=
  { e with
    held := true
    holdPoint := none
    taps := []
    context := e.context.map fun c => if c.moveDue then c.enter (c.segmentIndex + 1) else c }

/-- R34, R44, R77: a stop at `s0` clears the production limit in any state; a stop taken while HELD changes
nothing else (log 60). A count-in is dropped whole, so that the position kept is the beat it was to lead into (the
model's choice, log 73). -/
def ClickEngine.stop (e : ClickEngine) (s0 : Sample) : ClickEngine :=
  if e.held then { e with limit := none }
  else
    { e with
      held := true
      limit := none
      holdPoint := none
      taps := []
      reach := none
      context := e.context.map fun c => { c with countIn := none }
      kept := e.kept.filter fun b => decide (b.onset < s0) }

/-- The position of a context is a beat: not past the last segment, nor in a FREE segment, nor in a TAP
segment whose first beat has not been placed (R43, log 40). -/
def Context.isBeat (c : Context) : Bool :=
  match c.segment with
  | none => false
  | some g =>
    match g.kind with
    | .metered | .vamp => true
    | .tap => c.tapPlaced
    | .free => false

/-- R43: CONTINUE with count-in `countIn`. -/
def State.engineContinue (s : State) (countIn : Nat) : State :=
  match s.click.context with
  | none =>
    (s.mapClick fun e => { e with held := false, taps := [] }).report (.continueReached s.time.S)
  | some c =>
    if c.isBeat then
      let c' := c.returnAt s.horizon countIn
      (s.mapClick fun e =>
        { e with
          held := false, taps := [], context := some c'
          reach := some ⟨.continued, c'.mainOnset⟩ }).runEngine
    else
      let s1 := s.mapClick fun e => { e with held := false, taps := [] }
      (if c.pastLast then s1.discardMap s.horizon else s1).report (.continueReached s.time.S)

/-- R45: the engine emptied for a RESUME. -/
def ClickEngine.forResume (e : ClickEngine) (c : Option Context) (r : Option Reach) : ClickEngine :=
  { e with
    held := false, kept := [], taps := [], release := false, context := c, reach := r }

/-- R45: RESUME with the map used, the target bar and the count-in. -/
def State.engineResume (s : State) (map : Option Nat) (bar countIn : Nat) : State :=
  let gs := (map.map s.cue.book.segments).getD []
  let silent :=
    (s.mapClick fun e => e.forResume none none).report (.resumeReached s.time.S)
  match map, gs.head? with
  | some n, some g =>
    if g.kind = .free then silent
    else
      match lastBar gs with
      | none =>
        (s.mapClick fun e => e.forResume (some (Context.start n gs 0 s.horizon)) none).report
          (.resumeReached s.time.S)
      | some _ =>
        let c := (Context.atBar n gs bar s.horizon).returnAt s.horizon countIn
        (s.mapClick fun e => e.forResume (some c) (some ⟨.resumed, c.mainOnset⟩)).runEngine
  | _, _ => silent

end Sys2Proof.Machine
end

