-- ==== Sys2Proof/Machine/Link.lean ====
section
/-! DEFINITION. The Pit Link Controller's stations and links (07): station records, training, keeping and
losing the link, the outbound queue's send point, lamps, the link test and the parameter relay. The
status frame is in StatusFrame.lean. -/

namespace Sys2Proof.Machine

/-! ## Notices and deferred replies -/

/-- R123: a LINK_STATE notice with the link as it stands after the change. -/
def State.linkNotice (s : State) (n : Station) (before : LinkState) (cause : LinkCause)
    (entry : Option (Nat × Nat × Nat × Bool)) : State :=
  s.offer (.linkState n before (s.ch n).link.state (s.ch n).link.rate cause s.time.S entry)

/-- R142, R143, R171: a deferred reply, which takes its place in the order of replies now and holds no
place of the request buffer. -/
def State.deferredReply (s : State) (kind tag : Nat) (a : Answer) : State := s.answer kind tag a false

/-- R142: a link test ended with a result. -/
def State.endTest (s : State) (n : Station) (r : LinkTest → TestResult) : State :=
  match (s.ch n).link.test with
  | some t =>
    (s.mapLink n fun l => { l with test := none }).deferredReply 0x34 t.tag
      (.ok false (.testResult (r t) t.began s.time.S))
  | none => s

/-- R132, R142: a link test in progress ends as ABORTED. -/
def State.abortTest (n : Station) (s : State) : State := s.endTest n fun _ => .aborted

/-- R143: a relay in flight ended with an answer. -/
def State.endRelay (s : State) (n : Station) (a : Answer) : State :=
  match (s.ch n).link.relay with
  | some r => (s.mapLink n fun l => { l with relay := none }).deferredReply 0x35 r.tag a
  | none => s

/-! ## SEEK and training (R124 to R128) -/

/-- R124: a SEEK burst sent at once, the next 4,800 samples on. -/
def State.burst (s : State) (n : Station) : State :=
  (s.send n .seekBurst).mapLink n fun l => { l with nextBurst := some (s.time.S + Config.seekInterval) }

/-- R121, R128, R132: the link in SEEK with rate FULL and tries 0, its first burst sent at once. -/
def State.enterSeek (s : State) (n : Station) (holdEnd : Option Sample) : State :=
  (s.mapLink n fun l =>
    { l with state := .seek, rate := .full, tries := 0, seekHoldEnd := holdEnd, page := none }).burst n

/-- R95, R126: the contents of a SETTINGS page, as they stand when it is made up. -/
def State.settingsPage (s : State) (n : Station) : SettingsPage :=
  ⟨(s.ch n).assigned, (s.ch n).link.delay.getD 0, (s.patchOf n).expected, s.deferMark n⟩

/-- R125: a new page sent: the toggle flipped, the page and its first sending recorded. -/
def State.sendPage (s : State) (n : Station) (k : PageKind) : State :=
  let page : Page :=
    { kind := k
      toggle := !(s.ch n).link.toggle
      firstSent := s.time.S
      nextRepeat := s.time.S + Config.pageRepeat
      settings := if k = .settings then some (s.settingsPage n) else none }
  (s.send n (.page page)).mapLink n fun l => { l with page := some page, toggle := page.toggle }

/-- R124, R125, R128: a training attempt started at a rate, from IDENT. -/
def State.startAttempt (s : State) (n : Station) (rate : LinkRate) : State :=
  (s.mapLink n fun l =>
    { l with state := .training, rate := rate, seekHoldEnd := none, nextBurst := none }).sendPage n .ident

/-- R128: a failed attempt. The held state that a SETTINGS reply of the attempt has set stands, though the link does
not come UP (R85 and R95 do not say; the model's choice, log 77). -/
def State.failAttempt (s : State) (n : Station) (cause : LinkCause) : State :=
  let s1 := s.mapLink n fun l =>
    { l with tries := l.tries + 1, lastFailure := some (cause, s.time.S), page := none }
  let l := (s1.ch n).link
  if l.tries < (s1.ch n).assigned.linkTries then s1.startAttempt n l.rate
  else
    match l.rate with
    | .full =>
      ((s1.mapLink n fun l => { l with rate := .reduced, tries := 0 }).linkNotice n .training .downshift
        none).startAttempt n .reduced
    | .reduced =>
      (s1.enterSeek n (some (s.time.S + Config.seekHold))).linkNotice n .training .exhausted none

/-- R125: the page of kind `k` with this toggle is the one awaiting its reply. -/
def Link.awaits (l : Link) (k : PageKind) (toggle : Bool) : Bool :=
  match l.page with
  | some p => decide (l.state = .training) && decide (p.kind = k) && decide (p.toggle = toggle)
  | none => false

/-- R125: a reply to a page: taken when its kind and toggle are those awaited, ignored otherwise. -/
def State.takeReply (s : State) (n : Station) (k : PageKind) (toggle : Bool) (act : State → State) :
    State :=
  if (s.ch n).link.awaits k toggle then act (s.mapLink n fun l => { l with page := none }) else s

/-! ## Leaving UP (R132) -/

/-- R132: the reported part, the lamps' runners and patterns, and the windows cleared. -/
def Channel.clearUp (c : Channel) : Channel :=
  { c with
    reported := Reported.cleared
    link :=
      { c.link with
        cueLamp := none, stopLamp := none, silenceEnd := none, errorCount := 0, windowEnd := none
        refreshAt := none } }

/-- R121, R132: the link OFF; its rate is then FULL and its tries 0 (log 54). -/
def State.linkOff (s : State) (n : Station) : State :=
  s.mapLink n fun l =>
    { l with
      state := .off, rate := .full, tries := 0, seekHoldEnd := none, nextBurst := none, page := none }

/-- R132: the link leaves UP, in the order the rule lists: OFF for ROLE, a new attempt at FULL for
RETRAIN, SEEK otherwise. -/
def State.leaveUp (s : State) (n : Station) (cause : LinkCause) : State :=
  let s1 := (State.abortTest n (s.mapLink n fun l => { l with queue := [] })).endRelay n
    (.refused .aborted .none_)
  let s2 := (s1.setCh n (s1.ch n).clearUp).patchLinkLost n
  let s3 :=
    match cause with
    | .role => s2.linkOff n
    | .retrain => (s2.mapLink n fun l => { l with tries := 0 }).startAttempt n .full
    | _ => s2.enterSeek n none
  s3.linkNotice n .up cause none

/-! ## Station table (R120, R121) -/

/-- R121: the settings frame sent at once on an UP link and the refresh restarted. -/
def State.sendSettings (s : State) (n : Station) : State :=
  if (s.ch n).isUp then
    (s.send n (.settings (s.ch n).assigned)).mapLink n fun l =>
      { l with refreshAt := some (s.time.S + Config.settingsRefresh) }
  else s

/-- R121: a role moved to or from UNUSED moves the link. -/
def State.roleLink (s : State) (n : Station) (before after : StationRole) : State :=
  if before = .unused ∧ after ≠ .unused then (s.enterSeek n none).linkNotice n .off .role none
  else if before ≠ .unused ∧ after = .unused then
    if (s.ch n).isUp then s.leaveUp n .role
    else (s.linkOff n).linkNotice n (s.ch n).link.state .role none
  else s

/-- R120, R121: one station written by a taken STATION_SET. -/
def State.writeStation (a : Assigned) (n : Station) (s : State) : State :=
  let before := (s.ch n).assigned
  let s1 := (s.setCh n { s.ch n with assigned := a }).roleLink n before.role a.role
  let drop : Bool :=
    decide (before.role ≠ .unused ∧ a.role = .unused) || decide (before.kind = .rig ∧ a.kind = .click)
  (if drop then s1.dropPatchRecord n else s1).sendSettings n

/-- R120: role MD refused: another station has it, or station 0 names more than one station in use. -/
def State.mdTaken (s : State) (station : Nat) : Bool :=
  match stationOf station with
  | some n => allStations.any fun m => decide (m ≠ n ∧ (s.ch m).assigned.role = .md)
  | none => decide (1 < s.inUse.length)

/-- R120: STATION_SET judged and taken. -/
def actStationSet (station : Nat) (raw : RawAssigned) (s : State) : State × Answer :=
  match readAssigned raw with
  | none => refuse s .badValue
  | some (a, clamped) =>
    if 24 < station ∨ (a.role = .md ∧ s.mdTaken station) then refuse s .badValue
    else
      let named :=
        match stationOf station with
        | some n => [n]
        | none => s.inUse
      (forStations (State.writeStation a) named s, .ok clamped (.stationsWritten named.length a))

/-- STATION_SET (R120). A name longer than 8 characters is a length fault (log 26). -/
def execStationSet (tag station : Nat) (raw : RawAssigned) (s : State) :
    Host.Outcome State Fault Refusal :=
  serve 0x30 tag (decide (raw.name.length ≤ 8)) (actStationSet station raw) s

/-- R121: the settings frame repeated. -/
def actSettingsRefresh (n : Station) (s : State) : State := s.sendSettings n

/-- SETTINGS_REFRESH (R121). -/
def execSettingsRefresh (n : Station) (s : State) : Host.Outcome State Fault Refusal :=
  command (fun s => s.whenReached (s.ch n).link.refreshAt (actSettingsRefresh n)) s

/-! ## Seeking (R124) -/

/-- SEEK_BURST (R124). -/
def execSeekBurst (n : Station) (s : State) : Host.Outcome State Fault Refusal :=
  command
    (fun s =>
      if (s.ch n).link.state = .seek then s.whenReached (s.ch n).link.nextBurst fun s => s.burst n
      else s) s

/-- R124: an answer to a burst, unless it comes before the seek hold end. -/
def actSeekAnswer (n : Station) (s : State) : State :=
  let l := (s.ch n).link
  if l.state = .seek ∧ (l.seekHoldEnd = none ∨ reached l.seekHoldEnd s.time.S) then
    let s1 := s.mapLink n fun l => { l with state := .training }
    (s1.linkNotice n .seek .answered none).startAttempt n l.rate
  else s

/-- SEEK_ANSWER (R124). -/
def execSeekAnswer (n : Station) (s : State) : Host.Outcome State Fault Refusal :=
  command (actSeekAnswer n) s

/-- R124: the seek hold end cleared and a burst sent at once, the bursts then every 4,800 samples from it. A
RETRAIN in SEEK does the same: R133 says nothing of the spacing after its burst, and the model starts it afresh
from that burst (log 63). -/
def actSeekHoldEnd (n : Station) (s : State) : State :=
  (s.mapLink n fun l => { l with seekHoldEnd := none }).burst n

/-- SEEK_HOLD_END (R124). -/
def execSeekHoldEnd (n : Station) (s : State) : Host.Outcome State Fault Refusal :=
  command
    (fun s =>
      if (s.ch n).link.state = .seek then s.whenReached (s.ch n).link.seekHoldEnd (actSeekHoldEnd n)
      else s) s

/-! ## Training (R125 to R129) -/

/-- The page awaiting its reply; there is one in TRAINING alone (R123). -/
def Link.awaited (l : Link) : Option Page := if l.state = .training then l.page else none

/-- The next repeat of the page awaiting its reply (R125). -/
def Link.repeatAt (l : Link) : Option Sample := l.awaited.map Page.nextRepeat

/-- The sample at which the page awaiting its reply times out (R125). -/
def Link.pageEnd (l : Link) : Option Sample := l.awaited.map fun p => p.firstSent + Config.pageTimeout

/-- R125: the page sent again with the same toggle and contents. -/
def actPageRepeat (n : Station) (s : State) : State :=
  match (s.ch n).link.page with
  | some p =>
    (s.send n (.page p)).mapLink n fun l =>
      { l with page := some { p with nextRepeat := p.nextRepeat + Config.pageRepeat } }
  | none => s

/-- PAGE_REPEAT (R125). -/
def execPageRepeat (n : Station) (s : State) : Host.Outcome State Fault Refusal :=
  command (fun s => s.whenReached (s.ch n).link.repeatAt (actPageRepeat n)) s

/-- PAGE_TIMEOUT (R125). -/
def execPageTimeout (n : Station) (s : State) : Host.Outcome State Fault Refusal :=
  command (fun s => s.whenReached (s.ch n).link.pageEnd fun s => s.failAttempt n .pageTimeout) s

/-- R126: the IDENT reply. -/
def actIdentReply (n : Station) (kind : StationKind) (serial : Nat) (s : State) : State :=
  (s.mapLink n fun l => { l with stationSerial := some serial, reportedKind := some kind }).sendPage n
    .ability

/-- IDENT_REPLY (R126). -/
def execIdentReply (n : Station) (toggle : Bool) (kind : StationKind) (serial : Nat) (s : State) :
    Host.Outcome State Fault Refusal :=
  command (fun s => s.takeReply n .ident toggle (actIdentReply n kind serial)) s

/-- R126: the ABILITY reply; an attempt at a rate the station does not offer fails at once. -/
def actAbilityReply (n : Station) (offersFull offersReduced hasRig : Bool) (s : State) : State :=
  let s1 := s.mapLink n fun l =>
    { l with ratesOffered := some (offersFull, offersReduced), rigCapable := some hasRig }
  let offered :=
    match (s.ch n).link.rate with
    | .full => offersFull
    | .reduced => offersReduced
  if offered then s1.sendPage n .delayProbe else s1.failAttempt n .pageTimeout

/-- ABILITY_REPLY (R126). -/
def execAbilityReply (n : Station) (toggle offersFull offersReduced hasRig : Bool) (s : State) :
    Host.Outcome State Fault Refusal :=
  command (fun s => s.takeReply n .ability toggle (actAbilityReply n offersFull offersReduced hasRig)) s

/-- R127: the one-way delay of a probe echo taken at `S`: the round trip halved, rounded up. A negative
round trip leaves it open (a free value, log 20). -/
def probeDelay (S stamp turnaround : Nat) : Nat :=
  if stamp + turnaround ≤ S then (S - stamp - turnaround + 1) / 2
  else Config.negativeRoundTripDelay S stamp turnaround

/-- R127: the DELAY_PROBE reply. -/
def actDelayProbeReply (n : Station) (stamp turnaround : Nat) (s : State) : State :=
  let d := probeDelay s.time.S stamp turnaround
  if Config.delayMax < d then s.failAttempt n .tooFar
  else (s.mapLink n fun l => { l with delay := some d }).sendPage n .settings

/-- DELAY_PROBE_REPLY (R127). -/
def execDelayProbeReply (n : Station) (toggle : Bool) (stamp turnaround : Nat) (s : State) :
    Host.Outcome State Fault Refusal :=
  command (fun s => s.takeReply n .delayProbe toggle (actDelayProbeReply n stamp turnaround)) s

/-- R119, R122, R126: the station's own settings copied into the reported part. -/
def State.setReported (s : State) (n : Station) (r : StationReport) : State :=
  s.setCh n { s.ch n with reported := ⟨some r.actual, r.heldMask, r.lamps⟩ }

/-- R95, R126: the SETTINGS reply. -/
def actSettingsReply (n : Station) (report : StationReport) (patch : Option Patch) (h : HeldState)
    (s : State) : State :=
  ((s.setReported n report).patchTrained n patch h).sendPage n .ready

/-- SETTINGS_REPLY (R95). -/
def execSettingsReply (n : Station) (toggle : Bool) (report : StationReport) (patch : Option Patch)
    (h : HeldState) (s : State) : Host.Outcome State Fault Refusal :=
  command (fun s => s.takeReply n .settings toggle (actSettingsReply n report patch h)) s

/-- R129 step 1: the link UP with its windows started. -/
def Link.up (l : Link) (S : Sample) : Link :=
  { l with
    state := .up
    tries := 0
    page := none
    silenceEnd := some (S + Config.silenceLoss)
    errorCount := 0
    windowEnd := some (S + Config.errorWindow)
    refreshAt := some (S + Config.settingsRefresh) }

/-- R129 step 3: the CUE lamp's pattern for a station at link-up. -/
def State.cueLampAtUp (s : State) (n : Station) : LampPattern :=
  if n ∈ s.cue.book.warnList s.cue.warned then warnPattern else offPattern

/-- R129: the READY reply brings the link UP, in the order the rule lists. -/
def actReadyReply (n : Station) (s : State) : State :=
  let s1 := (s.mapLink n fun l => l.up s.time.S).patchLinkUp n
  let s2 := s1.setLamp n .cue .cue (s1.cueLampAtUp n) s1.time.S
  let s3 := State.stopLamp s2.ctl.state n s2
  let l := (s3.ch n).link
  let serial := l.stationSerial.getD 0
  let s4 := s3.linkNotice n .training .trained
    (some (l.delay.getD 0, l.lead, serial, decide (l.serialLastUp ≠ some serial)))
  s4.mapLink n fun l => { l with serialLastUp := l.stationSerial }

/-- READY_REPLY (R129). -/
def execReadyReply (n : Station) (toggle : Bool) (s : State) : Host.Outcome State Fault Refusal :=
  command (fun s => s.takeReply n .ready toggle (actReadyReply n)) s

/-! ## Keeping and losing the link (R130, R131, R133) -/

/-- LINK_SILENCE (R130). -/
def execLinkSilence (n : Station) (s : State) : Host.Outcome State Fault Refusal :=
  command
    (fun s =>
      if (s.ch n).isUp then s.whenReached (s.ch n).link.silenceEnd fun s => s.leaveUp n .silence else s)
    s

/-- R131: a back-channel frame whose check fails. -/
def actCheckError (n : Station) (s : State) : State :=
  if (s.ch n).isUp then
    let s1 := s.mapLink n fun l => { l with errorCount := l.errorCount + 1 }
    if (s1.ch n).assigned.errorLimit ≤ (s1.ch n).link.errorCount then s1.leaveUp n .errors else s1
  else s

/-- BACK_CHANNEL_CHECK_ERROR (R131). -/
def execBackChannelCheckError (n : Station) (s : State) : Host.Outcome State Fault Refusal :=
  command (actCheckError n) s

/-- R131: the error count back to 0 and the next window begun. -/
def actErrorWindowEnd (n : Station) (s : State) : State :=
  s.mapLink n fun l =>
    { l with errorCount := 0, windowEnd := l.windowEnd.map (· + Config.errorWindow) }

/-- ERROR_WINDOW_END (R131). -/
def execErrorWindowEnd (n : Station) (s : State) : Host.Outcome State Fault Refusal :=
  command (fun s => s.whenReached (s.ch n).link.windowEnd (actErrorWindowEnd n)) s

/-- R133: RETRAIN on one station by its link state; in SEEK the spacing of the bursts starts afresh (log 63), and in
TRAINING the held state that a SETTINGS reply has set stands (log 77). -/
def State.retrainOne (n : Station) (s : State) : State :=
  let l := (s.ch n).link
  match l.state with
  | .up => s.leaveUp n .retrain
  | .training =>
    let s1 := s.mapLink n fun l => { l with rate := .full, tries := 0, page := none }
    (if l.rate = .reduced then s1.linkNotice n .training .retrain none else s1).startAttempt n .full
  | .seek => actSeekHoldEnd n s
  | .off => s

/-- R133: RETRAIN judged and taken. -/
def actRetrain (station : Nat) (s : State) : State × Answer :=
  if 24 < station then refuse s .badValue
  else
    match stationOf station with
    | some n =>
      if (s.ch n).inUse then (s.retrainOne n, .ok false (.retrained 1)) else refuse s .wrongState
    | none => (forStations State.retrainOne s.inUse s, .ok false (.retrained s.inUse.length))

/-- RETRAIN (R133). -/
def execRetrain (tag station : Nat) (s : State) : Host.Outcome State Fault Refusal :=
  serve 0x33 tag true (actRetrain station) s

/-! ## The send point and lamps (R135, R140) -/

/-- EVENT_SEND_POINT (R135), judged at the present S alone (R2). -/
def execEventSendPoint (n : Station) (s : State) : Host.Outcome State Fault Refusal :=
  command (fun s => s.transmit n) s

/-- R140: the outcome a LAMP request reports for a station. -/
def State.lampOutcome (s : State) (n : Station) (k : Lamp) (p : LampPattern) : LampOutcome :=
  if (s.ch n).isUp then ((s.ch n).link.setLamp k .host p s.time.S).2 else .notUp

/-- R140: the count of an outcome. -/
def countOutcome (o : LampOutcome) (os : List LampOutcome) : Nat := (os.filter (· = o)).length

/-- R140: LAMP judged and taken. -/
def actLamp (station : Nat) (raw : RawLamp) (s : State) : State × Answer :=
  match readLamp raw with
  | none => refuse s .badValue
  | some (k, p, clamped) =>
    if 24 < station then refuse s .badValue
    else
      match stationOf station with
      | some n =>
        (s.setLamp n k .host p s.time.S, .ok clamped (.lampOutcome (s.lampOutcome n k p)))
      | none =>
        let os := s.inUse.map fun n => s.lampOutcome n k p
        (forStations (fun n x => x.setLamp n k .host p x.time.S) s.inUse s,
          .ok clamped (.lampCounts (countOutcome .queued os) (countOutcome .running os)
            (countOutcome .dropped os) (countOutcome .notUp os)))

/-- LAMP (R140). -/
def execLamp (tag station : Nat) (raw : RawLamp) (s : State) : Host.Outcome State Fault Refusal :=
  serve 0x32 tag true (actLamp station raw) s

/-! ## The link test (R142) -/

/-- R142: LINK_TEST judged and taken: frame 0 is sent at once. -/
def actLinkTest (tag station : Nat) (s : State) : State × Answer :=
  match stationOf station with
  | none => refuse s .badValue
  | some n =>
    if !(decide (s.ctl.state = .dark ∨ s.ctl.state = .preshow) && (s.ch n).isUp) then
      refuse s .wrongState
    else if (s.ch n).link.test.isSome then refuse s .busy
    else
      ((s.send n (.test 0)).mapLink n fun l =>
        { l with test := some ⟨tag, s.time.S, 1, [⟨0, s.time.S⟩], 0⟩ }, .deferred)

/-- LINK_TEST (R142). -/
def execLinkTest (tag station : Nat) (s : State) : Host.Outcome State Fault Refusal :=
  serve 0x34 tag true (actLinkTest tag station) s

/-- R142: the sample of the next test frame's sending. -/
def LinkTest.nextAt (t : LinkTest) : Option Sample :=
  if t.nextFrame < Config.testFrames then some (t.began + t.nextFrame * Config.testSpacing) else none

/-- R142: the next test frame sent. -/
def actTestFrameSend (n : Station) (s : State) : State :=
  match (s.ch n).link.test with
  | some t =>
    (s.send n (.test t.nextFrame)).mapLink n fun l =>
      { l with
        test := some { t with
          nextFrame := t.nextFrame + 1
          outstanding := t.outstanding ++ [⟨t.nextFrame, s.time.S⟩] } }
  | none => s

/-- TEST_FRAME_SEND (R142). -/
def execTestFrameSend (n : Station) (s : State) : Host.Outcome State Fault Refusal :=
  command (fun s => s.whenReached ((s.ch n).link.test.bind LinkTest.nextAt) (actTestFrameSend n)) s

/-- R142: the result of a finished test; a frame with no echo at the end is a mismatch (log 21). -/
def LinkTest.result (t : LinkTest) : TestResult :=
  if t.mismatches + t.outstanding.length = 0 then .pass else .fail (t.mismatches + t.outstanding.length)

/-- R142: the echo of an outstanding frame judged; the judgement of frame 255 ends the test. -/
def State.judgeEcho (s : State) (n : Station) (frame : Nat) (good : Bool) : State :=
  match (s.ch n).link.test with
  | some t =>
    let t' : LinkTest := { t with
      outstanding := t.outstanding.filter fun f => decide (f.number ≠ frame)
      mismatches := if good then t.mismatches else t.mismatches + 1 }
    let s1 := s.mapLink n fun l => { l with test := some t' }
    if frame = 255 then s1.endTest n LinkTest.result else s1
  | none => s

/-- The outstanding test frame with a number (R142). -/
def Link.testFrame (l : Link) (frame : Nat) : Option TestFrame :=
  l.test.bind fun t => t.outstanding.find? fun f => decide (f.number = frame)

/-- R142: an echo of frame `frame` arrives, with a correct check and equal to it or not. -/
def actTestEcho (n : Station) (frame : Nat) (correct : Bool) (s : State) : State :=
  match (s.ch n).link.testFrame frame with
  | some f =>
    s.judgeEcho n frame (correct && decide (s.time.S ≤ f.sentAt + 2 * (s.ch n).link.lead))
  | none => s

/-- R135, R142: once a test has ended, the queue's head events are judged at the present S. -/
def State.releaseQueue (n : Station) (before after : State) : State :=
  if (before.ch n).link.test.isSome && (after.ch n).link.test.isNone then after.transmit n else after

/-- TEST_ECHO (R142). -/
def execTestEcho (n : Station) (frame : Nat) (correct : Bool) (s : State) :
    Host.Outcome State Fault Refusal :=
  command (fun s => State.releaseQueue n s (actTestEcho n frame correct s)) s

/-- TEST_ECHO_TIMEOUT (R142). -/
def execTestEchoTimeout (n : Station) (frame : Nat) (s : State) : Host.Outcome State Fault Refusal :=
  command
    (fun s =>
      State.releaseQueue n s
        (s.whenReached (((s.ch n).link.testFrame frame).map fun f => f.sentAt + 2 * (s.ch n).link.lead)
          fun x => x.judgeEcho n frame false)) s

/-! ## The parameter relay (R143) -/

/-- R143: STATION_PARAM judged and taken: a relay frame sent at once with the next relay serial. -/
def actStationParam (tag station number : Nat) (value : Option (BitVec 32)) (s : State) :
    State × Answer :=
  match stationOf station with
  | none => refuse s .badValue
  | some n =>
    if !(s.ch n).isUp then refuse s .wrongState
    else if (s.ch n).link.relay.isSome then refuse s .busy
    else
      let serial := ((s.ch n).link.relaySerial + 1) % 256
      ((s.send n (.relay serial number value)).mapLink n fun l =>
        { l with relaySerial := serial, relay := some ⟨tag, serial, s.time.S, value.isSome⟩ }, .deferred)

/-- STATION_PARAM_READ (R143). -/
def execStationParamRead (tag station number : Nat) (s : State) : Host.Outcome State Fault Refusal :=
  serve 0x35 tag true (actStationParam tag station number none) s

/-- STATION_PARAM_WRITE (R143). -/
def execStationParamWrite (tag station number : Nat) (value : BitVec 32) (s : State) :
    Host.Outcome State Fault Refusal :=
  serve 0x35 tag true (actStationParam tag station number (some value)) s

/-- R143: the station's answer, taken when it carries the serial of the relay in flight. The value in the reply OK
is the one the answer carries, for a WRITE too: what the request wrote is not kept (the model's choice, log 70). -/
def actRelayAnswer (n : Station) (serial : Nat) (known : Bool) (value : BitVec 32) (s : State) : State :=
  match (s.ch n).link.relay with
  | some r =>
    if r.serial = serial then
      s.endRelay n (if known then .ok false (.relayed value) else .refused .badValue .none_)
    else s
  | none => s

/-- RELAY_ANSWER (R143). -/
def execRelayAnswer (n : Station) (serial : Nat) (known : Bool) (value : BitVec 32) (s : State) :
    Host.Outcome State Fault Refusal :=
  command (actRelayAnswer n serial known value) s

/-- RELAY_TIMEOUT (R143). -/
def execRelayTimeout (n : Station) (s : State) : Host.Outcome State Fault Refusal :=
  command
    (fun s =>
      s.whenReached ((s.ch n).link.relay.map fun r => r.start + Config.relayTimeout) fun x =>
        x.endRelay n (.refused .timeout .none_)) s

/-! ## STATION_QUERY (R144) -/

/-- R144: the link part of the reply. -/
def Link.report (l : Link) : LinkReport where
  state := l.state
  rate := l.rate
  tries := l.tries
  lastFailure := l.lastFailure
  delay := l.delay
  lead := l.delay.map (· + Config.leadMargin)
  stationSerial := l.stationSerial
  reportedKind := l.reportedKind
  rigCapable := l.rigCapable
  ratesOffered := l.ratesOffered
  errorCount := l.errorCount
  windowEnd := l.windowEnd
  clicks := (l.queue.filter Event.isClick).length
  patches := (l.queue.filter Event.isPatch).length
  lampEvents := (l.queue.filter Event.isLamp).length
  cueLamp := l.cueLamp.map fun x => (x.pattern, x.source)
  stopLamp := l.stopLamp.map fun x => (x.pattern, x.source)
  testing := l.test.isSome
  relaying := l.relay.isSome
  lateCount := l.lateCount

/-- R144: STATION_QUERY; the late-click count returns to 0 once copied. -/
def actStationQuery (station : Nat) (s : State) : State × Answer :=
  match stationOf station with
  | none => refuse s .badValue
  | some n =>
    (s.mapLink n fun l => { l with lateCount := 0 },
      .ok false
        (.station (s.ch n).assigned (s.ch n).reported (s.ch n).link.report (s.patchOf n)))

/-- STATION_QUERY (R144). -/
def execStationQuery (tag station : Nat) (s : State) : Host.Outcome State Fault Refusal :=
  serve 0x31 tag true (actStationQuery station) s

end Sys2Proof.Machine
end

