-- ==== Sys2Proof/Machine/Firing.lean ====
section
/-! DEFINITION. What moves the show and the cues (04, 06): changes of show state, the standby and the
warned cue, the apply of an edit, firing, the hand-over, automatic calls, and the taking of the reports
the blocks hand each other within one act. -/

namespace Sys2Proof.Machine

/-- The state with the Cue Engine changed. -/
def State.mapCue (s : State) (f : CueEngine → CueEngine) : State := { s with cue := f s.cue }

/-- The state with the Show State Controller changed. -/
def State.mapCtl (s : State) (f : ShowControl → ShowControl) : State := { s with ctl := f s.ctl }

/-! ## Changes of show state (R101, R113) -/

/-- R113: the STOP lamp pattern of the present show state handed to every station whose link is UP. -/
def State.stopLamps (s : State) : State := forAll (State.stopLamp s.ctl.state) s

/-- R101: a SHOW_STATE notice for a change from `before`. -/
def State.showNotice (s : State) (before : ShowState) (cause : ShowCause) (beat : Option Sample) : State :=
  s.offer (.showState before s.ctl.state cause s.time.S beat)

/-- R101: a change of show state with its STOP lamps and its notice. -/
def State.changeShow (s : State) (after : ShowState) (cause : ShowCause) (beat : Option Sample) : State :=
  ((s.mapCtl fun c => { c with state := after }).stopLamps).showNotice s.ctl.state cause beat

/-- R103: a HOST or MD GO or GOTO taken in PRESHOW. -/
def State.firstGo (s : State) : State :=
  if s.ctl.state = .preshow then s.changeShow .running .firstGo none else s

/-! ## Standby and warned cue (R72, R79) -/

/-- The cue with a number is an AT_BAR cue of the book. -/
def Book.isAtBar (b : Book) (n : Option Nat) : Bool :=
  match (n.bind b.cue?).map Cue.goMode with
  | some (.atBar _) => true
  | _ => false

/-- R72: the standby set, which arms or spends the bar mark. -/
def State.setStandby (s : State) (n : Option Nat) : State :=
  s.mapCue fun c => { c with standby := n, barMark := c.book.isAtBar n }

/-- R79: one station's CUE lamp at a setting of the warned cue, by the old and the new warn list. -/
def State.cueLampChange (old new : List Station) (due : Sample) (n : Station) (s : State) : State :=
  if n ∈ new then s.setLamp n .cue .cue warnPattern due
  else if n ∈ old then s.setLamp n .cue .cue offPattern due
  else s

/-- R79: the warned cue set, with the old warn list as given. -/
def State.setWarnedFrom (s : State) (old : List Station) (n : Option Nat) (due : Sample) : State :=
  forAll (State.cueLampChange old (s.cue.book.warnList n) due) (s.mapCue fun c => { c with warned := n })

/-- R79: the warned cue set; both lists are read from the book in force. -/
def State.setWarned (s : State) (n : Option Nat) (due : Sample) : State :=
  s.setWarnedFrom (s.cue.book.warnList s.cue.warned) n due

/-! ## The apply (R60 to R62) -/

/-- R61: the standby found again in a new book. -/
def Book.findStandby (b : Book) (standby : Option Nat) : Option Nat :=
  standby.bind fun n => if (b.cue? n).isSome then some n else b.numberAfter n

/-- R61: the show book replaced by the edit buffer. -/
def CueEngine.replaceBook (c : CueEngine) : CueEngine :=
  { c with
    book := c.buffer
    serial := (c.serial + 1) % 65536
    buffer := Book.empty
    edit := .closed }

/-- R61, R62: an apply. -/
def State.applyEdit (s : State) : State :=
  let old := s.cue.book.warnList s.cue.warned
  let s1 := s.mapCue CueEngine.replaceBook
  let found := s1.cue.book.findStandby s.cue.standby
  let s2 := (s1.setStandby found).setWarnedFrom old found s.time.S
  s2.offer (.editCommitted s2.cue.serial s.time.S s2.cue.book.counts found
    (decide (found ≠ s.cue.standby)))

/-- Both transition slots are empty. -/
def CueEngine.slotsEmpty (c : CueEngine) : Bool := c.inFlight.isNone && c.queued.isNone

/-- R60: a pending buffer applied once both slots are empty. -/
def State.applyPending (s : State) : State :=
  if s.cue.edit = .pendingApply ∧ s.cue.slotsEmpty then s.applyEdit else s

/-! ## Firing (R70) -/

/-- R70, R142: a cue placed in flight at a change point. -/
def State.placeFlight (s : State) (f : FiredCue) (x : Sample) : State :=
  s.mapCue fun c => { c with inFlight := some ⟨f, x⟩ }

/-- R33, R70: a cue placed in flight at the change point of its kind. -/
def State.fly (s : State) (f : FiredCue) (k : ChangeKind) : State :=
  let x := s.click.changePoint s.horizon k
  (s.placeFlight f x).setChangePoint x

/-- R70: a taken call of source `source` fires the cue `c`; every link test in progress is aborted
(R142). -/
def State.fire (s : State) (c : Cue) (source : GoSource) (bar : Option Nat) : State :=
  let s1 := forAll State.abortTest s
  let f : FiredCue := ⟨c.number, source, s.time.S, bar⟩
  let s2 :=
    if s1.cue.inFlight.isNone then s1.fly f c.changeKind
    else s1.mapCue fun x => { x with queued := some f }
  s2.setStandby (s2.cue.book.numberAfter c.number)

/-! ## The hand-over (R73 to R75) -/

/-- R74: the queued cue promoted. -/
def State.promote (s : State) : State :=
  match s.cue.queued with
  | none => s
  | some q =>
    let kind := ((s.cue.book.cue? q.cue).map Cue.changeKind).getD .immediate
    (s.mapCue fun c => { c with queued := none }).fly q kind

/-- R73 step 1: the Click Engine's part; a FOLLOW cue fired by MAP_END whose reference is CONTINUE
discards the context (R36). -/
def State.handToEngine (s : State) (atEnd : Bool) (c0 : Sample) (c : Cue) : State :=
  if atEnd ∧ c.mapRef = .keep then s.discardMap c0 else s.engineHandOver c0 c.mapRef c.countIn

/-- R75: the CUE_FIRED notice of a hand-over. -/
def State.cueFired (s : State) (f : Flight) (c : Cue) : State :=
  s.offer (.cueFired s.time.S f.fired f.changePoint c.mapRef s.cue.standby s.cue.queued.isSome)

/-- R73 steps 1 to 5: the hand-over of the cue `c` in flight as `f`. -/
def State.handCue (s : State) (atEnd : Bool) (f : Flight) (c : Cue) : State :=
  let s1 := (s.handToEngine atEnd f.changePoint c).takeEntries f.changePoint c.entries
  let s2 := s1.mapCue fun x =>
    { x with running := some ⟨c.number, c.label, c.text, f.changePoint⟩ }
  ((s2.setWarned s2.cue.standby f.changePoint).cueFired f c).mapCue fun x =>
    { x with inFlight := none }

/-- R73: the hand-over. A cue in flight that the book does not hold, which no run meets, is dropped
(log 36). -/
def State.handOver (s : State) (atEnd : Bool) : State :=
  match s.cue.inFlight with
  | none => s
  | some f =>
    match s.cue.book.cue? f.fired.cue with
    | none =>
      ((s.mapClick fun e => { e with limit := none }).mapCue fun x => { x with inFlight := none }).promote
    | some c => (s.handCue atEnd f c).promote.applyPending

/-! ## Automatic calls (R71, R72) -/

/-- The standby, when it is a FOLLOW cue of the book. -/
def CueEngine.followCue (c : CueEngine) : Option Cue :=
  (c.standby.bind c.book.cue?).filter fun x => decide (x.goMode = .follow)

/-- The standby, when it is an AT_BAR cue of the book for `bar` with the bar mark armed. -/
def CueEngine.barCue (c : CueEngine) (bar : Nat) : Option Cue :=
  if c.barMark then (c.standby.bind c.book.cue?).filter fun x => decide (x.goMode = .atBar bar)
  else none

/-- R71: the AUTO call of the FOLLOW standby `c` at the map end `e`, in flight at `e` and handed over at
once. -/
def State.autoCall (s : State) (c : Cue) (e : Sample) : State :=
  let s1 := (forAll State.abortTest s).placeFlight ⟨c.number, .auto, s.time.S, none⟩ e
  (s1.setStandby (s1.cue.book.numberAfter c.number)).handOver true

/-- R36, R71: MAP_END with the onset `e`. With a cue still in flight behind the map's end, the AUTO call
takes the queued slot if it is free (R70, log 42). -/
def State.takeMapEnd (s : State) (e : Sample) : State :=
  match s.cue.followCue with
  | none => s.discardMap e
  | some c =>
    if s.ctl.state ≠ .running then s.discardMap e
    else if s.cue.inFlight.isNone then s.autoCall c e
    else if s.cue.queued.isNone then (s.discardMap e).fire c .auto none
    else s.discardMap e

/-- R72: a bar-reached report. -/
def State.takeBarReached (s : State) (bar : Nat) : State :=
  match s.cue.barCue bar with
  | none => s
  | some c =>
    let s1 := s.mapCue fun x => { x with barMark := false }
    if s1.ctl.state = .running ∧ (s1.cue.inFlight.isNone ∨ s1.cue.queued.isNone) then
      s1.fire c .bar (some bar)
    else s1

/-! ## Holds and resumption reached (R105, R106, R116) -/

/-- R42, R105: hold-reached at the hold point `x`. -/
def State.holdReached (x : Sample) (s : State) : State :=
  ((s.mapClick ClickEngine.hold).mapCtl fun c => { c with holdPending := none }).changeShow .holding
    .holdReached (some x)

/-- R106: continue-reached; in a show state other than HOLDING only the report is spent (log 62). -/
def State.continueReached (s : State) (x : Sample) : State :=
  let s1 := s.mapClick fun e => { e with reach := none }
  if s1.ctl.state = .holding then
    (s1.mapCtl fun c => { c with continuePending := none }).changeShow .running .continueReached (some x)
  else s1

/-- R116: resume-reached; in a show state other than RESUMING only the report is spent (log 62). -/
def State.resumeReached (s : State) (x : Sample) : State :=
  let s1 := s.mapClick fun e => { e with reach := none }
  if s1.ctl.state = .resuming then s1.changeShow .running .resumeReached (some x) else s1

/-! ## Reports (R73, R111, R116) -/

/-- R34, R36: the map end still stands when its report is taken: the position is past the last segment
and no cue in flight has its change point at or before E. So a MAP_END handed in step 1 of a CONTINUE hand-over is
dropped where step 6 promotes a cue with such a change point (R34 and R71 against R73: the model's choice, log 74). -/
def State.mapEnded (s : State) : Option Sample :=
  match s.click.next with
  | some (.mapEnd, e) =>
    match s.cue.inFlight with
    | none => some e
    | some f => if f.changePoint ≤ e then none else some e
  | _ => none

/-- A report taken once the act that handed it is complete. -/
def State.takeReport (s : State) : Report → State
  | .barReached bar _ => s.takeBarReached bar
  | .changeDue => s.handOver false
  | .mapEnd =>
    match s.mapEnded with
    | some e => s.takeMapEnd e
    | none => s
  | .continueReached x => s.continueReached x
  | .resumeReached x => s.resumeReached x

/-- Reports taken in the order handed, those that arise in taking one after those already handed; at most
`n` of them. -/
def settleN : Nat → State → State
  | 0, s => { s with reports := [] }
  | n + 1, s =>
    match s.reports with
    | [] => s
    | r :: rs => settleN n ({ s with reports := rs }.takeReport r)

/-- More reports than one act can give: each firing moves the standby on through at most 1,024 cues
(log 32). -/
def settleLimit : Nat := 8192

/-- R73: the reports handed during an act, taken when the act is complete. -/
def settle (s : State) : State := settleN settleLimit s

end Sys2Proof.Machine
end

