-- ==== Sys2Proof/Machine/Cue.lean ====
section
/-! DEFINITION. Calls from the host and the MD station, the lockout, releases, and the host-silence timer
with the control mode (04): GO, GOTO, LOCKOUT_SET, RELEASE, SILENCE_END, SILENCE_SET. -/

namespace Sys2Proof.Machine

/-! ## Judging and taking a call (R66 to R70) -/

/-- R66: the four tests, in their order, on a call whose cue was found or not; none for a call taken. -/
def State.callRefusal (s : State) (found : Bool) : Option Reason :=
  if s.ctl.state ≠ .preshow ∧ s.ctl.state ≠ .running then some .wrongState
  else if (s.cue.lockoutEnd.map fun x => decide (s.time.S < x)) = some true then some .debounced
  else if found = false then some .notFound
  else if s.cue.inFlight.isSome ∧ s.cue.queued.isSome then some .goQueueFull
  else none

/-- R66: the cue a GO with an expected number fires. -/
def CueEngine.goTarget (c : CueEngine) (expected : Nat) : Option Cue :=
  (c.standby.bind c.book.cue?).filter fun x => decide (expected = 0 ∨ x.number = expected)

/-- R68: the lockout end set by a taken HOST or MD call. -/
def State.setLockout (s : State) : State :=
  s.mapCue fun c => { c with lockoutEnd := some (s.time.S + Config.samplesPerMs * c.lockoutMs) }

/-- R70, R103: a HOST or MD call taken: the cue fired, the lockout end set, and the first call of a show
reported, all before the reports of the act are taken. -/
def State.takeCall (s : State) (c : Cue) (source : GoSource) : State :=
  ((s.fire c source none).setLockout).firstGo

/-- Table 4.3: the slot a call taken now is placed in. -/
def CueEngine.freeSlot (c : CueEngine) : SlotName := if c.inFlight.isNone then .inFlight else .queued

/-- R66: the contents of the OK reply of a call: the cue, its slot, its change point when in flight, and
the standby after the firing. -/
def firedReply (before after : State) (c : Cue) : ReplyBody :=
  match before.cue.freeSlot with
  | .inFlight => .fired c.number .inFlight (after.cue.inFlight.map Flight.changePoint) after.cue.standby
  | .queued => .fired c.number .queued none after.cue.standby

/-- R66, R67: a host call for a cue found or not, judged, taken and answered. -/
def actCall (target : Option Cue) (s : State) : State × Answer :=
  match s.callRefusal target.isSome, target with
  | none, some c =>
    let t := s.takeCall c .host
    (settle t, .ok false (firedReply s t c))
  | some r, _ => refuse s r
  | none, none => refuse s .notFound

/-- R66: GO. -/
def actGo (expected : Nat) (s : State) : State × Answer :=
  if Config.cueNumberMax < expected then refuse s .badValue
  else actCall (s.cue.goTarget expected) s

/-- GO (R66). -/
def execGo (tag expected : Nat) (s : State) : Host.Outcome State Fault Refusal :=
  serve 0x18 tag true (actGo expected) s

/-- R67: GOTO. -/
def actGoto (number : Nat) (s : State) : State × Answer :=
  if number = 0 ∨ Config.cueNumberMax < number then refuse s .badValue
  else actCall (s.cue.book.cue? number) s

/-- GOTO (R67). -/
def execGoto (tag number : Nat) (s : State) : Host.Outcome State Fault Refusal :=
  serve 0x19 tag true (actGoto number) s

/-! ## MD inputs the Cue Engine takes (R69, R76) -/

/-- The outcome of a refused MD call (R69). -/
def Reason.mdOutcome : Reason → MdOutcome
  | .debounced => .debounced
  | .notFound => .notFound
  | .goQueueFull => .goQueueFull
  | _ => .wrongState

/-- R81: a GO taken with source MD in LOCAL counts in the LOCAL entry. -/
def State.countMdGo (s : State) : State :=
  if s.cue.mode = .local_ then
    s.mapCue fun c => { c with localEntry := c.localEntry.map fun e => { e with mdGos := e.mdGos + 1 } }
  else s

/-- R69: a GO input from the station with role MD. -/
def State.mdGo (s : State) (enabled : Bool) : State × MdOutcome :=
  if !enabled && decide (s.cue.mode = .remote) then (s, .disabled)
  else
    let target := s.cue.goTarget 0
    match s.callRefusal target.isSome, target with
    | none, some c =>
      let slot := s.cue.freeSlot
      (settle ((s.takeCall c .md).countMdGo), .fired c.number slot)
    | some r, _ => (s, r.mdOutcome)
    | none, none => (s, .notFound)

/-- R76: a RELEASE input from the station with role MD. -/
def State.mdRelease (s : State) (enabled : Bool) : State × MdOutcome :=
  if !enabled && decide (s.cue.mode = .remote) then (s, .disabled)
  else
    let r := s.release
    (r.1, if r.2 then .taken else .notVamping)

/-! ## LOCKOUT_SET and RELEASE (R68, R76) -/

/-- R68: LOCKOUT_SET. -/
def actLockoutSet (ms : Nat) (s : State) : State × Answer :=
  (s.mapCue fun c => { c with lockoutMs := min Config.lockoutMax ms },
    .ok (decide (Config.lockoutMax < ms)) (.lockout (min Config.lockoutMax ms)))

/-- LOCKOUT_SET (R68). -/
def execLockoutSet (tag ms : Nat) (s : State) : Host.Outcome State Fault Refusal :=
  serve 0x1C tag true (actLockoutSet ms) s

/-- R76: RELEASE. -/
def actRelease (s : State) : State × Answer :=
  let r := s.release
  if r.2 then (r.1, .ok false .empty) else refuse s .notVamping

/-- RELEASE (R76). -/
def execRelease (tag : Nat) (s : State) : Host.Outcome State Fault Refusal :=
  serve 0x1A tag true actRelease s

/-! ## Host silence (R80, R81) -/

/-- R81: the mode LOCAL entered. -/
def State.enterLocal (s : State) : State :=
  (s.mapCue fun c => { c with mode := .local_, localEntry := some ⟨s.time.S, 0⟩ }).offer
    (.controlMode .local_ s.time.S none)

/-- R80: the expiry of the host-silence timer acts in REMOTE outside DARK, with a limit above 0. -/
def State.silenceActs (s : State) : Bool :=
  decide (s.cue.mode = .remote ∧ s.ctl.silenceLimit ≠ 0 ∧ s.ctl.state ≠ .dark)

/-- R80: S reaches the host-silence end. -/
def actSilenceEnd (s : State) : State :=
  if s.silenceActs then s.whenReached s.ctl.silenceEnd State.enterLocal else s

/-- SILENCE_END (R80). -/
def execSilenceEnd (s : State) : Host.Outcome State Fault Refusal := command actSilenceEnd s

/-- R80: SILENCE_SET, whose own frame restarts the timer with the new limit; its reply carries no more
than OK (log 44). -/
def actSilenceSet (limit : Nat) (s : State) : State × Answer :=
  ((s.mapCtl fun c => { c with silenceLimit := min Config.silenceLimitMax limit }).restartSilence,
    .ok (decide (Config.silenceLimitMax < limit)) .empty)

/-- SILENCE_SET (R80). -/
def execSilenceSet (tag limit : Nat) (s : State) : Host.Outcome State Fault Refusal :=
  serve 0x28 tag true (actSilenceSet limit) s

end Sys2Proof.Machine
end

