-- ==== Sys2Proof/Machine/Edit.lean ====
section
/-! DEFINITION. The edit requests and CUE_QUERY (03 sections 3.3 to 3.8, R83). -/

namespace Sys2Proof.Machine

/-! ## The edit state (R54) -/

/-- R54: a request that only an OPEN edit takes. -/
def State.whenOpen (s : State) (act : State → State × Answer) : State × Answer :=
  match s.cue.edit with
  | .closed => refuse s .editNotOpen
  | .pendingApply => refuse s .editPending
  | .openEdit => act s

/-- The state with the edit buffer replaced. -/
def State.setBuffer (s : State) (b : Book) : State := s.mapCue fun c => { c with buffer := b }

/-- R55: BEGIN_EDIT. -/
def actBeginEdit (s : State) : State × Answer :=
  match s.cue.edit with
  | .openEdit => refuse s .editOpen
  | .pendingApply => refuse s .editPending
  | .closed =>
    (s.mapCue fun c =>
        { c with edit := .openEdit, buffer := c.book, copiedFrom := c.serial },
      .ok false (.editBegun s.cue.serial s.cue.book.counts))

/-- BEGIN_EDIT (R55). -/
def execBeginEdit (tag : Nat) (s : State) : Host.Outcome State Fault Refusal :=
  serve 0x10 tag true actBeginEdit s

/-! ## Cues (R56) -/

/-- R47, R56: a cue list within its capacities. -/
def cuesFit (cues : List Cue) : Bool :=
  decide (cues.length ≤ Config.cuesMax ∧ entryCount cues ≤ Config.patchEntriesMax)

/-- R56: a taken PUT_CUE or DELETE_CUE, answered with the buffer's counts after it. -/
def State.setCues (s : State) (cues : List Cue) (clamped : Bool) : State × Answer :=
  (s.setBuffer { s.cue.buffer with cues := cues }, .ok clamped (.cueCounts cues.length (entryCount cues)))

/-- R56: PUT_CUE in OPEN: its values first, then the capacity of the buffer as it would stand. -/
def actPutCue (raw : RawCue) (s : State) : State × Answer :=
  match readCue raw with
  | none => refuse s .badValue
  | some (c, clamped) =>
    let cues := insertCue c s.cue.buffer.cues
    if cuesFit cues then s.setCues cues clamped else refuse s .full

/-- PUT_CUE (R56). A label above 12 or a text above 16 characters is a length fault (R51). -/
def execPutCue (tag : Nat) (raw : RawCue) (s : State) : Host.Outcome State Fault Refusal :=
  serve 0x11 tag (decide (raw.label.length ≤ 12 ∧ raw.text.length ≤ 16))
    (fun s => s.whenOpen (actPutCue raw)) s

/-- R56: DELETE_CUE in OPEN. -/
def actDeleteCue (number : Nat) (s : State) : State × Answer :=
  match s.cue.buffer.cue? number with
  | none => refuse s .notFound
  | some _ => s.setCues (s.cue.buffer.cues.filter fun c => decide (c.number ≠ number)) false

/-- DELETE_CUE (R56). -/
def execDeleteCue (tag number : Nat) (s : State) : Host.Outcome State Fault Refusal :=
  serve 0x12 tag true (fun s => s.whenOpen (actDeleteCue number)) s

/-! ## Maps (R52, R57) -/

/-- R52: the entry a PUT_MAP request leaves: a new one for k = 0, the one continued otherwise; none where
a condition of the rule fails. -/
def mapAfter (b : Book) (map first declared : Nat) (segs : List Segment) : Option MapEntry :=
  if first = 0 then
    if 1 ≤ declared ∧ declared ≤ 64 ∧ segs.length ≤ declared then some ⟨map, declared, segs⟩ else none
  else
    match b.map? map with
    | none => none
    | some m =>
      if m.complete = false ∧ m.segments.length = first ∧ declared = m.declared
          ∧ first + segs.length ≤ declared then
        some { m with segments := m.segments ++ segs }
      else none

/-- R52, R53: the carried segments of a PUT_MAP and whether a value was clamped; 1 to 16 of them (log 26). -/
def readSegments (raw : List RawSegment) : Option (List Segment × Bool) :=
  if 1 ≤ raw.length ∧ raw.length ≤ 16 then
    (readAll readSegment raw).map fun gs => (gs.map Prod.fst, gs.any Prod.snd)
  else none

/-- R57: a taken PUT_MAP, unless the declared total would exceed its limit. -/
def State.putEntry (s : State) (m : MapEntry) (clamped : Bool) : State × Answer :=
  let maps := insertMap m s.cue.buffer.maps
  if declaredTotal maps ≤ Config.segmentsTotalMax then
    (s.setBuffer { s.cue.buffer with maps := maps },
      .ok clamped (.mapCounts m.segments.length m.declared (declaredTotal maps)))
  else refuse s .full

/-- R52, R53, R57: PUT_MAP in OPEN. -/
def actPutMap (map first declared : Nat) (raw : List RawSegment) (s : State) : State × Answer :=
  match readSegments raw with
  | none => refuse s .badValue
  | some (gs, clamped) =>
    if 255 < map then refuse s .badValue
    else
      match mapAfter s.cue.buffer map first declared gs with
      | none => refuse s .badValue
      | some m => s.putEntry m clamped

/-- PUT_MAP (R52). -/
def execPutMap (tag map first declared : Nat) (raw : List RawSegment) (s : State) :
    Host.Outcome State Fault Refusal :=
  serve 0x13 tag true (fun s => s.whenOpen (actPutMap map first declared raw)) s

/-- R57: DELETE_MAP in OPEN; its reply carries no more than OK (log 44). -/
def actDeleteMap (map : Nat) (s : State) : State × Answer :=
  match s.cue.buffer.map? map with
  | none => refuse s .notFound
  | some _ =>
    (s.setBuffer { s.cue.buffer with
        maps := s.cue.buffer.maps.filter fun m => decide (m.number ≠ map) }, .ok false .empty)

/-- DELETE_MAP (R57). -/
def execDeleteMap (tag map : Nat) (s : State) : Host.Outcome State Fault Refusal :=
  serve 0x14 tag true (fun s => s.whenOpen (actDeleteMap map)) s

/-! ## Commit and abandon (R58, R59, R63) -/

/-- R58: the validation of a buffer: the refusal's detail, or none for a valid buffer. -/
def Book.fault (b : Book) : Option Detail :=
  match b.incompleteMap with
  | some n => some (.map n)
  | none => b.cueWithoutMap.map Detail.cue

/-- R58, R59: COMMIT_EDIT in OPEN. -/
def actCommitEdit (s : State) : State × Answer :=
  match s.cue.buffer.fault with
  | some d => (s, .refused .badValue d)
  | none =>
    if s.cue.slotsEmpty then (s.applyEdit, .ok false (.commit .applied))
    else (s.mapCue fun c => { c with edit := .pendingApply }, .ok false (.commit .pendingApply))

/-- COMMIT_EDIT (R58). -/
def execCommitEdit (tag : Nat) (s : State) : Host.Outcome State Fault Refusal :=
  serve 0x15 tag true (fun s => s.whenOpen actCommitEdit) s

/-- R63: ABANDON_EDIT in OPEN or PENDING. -/
def actAbandonEdit (s : State) : State × Answer :=
  match s.cue.edit with
  | .closed => refuse s .editNotOpen
  | found =>
    (s.mapCue fun c => { c with edit := .closed, buffer := Book.empty }, .ok false (.abandoned found))

/-- ABANDON_EDIT (R63). -/
def execAbandonEdit (tag : Nat) (s : State) : Host.Outcome State Fault Refusal :=
  serve 0x16 tag true actAbandonEdit s

/-! ## CUE_QUERY (R64, R83) -/

/-- R64: a query's source, BOOK 0 or EDIT 1 (log 31), and what it answers. -/
def State.fromSource (s : State) (source : Nat) (act : Bool → Book → State × Answer) : State × Answer :=
  match source with
  | 0 => act false s.cue.book
  | 1 => if s.cue.edit = .closed then refuse s .editNotOpen else act true s.cue.buffer
  | _ => refuse s .badValue

/-- R64: the SUMMARY record of a source. -/
def State.summary (s : State) (edit : Bool) (b : Book) : SummaryRecord where
  counts := b.counts
  firstCue := b.cues.head?.map Cue.number
  lastCue := b.cues.getLast?.map Cue.number
  serial := if edit then s.cue.copiedFrom else s.cue.serial
  incompleteMaps := if edit then some (b.maps.filter fun m => !m.complete).length else none
  edit := s.cue.edit
  standby := s.cue.standby
  running := s.cue.running.map RunningCue.number

/-- R64: SUMMARY. -/
def actCueQuerySummary (source : Nat) (s : State) : State × Answer :=
  s.fromSource source fun edit b => (s, .ok false (.summary (s.summary edit b)))

/-- CUE_QUERY_SUMMARY (R64). -/
def execCueQuerySummary (tag source : Nat) (s : State) : Host.Outcome State Fault Refusal :=
  serve 0x1B tag true (actCueQuerySummary source) s

/-- R64: a cue found, or NOT_FOUND. -/
def cueReply (s : State) (c : Option Cue) : State × Answer :=
  match c with
  | some c => (s, .ok false (.cue c))
  | none => refuse s .notFound

/-- CUE_QUERY_CUE (R64). -/
def execCueQueryCue (tag source number : Nat) (s : State) : Host.Outcome State Fault Refusal :=
  serve 0x1B tag true (fun s => s.fromSource source fun _ b => cueReply s (b.cue? number)) s

/-- CUE_QUERY_NEXT_CUE (R64): the cue after a number, 0 for the first. -/
def execCueQueryNextCue (tag source number : Nat) (s : State) : Host.Outcome State Fault Refusal :=
  serve 0x1B tag true (fun s => s.fromSource source fun _ b => cueReply s (b.after number)) s

/-- R64: the MAP record of an entry from segment `first` on. -/
def MapEntry.record (m : MapEntry) (first : Nat) : MapRecord where
  declared := m.declared
  received := m.segments.length
  complete := m.complete
  lastBar := if m.complete then lastBar m.segments else none
  segments := (m.segments.drop first).take 16

/-- R64: MAP. -/
def actCueQueryMap (source map first : Nat) (s : State) : State × Answer :=
  s.fromSource source fun _ b =>
    match b.map? map with
    | some m => (s, .ok false (.map (m.record first)))
    | none => refuse s .notFound

/-- CUE_QUERY_MAP (R64). -/
def execCueQueryMap (tag source map first : Nat) (s : State) : Host.Outcome State Fault Refusal :=
  serve 0x1B tag true (actCueQueryMap source map first) s

/-- R24, R83: the position of the next beat as the RUN reply carries it. Past the last segment the model
reports the number of segments as the segment and no denominator (log 59). -/
def Context.positionRecord (c : Context) : PositionRecord where
  map := c.map
  segmentIndex := c.segmentIndex
  bar :=
    match c.countIn with
    | some k => -(k.bar : Int)
    | none => c.bar
  beatInBar :=
    match c.countIn with
    | some k => k.beat
    | none => c.beatInBar
  pass := c.pass
  tempo := c.tempo
  denominator := c.segment.map Segment.denominator

/-- R83: the RUN record. -/
def State.runRecord (s : State) : RunRecord where
  showState := s.ctl.state
  mode := s.cue.mode
  localEntry := s.cue.localEntry
  standby := s.cue.standby
  barMark := s.cue.barMark
  running := s.cue.running.map fun r => (r.number, r.since)
  warned := s.cue.warned
  inFlight := s.cue.inFlight
  queued := s.cue.queued
  lockoutMs := s.cue.lockoutMs
  lockoutEnd := s.cue.lockoutEnd
  edit := s.cue.edit
  engine := s.click.state
  position := s.click.context.map Context.positionRecord

/-- R83: RUN ignores its source, and changes nothing (log 43). -/
def actCueQueryRun (_source : Nat) (s : State) : State × Answer := (s, .ok false (.run s.runRecord))

/-- CUE_QUERY_RUN (R83). -/
def execCueQueryRun (tag source : Nat) (s : State) : Host.Outcome State Fault Refusal :=
  serve 0x1B tag true (actCueQueryRun source) s

end Sys2Proof.Machine
end

