-- ==== Sys2Proof/Machine/Show.lean ====
section
/-! DEFINITION. The Show State Controller (06): opening a show, holds, the stop line, taking a stop,
resuming, ending a show, and STOP_QUERY. -/

namespace Sys2Proof.Machine

/-! ## Opening a show (R102) -/

/-- R78: the Cue Engine's part of START_PRESHOW. -/
def State.openCues (s : State) : State :=
  let first := s.cue.book.first.map Cue.number
  ((s.setStandby first).mapCue fun c => { c with running := none }).setWarned first s.time.S

/-- R102: START_PRESHOW. -/
def actStartPreshow (s : State) : State × Answer :=
  if s.ctl.state ≠ .dark then refuse s .wrongState
  else if s.cue.book.cues = [] then refuse s .wrongState
  else if s.ctl.holdsBack then refuse s .stopAsserted
  else
    let t := (s.changeShow .preshow .startPreshow none).openCues
    (t, .ok false (.standby t.cue.standby))

/-- START_PRESHOW (R102). -/
def execStartPreshow (tag : Nat) (s : State) : Host.Outcome State Fault Refusal :=
  serve 0x20 tag true actStartPreshow s

/-! ## Holds (R104 to R107) -/

/-- R41, R104: a HOLD taken: the hold point asked for, set and recorded. -/
def State.takeHold (s : State) (source : HoldSource) : State :=
  let x := s.click.holdPointAt s.horizon
  (s.mapClick fun e => { e with holdPoint := some x }).mapCtl fun c =>
    { c with holdPending := some ⟨x, source⟩ }

/-- R104: a HOLD in RUNNING, and the hold point it is answered with. -/
def State.hold (s : State) (source : HoldSource) : State × Sample :=
  match s.ctl.holdPending with
  | some h => (s, h.point)
  | none =>
    let t := s.takeHold source
    (t, s.click.holdPointAt s.horizon)

/-- R104: the HOLD request. -/
def actHold (s : State) : State × Answer :=
  if s.ctl.state = .running then
    let r := s.hold .host
    (r.1, .ok false (.holdPoint r.2))
  else refuse s .wrongState

/-- HOLD (R104). -/
def execHold (tag : Nat) (s : State) : Host.Outcome State Fault Refusal := serve 0x21 tag true actHold s

/-- R106: a CONTINUE taken: the continue start recorded and CONTINUE handed to the Click Engine. -/
def State.takeContinue (s : State) (countIn : Nat) (source : HoldSource) : State :=
  settle ((s.mapCtl fun c =>
    { c with continuePending := some ⟨s.horizon, countIn, source⟩ }).engineContinue countIn)

/-- R106: the CONTINUE request. -/
def actContinue (countIn : Nat) (s : State) : State × Answer :=
  if s.ctl.state ≠ .holding then refuse s .wrongState
  else
    let k := min Config.countInMax countIn
    let clamped := decide (Config.countInMax < countIn)
    match s.ctl.continuePending with
    | some p => (s, .ok clamped (.continueStart p.start p.countIn))
    | none => (s.takeContinue k .host, .ok clamped (.continueStart s.horizon k))

/-- CONTINUE (R106). -/
def execContinue (tag countIn : Nat) (s : State) : Host.Outcome State Fault Refusal :=
  serve 0x22 tag true (actContinue countIn) s

/-- R107: a HOLD input from the station with role MD. -/
def State.mdHold (s : State) (enabled : Bool) : State × MdOutcome :=
  if !enabled && decide (s.cue.mode = .remote) then (s, .disabled)
  else
    match s.ctl.state with
    | .running => ((s.hold .md).1, .holdTaken)
    | .holding =>
      if s.ctl.continuePending.isSome then (s, .continueTaken)
      else (s.takeContinue Config.mdContinueBars .md, .continueTaken)
    | .dark | .preshow | .stopped | .resuming => (s, .wrongState)

/-! ## Taking a stop (R110 to R112) -/

/-- R112: the record a stop at the present S makes. -/
def State.newStopRecord (s : State) (source : StopSource) : StopRecord where
  causes := StopCauses.none_.add source
  firstCause := source
  stopSample := s.time.S
  before := s.ctl.state
  running := s.cue.running.map RunningCue.number
  sounded := (soundedAt s.click.kept s.time.S).map BeatRecord.position
  standby := s.cue.standby
  resume := none

/-- R111 step 1: STOPPED, with any hold and continue void and a new record. -/
def ShowControl.stop (c : ShowControl) (r : StopRecord) : ShowControl :=
  { c with state := .stopped, holdPending := none, continuePending := none, stopRecord := some r }

/-- The cue fired earliest of those in the slots: the one in flight (R77). -/
def CueEngine.earliest (c : CueEngine) : Option Nat := c.inFlight.map fun f => f.fired.cue

/-- Both slots emptied. -/
def CueEngine.clearSlots (c : CueEngine) : CueEngine := { c with inFlight := none, queued := none }

/-- R77, R78: a CUE_CANCELLED notice of the slots as they stand in `c`. -/
def State.cueCancelled (s : State) (cause : CancelCause) (c : CueEngine) (reverted : Option Nat) : State :=
  s.offer (.cueCancelled cause s.time.S (c.inFlight.map Flight.fired) c.queued reverted)

/-- R77: the Cue Engine's part of a stop. -/
def State.stopCues (s : State) : State :=
  if s.cue.slotsEmpty then s.applyPending
  else
    let back := s.cue.earliest
    let s1 := ((s.mapCue CueEngine.clearSlots).setStandby back).setWarned back s.time.S
    (s1.cueCancelled .stop s.cue back).applyPending

/-- R111: a stop taken outside DARK and STOPPED, in the order of the rule's steps. -/
def State.takeStop (s : State) (source : StopSource) : State :=
  let s0 := s.time.S
  let r := s.newStopRecord source
  let s1 := (s.mapCtl fun c => c.stop r).mapClick fun e => e.stop s0
  let s2 := forAll (State.patchStop s0) (forAll (State.cancel s0) s1)
  let s3 := (s2.offer (.showStop s0 (.new r))).stopLamps
  forAll State.abortTest s3.stopCues

/-- R112: a stop taken while STOPPED adds its source to the cause set. -/
def State.addStop (s : State) (source : StopSource) : State :=
  match s.ctl.stopRecord with
  | none => s
  | some r =>
    if r.causes.has source then s
    else
      let causes := r.causes.add source
      (s.mapCtl fun c => { c with stopRecord := some { r with causes := causes } }).offer
        (.showStop s.time.S (.added source causes))

/-- What a stop meets (R110). -/
inductive StopMeets where
  | dark
  | stopped
  | show_
deriving DecidableEq, Repr

/-- R110: what a stop meets in a show state. -/
def ShowState.meets : ShowState → StopMeets
  | .dark => .dark
  | .stopped => .stopped
  | .preshow | .running | .holding | .resuming => .show_

/-- R110: a stop judged by the show state; in DARK it changes nothing. -/
def State.judgeStop (s : State) (source : StopSource) : State :=
  match s.ctl.state.meets with
  | .dark => s
  | .stopped => s.addStop source
  | .show_ => s.takeStop source

/-- R110: the STOP request. -/
def actStop (s : State) : State × Answer :=
  if s.ctl.state = .dark then refuse s .wrongState
  else
    let t := s.judgeStop .host
    (t, .ok false (.stopRecord t.ctl.stopRecord))

/-- STOP (R110). -/
def execStop (tag : Nat) (s : State) : Host.Outcome State Fault Refusal := serve 0x23 tag true actStop s

/-- R110: a STOP_CALL input from the station with role MD. -/
def State.mdStop (s : State) (enabled : Bool) : State × MdOutcome :=
  if !enabled then (s, .disabled)
  else
    (s.judgeStop .md,
      match s.ctl.state.meets with
      | .dark => .wrongState
      | .stopped => .stopAdded
      | .show_ => .stopTaken)

/-! ## The stop line (R108, R109) -/

/-- R108: the qualifier moved to a state with its timer. -/
def State.qualify (s : State) (q : Qualifier) (timer : Option Sample) : State :=
  s.mapCtl fun c => { c with qualifier := q, timerEnd := timer }

/-- R108: the end of a timer started now. -/
def State.qualifierSpan (s : State) : Sample := s.time.S + Config.samplesPerMs * s.ctl.qualifyMs

/-- R108, R110: a qualification. -/
def State.qualified (s : State) : State := (s.qualify .qualified none).judgeStop .line

/-- R108: the line becomes active. -/
def State.lineActive (s : State) : State :=
  match s.ctl.qualifier with
  | .idle => if s.ctl.qualifyMs = 0 then s.qualified else s.qualify .qualifying (some s.qualifierSpan)
  | .releasing => s.qualify .qualified none
  | .qualifying | .qualified => s

/-- R108: the line becomes inactive. -/
def State.lineInactive (s : State) : State :=
  match s.ctl.qualifier with
  | .qualifying => s.qualify .idle none
  | .qualified =>
    if s.ctl.qualifyMs = 0 then s.qualify .idle none else s.qualify .releasing (some s.qualifierSpan)
  | .idle | .releasing => s

/-- The stop line's level set. -/
def State.setLine (s : State) (active : Bool) : State := s.mapCtl fun c => { c with lineActive := active }

/-- STOP_LINE_ACTIVE (R108). -/
def execStopLineActive (s : State) : Host.Outcome State Fault Refusal :=
  command (fun s => (s.setLine true).lineActive) s

/-- STOP_LINE_INACTIVE (R108). -/
def execStopLineInactive (s : State) : Host.Outcome State Fault Refusal :=
  command (fun s => (s.setLine false).lineInactive) s

/-- R108: the qualifier's timer expires. -/
def actQualifierTimer (s : State) : State :=
  match s.ctl.qualifier with
  | .qualifying => s.qualified
  | .releasing => s.qualify .idle none
  | .idle | .qualified => s

/-- QUALIFIER_TIMER_EXPIRY (R108). -/
def execQualifierTimerExpiry (s : State) : Host.Outcome State Fault Refusal :=
  command (fun s => s.whenReached s.ctl.timerEnd actQualifierTimer) s

/-- R108, R109: the line judged afresh: the qualifier IDLE with no timer, then an active line taken as
becoming active. -/
def State.judgeLine (s : State) : State :=
  let t := s.qualify .idle none
  if t.ctl.lineActive then t.lineActive else t

/-- R109: STOPLINE_SET. -/
def actStoplineSet (mode time : Nat) (s : State) : State × Answer :=
  match LineMode.ofCode mode with
  | none => refuse s .badValue
  | some m =>
    let q := min Config.qualifyMax time
    let t := (s.mapCtl fun c => { c with lineMode := m, qualifyMs := q }).judgeLine
    (t, .ok (decide (Config.qualifyMax < time)) (.stopLine m q t.ctl.qualifier))

/-- STOPLINE_SET (R109). -/
def execStoplineSet (tag mode time : Nat) (s : State) : Host.Outcome State Fault Refusal :=
  serve 0x27 tag true (actStoplineSet mode time) s

/-! ## Resuming (R115, R116) -/

/-- R115: the target bar brought into range for the map used; ignored without a last bar. -/
def clampBar (last : Option Nat) (bar : Nat) : Nat :=
  match last with
  | some l => clampTo 1 l bar
  | none => bar

/-- R116 step 1: the stop record resumed. -/
def StopRecord.resumed (r : StopRecord) (i : ResumeInfo) : StopRecord :=
  { r with causes := StopCauses.none_, resume := some i }

/-- R78: the Cue Engine's part of a RESUME at cue `c`. -/
def State.resumeCues (s : State) (c : Cue) : State :=
  let next := s.cue.book.numberAfter c.number
  ((s.mapCue fun x => { x with running := some ⟨c.number, c.label, c.text, s.horizon⟩ }).setStandby
    next).setWarned next s.time.S

/-- R116: a RESUME taken at cue `c`, with the map used, the bar and the count-in in range, in the order of
the rule's steps. -/
def State.takeResume (s : State) (c : Cue) (map : Option Nat) (bar countIn : Nat) : State :=
  let s1 := s.mapCtl fun x =>
    { x with
      stopRecord := x.stopRecord.map fun r => r.resumed ⟨s.time.S, c.number, bar, map⟩
      state := .resuming }
  let s2 := forAll (State.patchResume c.number s.horizon) (s1.stopLamps.resumeCues c)
  settle ((s2.engineResume map bar countIn).showNotice s.ctl.state .resume none)

/-- R115, R116: RESUME. -/
def actResume (cue bar countIn : Nat) (s : State) : State × Answer :=
  if s.ctl.state ≠ .stopped then refuse s .wrongState
  else if s.ctl.holdsBack then refuse s .stopAsserted
  else
    match s.cue.book.cue? cue with
    | none => refuse s .notFound
    | some c =>
      let k := min Config.countInMax countIn
      let map := s.cue.book.mapUsed c
      let b := clampBar (map.bind fun n => lastBar (s.cue.book.segments n)) bar
      (s.takeResume c map b k,
        .ok (decide (Config.countInMax < countIn) || decide (b ≠ bar)) (.resume s.horizon map b k))

/-- RESUME (R116). -/
def execResume (tag cue bar countIn : Nat) (s : State) : Host.Outcome State Fault Refusal :=
  serve 0x24 tag true (actResume cue bar countIn) s

/-! ## Ending a show (R117) -/

/-- R78: the Cue Engine's part of END_SHOW. -/
def State.endCues (s : State) : State :=
  let s1 := s.mapCue CueEngine.clearSlots
  let s2 := if s.cue.slotsEmpty then s1 else s1.cueCancelled .endShow s.cue none
  (((s2.setStandby none).mapCue fun c => { c with running := none }).setWarned none s.time.S).applyPending

/-- R117: END_SHOW outside DARK, in the order of the rule. -/
def State.takeEnd (s : State) : State :=
  let s1 := s.mapCtl fun c => { c with state := .dark, holdPending := none, continuePending := none }
  (((s1.mapClick fun _ => ClickEngine.powerUp).endCues).stopLamps).showNotice s.ctl.state .endShow none

/-- R117: END_SHOW. -/
def actEndShow (s : State) : State × Answer :=
  (if s.ctl.state = .dark then s else s.takeEnd, .ok false .empty)

/-- END_SHOW (R117). -/
def execEndShow (tag : Nat) (s : State) : Host.Outcome State Fault Refusal :=
  serve 0x25 tag true actEndShow s

/-! ## STOP_QUERY (R118) -/

/-- R118: the record STOP_QUERY returns. -/
def ShowControl.query (c : ShowControl) : StopQueryRecord where
  showState := c.state
  holdPending := c.holdPending
  continuePending := c.continuePending
  stopRecord := c.stopRecord
  activeOpen := c.activeOpen
  lineMode := c.lineMode
  qualifyMs := c.qualifyMs
  qualifier := c.qualifier
  timerEnd := c.timerEnd
  asserted := c.asserted
  silenceLimit := c.silenceLimit
  silenceEnd := c.silenceEnd

/-- R118: STOP_QUERY. -/
def actStopQuery (s : State) : State × Answer := (s, .ok false (.stopQuery s.ctl.query))

/-- STOP_QUERY (R118). -/
def execStopQuery (tag : Nat) (s : State) : Host.Outcome State Fault Refusal :=
  serve 0x26 tag true actStopQuery s

end Sys2Proof.Machine
end

