-- ==== Sys2Proof/Machine/Timebase.lean ====
section
/-! DEFINITION. The Timebase (01): the advance of S, the word-clock supervisor, the clock state and the
CLOCK request. -/

namespace Sys2Proof.Machine

/-- R1: S advanced by `k` samples at once. -/
def Timebase.advanceS (t : Timebase) (k : Nat) : Timebase := { t with S := t.S + k, advance := k }

/-- A CLOCK notice (R8, R11, R12) with the clock state, S and the rate of the last completed window as they stand.
R8 names the rate for a failover alone; that a notice of cause HOST, STRAP or DROPPED carries it too, and one of
cause DROPPED, or of cause HOST at a SELECT_INTERNAL, the S, is the model's choice (log 66). -/
def State.clockNotice (s : State) (cause : ClockCause) : State :=
  s.offer (.clock cause s.time.clockState s.time.S s.time.rateHz)

/-- The state with the Timebase changed. -/
def State.mapTime (s : State) (f : Timebase → Timebase) : State := { s with time := f s.time }

/-! ## Edges and periods -/

/-- R11: the notice cause of a switch to WORD. -/
def SwitchCause.clockCause : SwitchCause → ClockCause
  | .host => .host
  | .strap => .strap

/-- R5, R6: what the supervisor does at each word-clock edge. -/
def Timebase.countEdge (t : Timebase) : Timebase :=
  { t with watch := 0, edgesAbsent := false, windowEdges := addSat 65535 t.windowEdges 1 }

/-- R3, R5, R6, R11: a rising edge of the word clock. -/
def actWordClockEdge (s : State) : State :=
  let s' := s.mapTime Timebase.countEdge
  match s'.time.clockState, s'.time.pendingSwitch with
  | .word, _ => s'.mapTime fun t => t.advanceS 1
  | _, none => s'
  | _, some c =>
    (s'.mapTime fun t =>
      { t.advanceS 1 with clockState := .word, pendingSwitch := none }).clockNotice c.clockCause

/-- WORD_CLOCK_EDGE (R3). -/
def execWordClockEdge (s : State) : Host.Outcome State Fault Refusal := command actWordClockEdge s

/-- R3, R5, R6: a period of the internal oscillator: S advances in INTERNAL and FAILOVER, the watch
count rises (held at 4) and the window goes on. -/
def actInternalPeriod (s : State) : State :=
  s.mapTime fun t =>
    let t' := { t with
      watch := addSat Config.wcMissPeriods t.watch 1
      windowPosition := t.windowPosition + 1 }
    match t.clockState with
    | .word => t'
    | .internal | .failover => t'.advanceS 1

/-- INTERNAL_PERIOD (R3). -/
def execInternalPeriod (s : State) : Host.Outcome State Fault Refusal := command actInternalPeriod s

/-! ## Missing edges and windows -/

/-- R8: a failover with its cause. -/
def State.failover (s : State) (cause : ClockCause) : State :=
  (s.mapTime fun t => { t with clockState := .failover, autoSwitch := false }).clockNotice cause

/-- R11: a pending switch dropped by a bad judgement. -/
def State.dropSwitch (s : State) : State :=
  match s.time.pendingSwitch with
  | none => s
  | some _ => (s.mapTime fun t => { t with pendingSwitch := none }).clockNotice .dropped

/-- R6: a missing-edge event is due: the watch count stands at 4 with edges-absent clear. -/
def Timebase.missingEdgeDue (t : Timebase) : Bool :=
  decide (t.watch = Config.wcMissPeriods) && !t.edgesAbsent

/-- R6: a missing-edge event: in WORD a failure with S jumping by 4, elsewhere the pending switch is
dropped. -/
def actMissingEdgeEvent (s : State) : State :=
  if s.time.missingEdgeDue then
    let s' := s.mapTime fun t => { t with edgesAbsent := true, goodRun := 0, windowSpoiled := true }
    match s'.time.clockState with
    | .word => (s'.mapTime fun t => t.advanceS Config.wcMissPeriods).failover .missingEdges
    | .internal | .failover => s'.dropSwitch
  else s

/-- MISSING_EDGE_EVENT (R6). -/
def execMissingEdgeEvent (s : State) : Host.Outcome State Fault Refusal :=
  command actMissingEdgeEvent s

/-- R5: the window in progress, judged at its end, is good. -/
def Timebase.windowGood (t : Timebase) : Bool :=
  decide (Config.wcEdgesLow ≤ t.windowEdges ∧ t.windowEdges ≤ Config.wcEdgesHigh) && !t.windowSpoiled

/-- R5: the window judged, its counts moved on and the next window started. -/
def Timebase.endWindow (t : Timebase) : Timebase :=
  { t with
    goodRun := if t.windowGood then addSat Config.wcGoodRun t.goodRun Config.wcWindow else 0
    lastWindowEdges := t.windowEdges
    windowEdges := 0
    windowSpoiled := false
    windowPosition := t.windowPosition - Config.wcWindow }

/-- R13: a window end that raises the good run to 48,000 in INTERNAL with the auto-switch mark set and
no switch pending sets the flag and clears the mark. -/
def Timebase.autoSwitchArmed (before after : Timebase) : Bool :=
  after.autoSwitch && decide (after.clockState = .internal) && after.pendingSwitch.isNone
    && after.wordClockGood && decide (before.goodRun ≠ Config.wcGoodRun)

/-- R5, R7, R11, R13: the end of a rate window. -/
def actRateWindowEnd (s : State) : State :=
  if Config.wcWindow ≤ s.time.windowPosition then
    let good := s.time.windowGood
    let s' := s.mapTime Timebase.endWindow
    if good then
      if s.time.autoSwitchArmed s'.time then
        s'.mapTime fun t => { t with pendingSwitch := some .strap, autoSwitch := false }
      else s'
    else
      match s'.time.clockState with
      | .word => s'.failover .rate
      | .internal | .failover => s'.dropSwitch
  else s

/-- RATE_WINDOW_END (R5). -/
def execRateWindowEnd (s : State) : Host.Outcome State Fault Refusal := command actRateWindowEnd s

/-! ## The CLOCK request (R9, R10, R12) -/

/-- R9: the clock record. -/
def Timebase.record (t : Timebase) : ClockRecord :=
  ⟨t.clockState, t.pendingSwitch.isSome, t.wordPreferred, t.autoSwitch, t.edgesAbsent, t.rateHz,
    t.goodRun, t.S⟩

/-- OK with the clock record as it stands after the request (R9). -/
def clockReply (s : State) : State × Answer := (s, .ok false (.clock s.time.record))

/-- R9: QUERY changes nothing. -/
def actClockQuery (s : State) : State × Answer := clockReply s

/-- CLOCK_QUERY (R9). -/
def execClockQuery (tag : Nat) (s : State) : Host.Outcome State Fault Refusal :=
  serve 0x08 tag true actClockQuery s

/-- R10: SELECT_WORD by the clock state, the flag and the judgement of the word clock; the refusal
carries the clock record too (R9). -/
def actClockSelectWord (s : State) : State × Answer :=
  if s.time.clockState = .word ∨ s.time.pendingSwitch ≠ none then
    clockReply (s.mapTime fun t => { t with autoSwitch := false })
  else if s.time.wordClockGood then
    clockReply (s.mapTime fun t => { t with autoSwitch := false, pendingSwitch := some .host })
  else (s, .refused .notReady (.clock s.time.record))

/-- CLOCK_SELECT_WORD (R10). -/
def execClockSelectWord (tag : Nat) (s : State) : Host.Outcome State Fault Refusal :=
  serve 0x08 tag true actClockSelectWord s

/-- R12: SELECT_INTERNAL. -/
def actClockSelectInternal (s : State) : State × Answer :=
  let s' := s.mapTime fun t =>
    { t with clockState := .internal, autoSwitch := false, pendingSwitch := none }
  clockReply (if s.time.clockState = .internal then s' else s'.clockNotice .host)

/-- CLOCK_SELECT_INTERNAL (R12). -/
def execClockSelectInternal (tag : Nat) (s : State) : Host.Outcome State Fault Refusal :=
  serve 0x08 tag true actClockSelectInternal s

end Sys2Proof.Machine
end

