-- ==== Sys2Proof/Machine/VideoIn.lean ====
section
/-! DEFINITION. The Video Input Monitor's operations (08): the format table, measurement and lock of an
input, the choice between the inputs and its notices. The commands are in Video.lean. -/

namespace Sys2Proof.Machine

/-! ## Records -/

/-- The record of an input (R147). -/
def State.input (s : State) : Input → InputRecord
  | .a => s.vin.inputA
  | .b => s.vin.inputB

/-- The state with an input's record replaced. -/
def State.setInput (s : State) (i : Input) (r : InputRecord) : State :=
  match i with
  | .a => { s with vin := { s.vin with inputA := r } }
  | .b => { s with vin := { s.vin with inputB := r } }

/-- The state with the selection record replaced. -/
def State.setSelection (s : State) (x : Selection) : State :=
  { s with vin := { s.vin with selection := x } }

/-- The format entry of a number, empty or not (R145). -/
def State.format (s : State) (e : EntryNo) : Option Format := s.vin.formats.get e

/-- The input is LOCKED. -/
def State.isLocked (s : State) (i : Input) : Bool := decide ((s.input i).lock = .locked)

/-- The format entries in number order. -/
def allEntries : List EntryNo := [0, 1, 2, 3, 4, 5, 6, 7, 8, 9, 10, 11, 12, 13, 14, 15]

/-- R145: a frame of `lines` and `period` agrees with an entry. -/
def Format.agrees (f : Format) (lines period : Nat) : Bool :=
  decide (f.lines = lines ∧ f.period ≤ period + f.tolerance ∧ period ≤ f.period + f.tolerance)

/-- R145: the entry a frame matches: the lowest-numbered that agrees. -/
def State.matchEntry (s : State) (lines period : Nat) : Option EntryNo :=
  allEntries.find? fun e => ((s.format e).map fun f => f.agrees lines period).getD false

/-- R148: the span of the missing watch of an entry, ceil(2 * nominal period * 48 / 1,000) samples. -/
def Format.watchSpan (f : Format) : Nat := (2 * f.period * 48 + 999) / 1000

/-- R148: the span of an input's missing watch: that of its forced or matched entry, if any. -/
def State.watchSpan (s : State) (r : InputRecord) : Option Nat :=
  let entry :=
    match r.mode with
    | .forced f => some f
    | .autoDetect => r.matched
  (entry.bind s.format).map Format.watchSpan

/-! ## Notices (R157) -/

/-- R157: a LOCK notice of an input whose lock state was `before`. The matched entry is the one after the change, also
where the input has left LOCKED (the model's choice, log 76). -/
def State.lockNotice (s : State) (i : Input) (before : LockState) : State :=
  let r := s.input i
  s.offer (.videoState .lock (some i) (some before) (some r.lock) r.matched r.lines r.period
    (some r.mode) s.vin.selection s.time.S)

/-- R157: a SELECT or EFFECT notice of the input chosen or in effect, whose lock state does not change
(log 48), with the selection record as it stands after the change (log 75). -/
def State.choiceNotice (s : State) (ev : VideoEvent) (i : Option Input) : State :=
  let r := i.map s.input
  s.offer (.videoState ev i (r.map InputRecord.lock) (r.map InputRecord.lock)
    (r.bind InputRecord.matched) (r.bind InputRecord.lines) (r.bind InputRecord.period)
    (r.map InputRecord.mode) s.vin.selection s.time.S)

/-! ## The choice (R154, R156) -/

/-- The input named by a choice is LOCKED; no choice names one. -/
def State.choiceLocked (s : State) (i : Option Input) : Bool := (i.map s.isLocked).getD false

/-- R156: the selection record after the choice changes to `i`. -/
def Selection.choose (x : Selection) (i : Option Input) (locked : Bool) : Selection :=
  if i = x.inEffect then { x with chosen := i, pendingChange := none }
  else if locked then { x with chosen := i, pendingChange := i }
  else { x with chosen := i, inEffect := i, pendingChange := none }

/-- R156: the chosen input set, with the notices of what changes. -/
def State.choose (s : State) (i : Option Input) : State :=
  let x := s.vin.selection
  if i = x.chosen then s
  else
    let y := x.choose i (s.choiceLocked i)
    let s1 := (s.setSelection y).choiceNotice .select i
    if y.inEffect = x.inEffect then s1 else s1.choiceNotice .effect y.inEffect

/-- R156: the pending change takes effect. -/
def State.takeEffect (s : State) (i : Input) : State :=
  let x := s.vin.selection
  if x.pendingChange = some i then
    (s.setSelection { x with inEffect := some i, pendingChange := none }).choiceNotice .effect (some i)
  else s

/-- R154: A's return time for its present lock start. -/
def State.returnTimeOf (s : State) (hold : Nat) : Option Sample :=
  s.vin.inputA.lockStart.map (· + Config.samplesPerSecond * hold)

/-- R154, R155: A's return time set, found again or cleared; S has yet to reach it. -/
def State.setReturnTime (s : State) (v : Option Sample) : State :=
  { s with
    vin :=
      { s.vin with
        selection := { s.vin.selection with returnTime := v }, returnReached := none, returnSpent := false } }

/-- R154: in AUTO, A's return time set as A becomes LOCKED and cleared as A leaves LOCKED; in FORCE_A and FORCE_B it
is kept through the lock changes (R155). -/
def State.setReturn (s : State) (i : Input) (locks : Bool) : State :=
  let x := s.vin.selection
  match i with
  | .b => s
  | .a =>
    if x.mode = .auto then s.setReturnTime (if locks then s.returnTimeOf x.hold else none) else s

/-- R154: S has reached A's return time, for the first time since it was set (log 46). -/
def State.returnDue (s : State) : Bool :=
  !s.vin.returnSpent && reached s.vin.selection.returnTime s.time.S

/-- A's return time, if S has reached it, reached for good (log 46). -/
def State.spendReturn (s : State) : State :=
  { s with
    vin := { s.vin with returnSpent := s.vin.returnSpent || reached s.vin.selection.returnTime s.time.S } }

/-- R154: A chosen at its return time, which is kept in mind where no input was chosen (log 55). -/
def State.returnToA (s : State) : State :=
  let t := s.choose (some .a)
  if s.vin.selection.chosen = none then { t with vin := { t.vin with returnReached := some s.time.S } } else t

/-- R154: S reaches the return time: in AUTO it chooses A, and in any other mode it does not act (R155). -/
def State.returnNow (s : State) : State :=
  let x := s.vin.selection
  if s.returnDue ∧ x.mode = .auto ∧ x.chosen ≠ some .a then s.spendReturn.returnToA else s.spendReturn

/-- R154: the chosen input gives way to a B that becomes LOCKED: none, or an A that is not LOCKED (the table),
or an A chosen from none by its return time at this very sample (the last sentence, log 55). -/
def State.yieldsToB (s : State) : Bool :=
  let x := s.vin.selection
  decide (x.chosen ≠ some .b) &&
    (!s.choiceLocked x.chosen || decide (x.chosen = some .a ∧ s.vin.returnReached = some s.time.S))

/-- R154: input `i` becomes LOCKED: in AUTO, B is chosen where the choice gives way to it, and A waits for its
return time, which a hold of 0 reaches at once (log 28). In the other modes it moves nothing (R155). -/
def State.lockGained (s : State) (i : Input) : State :=
  if s.vin.selection.mode = .auto then
    match i with
    | .a => s.returnNow
    | .b => if s.yieldsToB then s.choose (some .b) else s
  else s

/-- The other input. -/
def otherInput : Input → Input
  | .a => .b
  | .b => .a

/-- R154: input `i` leaves LOCKED: the other one is chosen if it is LOCKED, and none otherwise. -/
def State.lockLost (s : State) (i : Input) : State :=
  if s.vin.selection.mode = .auto ∧ s.vin.selection.chosen = some i then
    s.choose (if s.isLocked (otherInput i) then some (otherInput i) else none)
  else s

/-- R154, R156, R157: a change of the lock state of input `i` from `before`: its notice, then the choice,
then a pending input that has left LOCKED takes effect (log 47). The LOCK notice carries the selection record as it
stood before the choice (the model's choice, log 75). -/
def State.lockChanged (s : State) (i : Input) (before : LockState) : State :=
  let now := (s.input i).lock
  if now = before then s
  else
    let s1 := s.lockNotice i before
    if now = .locked then (s1.setReturn i true).lockGained i
    else if before = .locked then ((s1.setReturn i false).lockLost i).takeEffect i
    else s1

/-! ## Judging a frame (R148, R150 to R152) -/

/-- R146, R151, R153: the record of an input out of LOCKED, SEARCHING with no candidate. R151 sets the lock
start to none; that R146 and R153 do so too is DEDUCED (log 57). -/
def InputRecord.search (r : InputRecord) : InputRecord :=
  { r with
    lock := .searching, matched := none, matchCount := 0, missCount := 0, missEnd := none
    lockStart := none }

/-- R150: a SEARCHING input judges a measured frame that matches `m`, at stamp `x`. -/
def InputRecord.judgeSearching (r : InputRecord) (m : Option EntryNo) (x : Sample) : InputRecord :=
  match m with
  | none => { r with matched := none, matchCount := 0 }
  | some e =>
    let count := if r.matched = some e then addSat 31 r.matchCount 1 else 1
    let r' := { r with matched := some e, matchCount := count }
    if r.lockCount ≤ count then { r' with lock := .locked, missCount := 0, lockStart := some x } else r'

/-- R151: a LOCKED input in AUTO_DETECT judges a measured frame; the frame that completes the unlock
becomes the candidate when it matches an entry, with match count 1 (log 24). -/
def InputRecord.judgeLocked (r : InputRecord) (m : Option EntryNo) : InputRecord :=
  if m.isSome ∧ m = r.matched then { r with missCount := 0 }
  else
    let miss := addSat 7 r.missCount 1
    if r.unlockCount ≤ miss then
      { r.search with matched := m, matchCount := if m.isSome then 1 else 0 }
    else { r with missCount := miss }

/-- R152: a LOCKED input in FORCED mode judges a measured frame against its entry; its counts do not move
the lock (log 22). -/
def InputRecord.judgeForced (r : InputRecord) (m : Option EntryNo) : InputRecord :=
  if m.isSome ∧ m = r.matched then { r with missCount := 0, matchCount := addSat 31 r.matchCount 1 }
  else { r with missCount := addSat 7 r.missCount 1, matchCount := 0 }

/-- R150 to R152: the judgement of a measured frame. -/
def InputRecord.judge (r : InputRecord) (m : Option EntryNo) (x : Sample) : InputRecord :=
  match r.lock, r.mode with
  | .searching, .autoDetect => r.judgeSearching m x
  | .locked, .autoDetect => r.judgeLocked m
  | .locked, .forced _ => r.judgeForced m
  | _, _ => r

/-- R152: the first frame start after sync in FORCED mode. -/
def InputRecord.lockForced (r : InputRecord) (x : Sample) : InputRecord :=
  match r.lock, r.mode with
  | .searching, .forced f =>
    { r with lock := .locked, matched := some f, lockStart := some x, missCount := 0 }
  | _, _ => r

/-- R148: the frame just ended stored as the last measured values. -/
def InputRecord.store (r : InputRecord) (micros : Nat) : InputRecord :=
  { r with
    lines := some (min Config.linesSaturation r.edges)
    period := some (min Config.periodSaturation micros) }

/-- R148: a frame start measured, when the measurement is valid. -/
def State.measured (s : State) (r : InputRecord) (micros : Nat) : InputRecord :=
  if r.valid then
    let r' := r.store micros
    r'.judge (s.matchEntry (min Config.linesSaturation r.edges) (min Config.periodSaturation micros))
      s.time.S
  else r

/-- R148, R150 to R152: the record after a frame start that ends a frame of `micros` microseconds. -/
def State.frameRecord (s : State) (i : Input) (micros : Nat) : InputRecord :=
  let r := (s.measured (s.input i) micros).lockForced s.time.S
  { r with
    lastFrame := some s.time.S
    valid := true
    edges := 0
    missEnd := (s.watchSpan r).map (s.time.S + ·) }

/-- R148, R154, R156, R157: the monitor's own work at a frame start of input `i`. A frame start does not
occur in NO_SIGNAL (R157), where it changes nothing (log 45). -/
def State.monitorFrame (s : State) (i : Input) (micros : Nat) : State :=
  let before := (s.input i).lock
  ((s.setInput i (s.frameRecord i micros)).lockChanged i before).takeEffect i

/-! ## Sync and missing frames (R149 to R151) -/

/-- R149: a sync edge. -/
def InputRecord.edge (r : InputRecord) (S : Sample) : InputRecord :=
  let r' := { r with
    syncPresent := true
    syncWatchEnd := some (S + Config.syncTimeout)
    edges := addSat Config.linesSaturation r.edges 1 }
  if r.lock = .noSignal then
    { r' with
      lock := .searching, matched := none, matchCount := 0, missCount := 0, lastFrame := none
      valid := false }
  else r'

/-- R149: the record of an input that has lost sync. -/
def InputRecord.loseSync (r : InputRecord) : InputRecord :=
  { r with
    syncPresent := false, syncWatchEnd := none, lock := .noSignal, matched := none
    lastFrame := none, lockStart := none, missEnd := none, matchCount := 0, missCount := 0 }

/-- R150, R151, R152: the record at a missing-watch expiry, with the watch span of its entry. A missing frame of a
LOCKED input leaves its match count as it stands, in FORCED mode too (the model's reading, log 22). -/
def InputRecord.missFrame (r : InputRecord) (S : Sample) (span : Option Nat) : InputRecord :=
  match r.lock with
  | .noSignal => { r with missEnd := none }
  | .searching => { r with matched := none, matchCount := 0, valid := false, missEnd := none }
  | .locked =>
    let r' := { r with
      missCount := addSat 7 r.missCount 1, valid := false, missEnd := span.map (S + ·) }
    match r.mode with
    | .forced _ => r'
    | .autoDetect => if r.unlockCount ≤ r'.missCount then r'.search else r'

/-- The state with an input's record changed and the change of its lock state acted on. -/
def State.mapInput (s : State) (i : Input) (f : InputRecord → InputRecord) : State :=
  (s.setInput i (f (s.input i))).lockChanged i (s.input i).lock

/-! ## Settings (R146, R153) -/

/-- R146: an input whose lock record names a rewritten entry: LOCKED to it in AUTO_DETECT, or SEARCHING
with it as candidate. -/
def InputRecord.names (r : InputRecord) (e : EntryNo) : Bool :=
  decide (r.matched = some e)
    && (decide (r.lock = .searching) || (decide (r.lock = .locked) && decide (r.mode = .autoDetect)))

/-- R146: the search of an input restarted after a write of entry `e`. -/
def InputRecord.rewrite (e : EntryNo) (r : InputRecord) : InputRecord :=
  if r.names e then r.search else r

/-- R153: the missing watch set from the last frame start. -/
def State.rewatch (s : State) (r : InputRecord) : InputRecord :=
  match r.lastFrame, s.watchSpan r with
  | some x, some k => { r with missEnd := some (x + k) }
  | _, _ => { r with missEnd := none }

/-- R153: a change of mode acts at once, on a record whose settings are stored. FORCED to FORCED acts the same when
the entry written is the one already forced: the missing watch of a LOCKED input is set anew from the last frame
start, so a span already counted as a miss can be counted again (the model's reading, log 23; the lock start of an
input returned to SEARCHING by log 57). -/
def State.changeMode (s : State) (before : InputMode) (r : InputRecord) : InputRecord :=
  match before, r.mode with
  | .autoDetect, .autoDetect => r
  | .forced _, .autoDetect => if r.lock = .noSignal then r else r.search
  | .autoDetect, .forced f =>
    if r.lastFrame.isSome then
      s.rewatch
        { r with
          lock := .locked, matched := some f
          lockStart := if r.lock = .locked then r.lockStart else some s.time.S }
    else r
  | .forced _, .forced f => if r.lock = .locked then s.rewatch { r with matched := some f } else r

/-- R153: the settings of a WRITE stored in one input, with what the change of mode does. -/
def State.setInputMode (mode : InputMode) (lockCount unlockCount : Nat) (s : State) (i : Input) : State :=
  let r := s.input i
  s.mapInput i fun _ =>
    s.changeMode r.mode { r with mode := mode, lockCount := lockCount, unlockCount := unlockCount }

/-- R153: the mode an INPUT_SET WRITE carries; none where it is refused. -/
def State.readInputMode (s : State) (mode entry : Nat) : Option InputMode :=
  match mode with
  | 0 => some .autoDetect
  | 1 =>
    match entryNo entry with
    | some e => if (s.format e).isSome then some (.forced e) else none
    | none => none
  | _ => none

/-! ## SELECT (R155) -/

/-- R155: the chosen input a new mode sets. -/
def State.chosenFor (s : State) : SelectionMode → Option Input
  | .forceA => some .a
  | .forceB => some .b
  | .auto => if s.isLocked .a || !s.isLocked .b then some .a else some .b

/-- R155: a SELECT finds A's return time again from A's lock start: it is set, and A has one. -/
def State.findsReturn (s : State) : Bool :=
  s.vin.selection.returnTime.isSome && s.vin.inputA.lockStart.isSome

/-- R155: the hold stored, with a return time that is set found again from A's lock start; one kept in FORCE_A or
FORCE_B while A has no lock start stands as it is (log 46). -/
def State.setHold (s : State) (hold : Nat) : State :=
  let s1 := s.setSelection { s.vin.selection with hold := hold }
  if s.findsReturn then s1.setReturnTime (s.returnTimeOf hold) else s1

/-- R155: entering a mode: AUTO sets A's return time while A is LOCKED, and the mode sets the choice, also in place
of a return time so set that S has reached (log 56). -/
def State.enterMode (s : State) (m : SelectionMode) : State :=
  let x := s.vin.selection
  let s1 := s.setSelection { x with mode := m }
  let s2 := if m = .auto ∧ s.isLocked .a then (s1.setReturnTime (s.returnTimeOf x.hold)).spendReturn else s1
  s2.choose (s2.chosenFor m)

/-- R155: a taken SELECT. A return time found again behind S is reached at once: it acts where the mode stays, and a
new mode sets the choice in its place (log 56). -/
def State.select (s : State) (m : SelectionMode) (hold : Nat) : State :=
  let s1 := s.setHold hold
  if m = s1.vin.selection.mode then if s.findsReturn then s1.returnNow else s1
  else (if s.findsReturn then s1.spendReturn else s1).enterMode m

end Sys2Proof.Machine
end

