-- ==== Sys2Proof/Machine/VideoOut.lean ====
section
/-! DEFINITION. The Video Output Mixer's operations (09): an output's source and frame state, layouts and
their adoption, the latching of a frame start, the flash, and the composed frame. The commands are in
Video.lean. -/

namespace Sys2Proof.Machine

/-! ## Records -/

/-- The record of an output (R158). -/
def State.output (s : State) (o : OutputNo) : OutputRecord := s.vout.outputs.get o

/-- The state with an output's record replaced. -/
def State.setOutput (s : State) (o : OutputNo) (r : OutputRecord) : State :=
  { s with vout := { s.vout with outputs := s.vout.outputs.set o.val r o.isLt } }

/-- R159: an output's source input. -/
def State.sourceInput (s : State) (r : OutputRecord) : Option Input :=
  match r.source with
  | .selected => s.vin.selection.inEffect
  | .a => some .a
  | .b => some .b

/-- R159: the source input of an output, when it is LOCKED. -/
def State.lockedSource (s : State) (r : OutputRecord) : Option Input :=
  (s.sourceInput r).filter s.isLocked

/-! ## The frame in progress (R159) -/

/-- R159: the frame in progress drawn from the fallback pattern to its end when its source has left LOCKED
or become another; its state is then FALLBACK also where the new source is LOCKED (log 58). -/
def FrameInProgress.refresh (f : FrameInProgress) (source : Option Input) : FrameInProgress :=
  if f.state ≠ .fallback ∧ f.input ≠ source then { f with state := .fallback } else f

/-- R159: one output's frame in progress against its present source. -/
def State.refreshOutput (s : State) (o : OutputNo) : State :=
  let r := s.output o
  s.setOutput o { r with frame := r.frame.map fun f => f.refresh (s.lockedSource r) }

/-- R159: every output's frame in progress against its present source. -/
def State.refreshOutputs (s : State) : State := allOutputs.foldl State.refreshOutput s

/-! ## Adoption (R165) -/

/-- The outputs with adoption due (R165). -/
def VideoOut.adoptions (v : VideoOut) : Nat := (v.outputs.toList.filter OutputRecord.adoptionDue).length

/-- R165: with no adoption due, a staged layout becomes the committed one. -/
def VideoOut.settleStaged (v : VideoOut) : VideoOut :=
  match v.staged with
  | some l => if v.adoptions = 0 then { v with committed := l, staged := none } else v
  | none => v

/-- The state with the Mixer changed. -/
def State.mapVout (s : State) (f : VideoOut → VideoOut) : State := { s with vout := f s.vout }

/-- R165: an adoption due made. -/
def State.adopt (s : State) (o : OutputNo) : State :=
  let r := s.output o
  if r.adoptionDue then
    (s.setOutput o
        { r with layout := s.vout.staged.getD r.layout, adoptionDue := false }).mapVout
      VideoOut.settleStaged
  else s

/-! ## Latching and the flash (R166, R167) -/

/-- R166: the values an output latches at a frame start with stamp `x`. -/
def State.latch (s : State) (r : OutputRecord) (x : Sample) : Latched :=
  let sounded := soundedAt s.click.kept (x + r.flashAdvance)
  { palette := s.vout.palette
    cue := s.cue.running
    sounded := sounded
    countdown := sounded.bind BeatRecord.countdown
    banner := bannerOf s.ctl s.cue.mode s.vout.bannerText }

/-- R167: the colour a beat lights the flash in. -/
def Layout.litColour (l : Layout) (b : BeatRecord) : Fin 8 :=
  if b.level = .down then l.downbeat else l.flash.foreground

/-- R167: the flash lit by a sounded record. -/
def OutputRecord.light (r : OutputRecord) (b : BeatRecord) : OutputRecord :=
  { r with
    litOnset := some b.onset, framesLeft := r.flashFrames, litColour := r.layout.litColour b }

/-- R167: the flash put out. -/
def OutputRecord.putOut (r : OutputRecord) (onset : Option Sample) : OutputRecord :=
  { r with litOnset := onset, framesLeft := 0 }

/-- R167: the flash settled from the sounded record. -/
def OutputRecord.settleFlash (r : OutputRecord) (b : Option BeatRecord) : OutputRecord :=
  match b, r.litOnset with
  | none, _ => r.putOut none
  | some b, none => r.light b
  | some b, some o =>
    if o < b.onset then r.light b else if b.onset = o then r else r.putOut (some b.onset)

/-- R167: the frame drawn with the flash lit uses up one of its frames. -/
def OutputRecord.useFlash (r : OutputRecord) : OutputRecord := { r with framesLeft := r.framesLeft - 1 }

/-! ## The overlay (R162, R163) -/

/-- The record of a field in a layout (R162). -/
def Layout.field (l : Layout) : OverlayField → FieldRecord
  | .cue => l.cue
  | .position => l.position
  | .flash => l.flash
  | .banner => l.banner
  | .countdown => l.countdown
  | .text => l.text

/-- A layout with a field's record replaced (R164). -/
def Layout.setField (l : Layout) (f : OverlayField) (r : FieldRecord) (downbeat : Fin 8) : Layout :=
  match f with
  | .cue => { l with cue := r }
  | .position => { l with position := r }
  | .flash => { l with flash := r, downbeat := downbeat }
  | .banner => { l with banner := r }
  | .countdown => { l with countdown := r }
  | .text => { l with text := r }

/-- A field is drawn in a mask (R158). -/
def drawnIn (m : FieldMask) : OverlayField → Bool
  | .cue => m.cue
  | .position => m.position
  | .flash => m.flash
  | .banner => m.banner
  | .countdown => m.countdown
  | .text => m.text

/-- The extent of a field in columns and rows (Table 9.4). -/
def OverlayField.extent : OverlayField → Nat × Nat
  | .cue => (19, 1)
  | .position => (13, 1)
  | .flash => (2, 2)
  | .banner => (16, 1)
  | .countdown => (2, 1)
  | .text => (16, 1)

/-- R162: a field lies wholly inside the active area of a format. -/
def insideArea (f : OverlayField) (r : FieldRecord) (g : Format) : Bool :=
  decide (r.column + f.extent.1 ≤ g.width ∧ r.row + f.extent.2 ≤ g.rows)

/-- The six fields in their order (Table 9.4). -/
def allFields : List OverlayField := [.cue, .position, .flash, .banner, .countdown, .text]

/-- Decimal digits of a number, most significant first, as character codes; `fuel` digits at most. -/
def digitsN : (fuel n : Nat) → Text → Text
  | 0, _, acc => acc
  | k + 1, n, acc => if n < 10 then (48 + n) :: acc else digitsN k (n / 10) ((48 + n % 10) :: acc)

/-- Decimal digits of a number of up to 20 digits. -/
def digits (n : Nat) : Text := digitsN 20 n []

/-- R163: a cue number in the theatre's form. -/
def cueText (n : Nat) : Text := digits (n / 10) ++ if n % 10 = 0 then [] else 46 :: digits (n % 10)

/-- R163: the contents of the CUE field. -/
def cueField (c : Option RunningCue) : Text :=
  match c with
  | some c => cueText c.number ++ 32 :: c.label
  | none => []

/-- A signed number in decimal, a negative one with its sign. -/
def signedText (i : Int) : Text := if i < 0 then 45 :: digits i.natAbs else digits i.natAbs

/-- R163: the contents of the POSITION field: bar:beat, and in a VAMP a space, V and the pass. -/
def positionField (b : Option BeatRecord) : Text :=
  match b with
  | some b =>
    signedText b.bar ++ 58 :: digits b.beatInBar
      ++ (b.pass.map fun p => 32 :: 86 :: digits p).getD []
  | none => []

/-- R114: the texts of the banners: "SHOW STOP", "HOLD", "LOCAL CONTROL", or the host's. -/
def bannerField (b : Option Banner) : Text :=
  match b with
  | some .stop => [83, 72, 79, 87, 32, 83, 84, 79, 80]
  | some .hold => [72, 79, 76, 68]
  | some .localControl => [76, 79, 67, 65, 76, 32, 67, 79, 78, 84, 82, 79, 76]
  | some (.host t) => t
  | none => []

/-- R163: the contents of a field from the latched values. -/
def fieldContent (r : OutputRecord) (l : Latched) : OverlayField → FieldContent
  | .cue => .text (cueField l.cue)
  | .position => .text (positionField l.sounded)
  | .flash => .box (if 0 < r.framesLeft then r.litColour else r.layout.flash.background)
  | .banner => .text (bannerField l.banner)
  | .countdown => .text ((l.countdown.map digits).getD [])
  | .text => .text ((l.cue.map RunningCue.text).getD [])

/-- R162: a field is drawn in a frame of format `g`. -/
def OutputRecord.draws (r : OutputRecord) (g : Format) (f : OverlayField) : Bool :=
  (r.layout.field f).enabled && drawnIn r.mask f && insideArea f (r.layout.field f) g

/-- R162: the cell of a field at column `j` of row `i` of an extent `width` columns wide: a text takes one cell
for each character from the first cell on (log 61), and what it leaves is background; a box fills every
cell. -/
def FieldContent.cell (c : FieldContent) (r : FieldRecord) (width i j : Nat) : OverlayCell :=
  match c with
  | .text t => ⟨t[i * width + j]?, r.foreground, r.background⟩
  | .box colour => ⟨none, r.foreground, colour⟩

/-- R162: the cells of a field's extent, row by row. -/
def FieldContent.cells (c : FieldContent) (f : OverlayField) (r : FieldRecord) : List (List OverlayCell) :=
  (List.range f.extent.2).map fun i => (List.range f.extent.1).map fun j => c.cell r f.extent.1 i j

/-- R162, R163: a field as it is drawn. -/
def OutputRecord.drawField (r : OutputRecord) (l : Latched) (f : OverlayField) : DrawnField :=
  let c := fieldContent r l f
  ⟨f, r.layout.field f, c, c.cells f (r.layout.field f)⟩

/-- R162, R163: the drawn fields of a frame. -/
def drawnFields (r : OutputRecord) (l : Latched) (g : Format) : List DrawnField :=
  (allFields.filter (r.draws g)).map (r.drawField l)

/-! ## Output frame starts (R159, R160) -/

/-- Entry 2, the hold format of an output whose own is empty (R159). -/
def fallbackEntry : EntryNo := 2

/-- R159: the entry a frame takes its fields from: the named one, or entry 2 where that is empty. -/
def State.usableEntry (s : State) (e : EntryNo) : EntryNo :=
  if (s.format e).isSome then e else fallbackEntry

/-- The fields of a built-in format, which no request can empty; entry 2's in the table as built in. -/
def Format.builtIn : Format := ⟨750, 16683, 7, .progressive, 160, 90⟩

/-- The fields of the entry a frame uses (R159). -/
def State.fieldsOf (s : State) (e : EntryNo) : Format := (s.format e).getD Format.builtIn

/-- R159: what a frame's picture is drawn from. -/
def OutputRecord.picture (r : OutputRecord) (st : FrameState) (i : Option Input) : Picture :=
  match st, i with
  | .picture, some i => .input i
  | .fill, _ => if r.shownPicture then .lastPicture else .pattern r.fallback
  | _, _ => .pattern r.fallback

/-- R159, R166, R167: the record of an output at a frame start, its layout already adopted: what it
latches, its flash settled and not yet used, its hold format and its frame in progress. -/
def State.startRecord (s : State) (r : OutputRecord) (st : FrameState) (e : EntryNo) : OutputRecord :=
  let l := s.latch r s.time.S
  { r.settleFlash l.sounded with
    holdFormat := e
    lastFrame := some s.time.S
    frame := some ⟨st, s.lockedSource r, s.fieldsOf e⟩
    latched := some l
    shownPicture := r.shownPicture || decide (st = .picture) }

/-- The frame an output composes from its record at a frame start (R160, R162, R163). -/
def State.compose (s : State) (r : OutputRecord) (st : FrameState) (e : EntryNo) : OutputFrame :=
  let l := s.latch r s.time.S
  let g := s.fieldsOf e
  { stamp := s.time.S
    state := st
    format := e
    scan := g.scan
    picture := r.picture st (s.lockedSource r)
    palette := l.palette
    fields := drawnFields (r.settleFlash l.sounded) l g }

/-- R160, R166: a frame start of output `o` at the present S, in frame state `st` and format entry `e`. -/
def State.startFrame (s : State) (o : OutputNo) (st : FrameState) (e : EntryNo) : State :=
  let s1 := s.adopt o
  let r := s1.output o
  (s1.setOutput o (s1.startRecord r st e).useFlash).emit (.output o (s1.compose r st e))

/-- R159, R160: a frame start of input `i` handed to one output, which starts a PICTURE frame when the
input is LOCKED and is its source. -/
def State.takePicture (i : Input) (s : State) (o : OutputNo) : State :=
  let r := s.output o
  if r.enabled ∧ s.lockedSource r = some i then
    s.startFrame o .picture (s.usableEntry ((s.input i).matched.getD fallbackEntry))
  else s

/-- R157: a frame start of an input handed to the Mixer. -/
def State.handFrame (s : State) (i : Input) : State := allOutputs.foldl (State.takePicture i) s

/-- R160: an output's own frame is due: the nominal period of the hold format has passed since its last
frame start, or there is none. The period is that of the format the frame in progress was started with. An output
that has a last frame start but no frame in progress (it was disabled and enabled again) waits for the period of the
fields the hold format's entry holds now, or entry 2's where that entry is empty (the model's choice, log 71). -/
def State.ownFrameDue (s : State) (r : OutputRecord) (micros : Nat) : Bool :=
  match r.lastFrame, r.frame with
  | none, _ => true
  | some _, some f => decide (f.format.period ≤ micros)
  | some _, none => decide ((s.fieldsOf (s.usableEntry r.holdFormat)).period ≤ micros)

/-- R160: an output starts a FILL or FALLBACK frame of its own, `micros` after its last frame start. -/
def State.ownFrame (s : State) (o : OutputNo) (micros : Nat) : State :=
  let r := s.output o
  if r.enabled ∧ s.ownFrameDue r micros then
    s.startFrame o (if (s.lockedSource r).isSome then .fill else .fallback) (s.usableEntry r.holdFormat)
  else s

end Sys2Proof.Machine
end

