-- ==== Sys2Proof/Machine/Video.lean ====
section
/-! DEFINITION. The commands of the Video Input Monitor and the Video Output Mixer (08, 09). -/

namespace Sys2Proof.Machine

/-! ## Format table (R146) -/

/-- R146: FORMAT_PUT with action READ. -/
def actFormatPutRead (entry : Nat) (s : State) : State × Answer :=
  match entryNo entry with
  | some e => (s, .ok false (.format (s.format e)))
  | none => refuse s .badValue

/-- FORMAT_PUT_READ (R146). -/
def execFormatPutRead (tag entry : Nat) (s : State) : Host.Outcome State Fault Refusal :=
  serve 0x41 tag true (actFormatPutRead entry) s

/-- R146: an entry is the forced entry of an input. -/
def State.isForced (s : State) (e : EntryNo) : Bool :=
  decide (s.vin.inputA.mode = .forced e ∨ s.vin.inputB.mode = .forced e)

/-- R146: an entry stored, and what that does to each input, A before B (log 64). -/
def State.putFormat (s : State) (e : EntryNo) (f : Option Format) : State :=
  let s1 := { s with vin := { s.vin with formats := s.vin.formats.set e.val f e.isLt } }
  ((s1.mapInput .a (InputRecord.rewrite e)).mapInput .b (InputRecord.rewrite e)).refreshOutputs

/-- R146: the entry a WRITE stores and whether a value was clamped; total lines of 0 empties it, the other
fields then not being read (log 49). None for a scan value not in its enumeration. -/
def readFormatWrite (r : RawFormat) : Option (Option Format × Bool) :=
  if r.lines = 0 then some (none, false) else (readFormat r).map fun x => (some x.1, x.2)

/-- R146: FORMAT_PUT with action WRITE. -/
def actFormatPutWrite (entry : Nat) (raw : RawFormat) (s : State) : State × Answer :=
  match entryNo entry, readFormatWrite raw with
  | some e, some (f, clamped) =>
    if entry < 10 then refuse s .badValue
    else if s.isForced e then refuse s .busy
    else (s.putFormat e f, .ok clamped (.format f))
  | _, _ => refuse s .badValue

/-- FORMAT_PUT_WRITE (R146). -/
def execFormatPutWrite (tag entry : Nat) (raw : RawFormat) (s : State) :
    Host.Outcome State Fault Refusal :=
  serve 0x41 tag true (actFormatPutWrite entry raw) s

/-! ## Events of an input (R148 to R151) -/

/-- SYNC_EDGE (R149). -/
def execSyncEdge (i : Input) (s : State) : Host.Outcome State Fault Refusal :=
  command (fun s => s.mapInput i fun r => r.edge s.time.S) s

/-- SYNC_WATCH_EXPIRY (R149). -/
def execSyncWatchExpiry (i : Input) (s : State) : Host.Outcome State Fault Refusal :=
  command
    (fun s => s.whenReached (s.input i).syncWatchEnd fun x =>
      (x.mapInput i InputRecord.loseSync).refreshOutputs) s

/-- R148, R157: a frame start of an input: the monitor's own work, then the Mixer's. -/
def actInputFrameStart (i : Input) (micros : Nat) (s : State) : State :=
  if (s.input i).lock = .noSignal then s
  else ((s.monitorFrame i micros).refreshOutputs).handFrame i

/-- INPUT_FRAME_START (R148): the time since the frame start before comes with the command (log 25). -/
def execInputFrameStart (i : Input) (micros : Nat) (s : State) : Host.Outcome State Fault Refusal :=
  command (actInputFrameStart i micros) s

/-- R150, R151: the missing watch end reached. -/
def actMissingWatch (i : Input) (s : State) : State :=
  (s.mapInput i fun r => r.missFrame s.time.S (s.watchSpan r)).refreshOutputs

/-- MISSING_WATCH_EXPIRY (R151). -/
def execMissingWatchExpiry (i : Input) (s : State) : Host.Outcome State Fault Refusal :=
  command (fun s => s.whenReached (s.input i).missEnd (actMissingWatch i)) s

/-! ## INPUT_SET (R153) -/

/-- R153: the record an INPUT_SET reply carries: the addressed input's, A's for BOTH. -/
def State.inputReply (s : State) (is : List Input) : ReplyBody := .input (s.input (is.headD .a))

/-- R153: INPUT_SET with action READ. -/
def actInputSetRead (address : Nat) (s : State) : State × Answer :=
  match addressOf address with
  | some is => (s, .ok false (s.inputReply is))
  | none => refuse s .badValue

/-- INPUT_SET_READ (R153). -/
def execInputSetRead (tag address : Nat) (s : State) : Host.Outcome State Fault Refusal :=
  serve 0x40 tag true (actInputSetRead address) s

/-- R153: a taken WRITE on each addressed input, one after the other: with BOTH, A before B (log 64). -/
def State.writeInputs (s : State) (is : List Input) (m : InputMode) (lock unlock : Nat) : State :=
  (is.foldl (State.setInputMode m lock unlock) s).refreshOutputs

/-- R153: INPUT_SET with action WRITE. -/
def actInputSetWrite (address mode entry lock unlock : Nat) (s : State) : State × Answer :=
  match addressOf address, s.readInputMode mode entry with
  | some is, some m =>
    let t := s.writeInputs is m (clampTo 1 31 lock) (clampTo 1 7 unlock)
    (t, .ok (decide (clampTo 1 31 lock ≠ lock) || decide (clampTo 1 7 unlock ≠ unlock))
      (t.inputReply is))
  | _, _ => refuse s .badValue

/-- INPUT_SET_WRITE (R153). -/
def execInputSetWrite (tag address mode entry lock unlock : Nat) (s : State) :
    Host.Outcome State Fault Refusal :=
  serve 0x40 tag true (actInputSetWrite address mode entry lock unlock) s

/-! ## The choice (R154, R155) -/

/-- RETURN_TIME (R154). -/
def execReturnTime (s : State) : Host.Outcome State Fault Refusal :=
  command
    (fun s => s.whenReached s.vin.selection.returnTime fun x => x.returnNow.refreshOutputs) s

/-- R155: SELECT. -/
def actSelect (mode hold : Nat) (s : State) : State × Answer :=
  match SelectionMode.ofCode mode with
  | none => refuse s .badValue
  | some m =>
    let t := (s.select m (min Config.returnHoldMax hold)).refreshOutputs
    (t, .ok (decide (Config.returnHoldMax < hold)) (.selection t.vin.selection))

/-- SELECT (R155). -/
def execSelect (tag mode hold : Nat) (s : State) : Host.Outcome State Fault Refusal :=
  serve 0x42 tag true (actSelect mode hold) s

/-! ## OUTPUT_SET (R158) -/

/-- R158: OUTPUT_SET with action READ. -/
def actOutputSetRead (output : Nat) (s : State) : State × Answer :=
  match outputNo output with
  | some o => (s, .ok false (.output (s.output o)))
  | none => refuse s .badValue

/-- OUTPUT_SET_READ (R158). -/
def execOutputSetRead (tag output : Nat) (s : State) : Host.Outcome State Fault Refusal :=
  serve 0x48 tag true (actOutputSetRead output) s

/-- R158, R165: an output's enable changed: enabled, it takes the committed layout, with adoption due while
a layout is staged; disabled, its frame in progress ends and its adoption mark clears. -/
def OutputRecord.enable (r : OutputRecord) (on : Bool) (v : VideoOut) : OutputRecord :=
  if r.enabled = on then r
  else if on then
    { r with
      enabled := true, layout := v.committed, adoptionDue := v.staged.isSome, shownPicture := false }
  else { r with enabled := false, frame := none, adoptionDue := false }

/-- R158: the settings of a WRITE stored. -/
def OutputRecord.set (r : OutputRecord) (raw : RawOutput) (src : OutputSource) (fb : Fallback) :
    OutputRecord :=
  { r with
    source := src, mask := raw.mask, fallback := fb
    flashAdvance := min Config.flashAdvanceMax raw.flashAdvance
    flashFrames := clampTo 1 4 raw.flashFrames }

/-- R158: OUTPUT_SET with action WRITE. -/
def actOutputSetWrite (output : Nat) (raw : RawOutput) (s : State) : State × Answer :=
  match outputNo output, OutputSource.ofCode raw.source, Fallback.ofCode raw.fallback with
  | some o, some src, some fb =>
    let r := ((s.output o).set raw src fb).enable raw.enabled s.vout
    let t := ((s.setOutput o r).mapVout VideoOut.settleStaged).refreshOutput o
    (t, .ok (decide (Config.flashAdvanceMax < raw.flashAdvance)
        || decide (clampTo 1 4 raw.flashFrames ≠ raw.flashFrames)) (.output (t.output o)))
  | _, _, _ => refuse s .badValue

/-- OUTPUT_SET_WRITE (R158). -/
def execOutputSetWrite (tag output : Nat) (raw : RawOutput) (s : State) :
    Host.Outcome State Fault Refusal :=
  serve 0x48 tag true (actOutputSetWrite output raw) s

/-- OUTPUT_OWN_FRAME_START (R160): the time since the output's last frame start comes with the command
(log 25). -/
def execOutputOwnFrameStart (o : OutputNo) (micros : Nat) (s : State) :
    Host.Outcome State Fault Refusal :=
  command (fun s => s.ownFrame o micros) s

/-! ## Palette and overlay (R161, R164, R165) -/

/-- R161: PALETTE; a level is a byte of its frame. -/
def actPalette (entry red green blue : Nat) (s : State) : State × Answer :=
  match colourNo entry with
  | some e =>
    (s.mapVout fun v => { v with palette := v.palette.set e.val ⟨red, green, blue⟩ e.isLt },
      .ok false .empty)
  | none => refuse s .badValue

/-- PALETTE (R161). -/
def execPalette (tag entry red green blue : Nat) (s : State) : Host.Outcome State Fault Refusal :=
  serve 0x4B tag true (actPalette entry red green blue) s

/-- R164: OVERLAY_PUT with item FIELD. -/
def actOverlayPutField (field : Nat) (raw : RawField) (s : State) : State × Answer :=
  match OverlayField.ofCode field with
  | none => refuse s .badValue
  | some f =>
    match readField f raw with
    | none => refuse s .badValue
    | some (r, down, clamped) =>
      (s.mapVout fun v => { v with pendingLayout := v.pendingLayout.setField f r down },
        .ok clamped .empty)

/-- OVERLAY_PUT_FIELD (R164). -/
def execOverlayPutField (tag field : Nat) (raw : RawField) (s : State) :
    Host.Outcome State Fault Refusal :=
  serve 0x49 tag true (actOverlayPutField field raw) s

/-- R164: OVERLAY_PUT with item BANNER_TEXT. -/
def actOverlayPutBannerText (text : Text) (s : State) : State × Answer :=
  if Text.printable text then (s.mapVout fun v => { v with bannerText := text }, .ok false .empty)
  else refuse s .badValue

/-- OVERLAY_PUT_BANNER_TEXT (R164). A text longer than 16 characters is a length fault (log 26). -/
def execOverlayPutBannerText (tag : Nat) (text : Text) (s : State) :
    Host.Outcome State Fault Refusal :=
  serve 0x49 tag (decide (text.length ≤ 16)) (actOverlayPutBannerText text) s

/-- R165: the pending layout staged, with adoption due on every enabled output. -/
def VideoOut.stage (v : VideoOut) : VideoOut :=
  { v with
    staged := some v.pendingLayout
    outputs := v.outputs.map fun r => { r with adoptionDue := r.enabled } }

/-- R165: OVERLAY_COMMIT. -/
def actOverlayCommit (s : State) : State × Answer :=
  let t := s.mapVout fun v => v.stage.settleStaged
  (t, .ok false (.adoptions t.vout.adoptions))

/-- OVERLAY_COMMIT (R165). -/
def execOverlayCommit (tag : Nat) (s : State) : Host.Outcome State Fault Refusal :=
  serve 0x4A tag true actOverlayCommit s

end Sys2Proof.Machine
end

