-- ==== Sys2Proof/Machine/PortRequests.lean ====
section
/-! DEFINITION. The Control Port's own requests (R173 to R175), and the request a command stands for: its
kind, its tag, whether its length fits its own counts, and its owner's judgement. -/

namespace Sys2Proof.Machine

/-! ## NOTICE_MASK, STATUS, RESTART -/

/-- The notice mask as NOTICE_MASK replies with it. -/
def maskReply (s : State) : State × Answer := (s, .ok false (.noticeMask s.port.mask))

/-- R173: NOTICE_MASK with action READ. -/
def actNoticeMaskRead (s : State) : State × Answer := maskReply s

/-- NOTICE_MASK_READ (R173). -/
def execNoticeMaskRead (tag : Nat) (s : State) : Host.Outcome State Fault Refusal :=
  serve 0x02 tag true actNoticeMaskRead s

/-- R173: NOTICE_MASK with action WRITE; bits 13 to 15 are ignored. -/
def actNoticeMaskWrite (mask : BitVec 16) (s : State) : State × Answer :=
  maskReply { s with port := { s.port with mask := mask.extractLsb' 0 13 } }

/-- NOTICE_MASK_WRITE (R173). -/
def execNoticeMaskWrite (tag : Nat) (mask : BitVec 16) (s : State) : Host.Outcome State Fault Refusal :=
  serve 0x02 tag true (actNoticeMaskWrite mask) s

/-- Table 10.7: the number of links UP that `p` holds of. -/
def State.countUp (s : State) (p : Link → Bool) : Nat :=
  (allStations.filter fun n => (s.ch n).isUp && p (s.ch n).link).length

/-- R174: the STATUS record; its own place counts as held. -/
def State.statusRecord (s : State) : StatusRecord where
  S := s.time.S
  lastReset := s.port.lastReset
  showState := s.ctl.state
  mode := s.cue.mode
  clockState := s.time.clockState
  edit := s.cue.edit
  serial := s.cue.serial
  standby := s.cue.standby
  running := s.cue.running.map RunningCue.number
  lost := s.port.lost
  noticesQueued := s.port.notices.length
  placesFree := Config.requestPlaces - (s.port.placesHeld + 1)
  lineRate := s.port.lineRate
  linksUp := s.countUp fun _ => true
  linksReduced := s.countUp fun l => decide (l.rate = .reduced)
  inEffect := s.vin.selection.inEffect
  stopRecord := s.ctl.stopRecord.isSome

/-- R174: STATUS, which then clears the lost flag. -/
def actStatus (s : State) : State × Answer :=
  ({ s with port := { s.port with lost := false } }, .ok false (.status s.statusRecord))

/-- STATUS (R174). -/
def execStatus (tag : Nat) (s : State) : Host.Outcome State Fault Refusal := serve 0x01 tag true actStatus s

/-- R175: RESTART decoded: its reply is made, and nothing more is decoded. -/
def actRestart (s : State) : State × Answer :=
  ({ s with port := { s.port with restarting := true } }, .ok false .empty)

/-- RESTART (R175). -/
def execRestart (tag : Nat) (s : State) : Host.Outcome State Fault Refusal := serve 0x03 tag true actRestart s

/-! ## Requests (R170) -/

/-- A request as the Control Port hands it to its owner (R170). -/
structure Request where
  kind : Nat
  tag : Nat
  lengthOk : Bool
  owner : State → State × Answer

/-- R170: the request a command stands for; none for the commands that are no request. -/
def requestOf : Instr → Option Request
  | .clockQuery t => some ⟨0x08, t, true, actClockQuery⟩
  | .clockSelectWord t => some ⟨0x08, t, true, actClockSelectWord⟩
  | .clockSelectInternal t => some ⟨0x08, t, true, actClockSelectInternal⟩
  | .beginEdit t => some ⟨0x10, t, true, actBeginEdit⟩
  | .putCue t c =>
    some ⟨0x11, t, decide (c.label.length ≤ 12 ∧ c.text.length ≤ 16), fun s => s.whenOpen (actPutCue c)⟩
  | .deleteCue t n => some ⟨0x12, t, true, fun s => s.whenOpen (actDeleteCue n)⟩
  | .putMap t m k d gs => some ⟨0x13, t, true, fun s => s.whenOpen (actPutMap m k d gs)⟩
  | .deleteMap t m => some ⟨0x14, t, true, fun s => s.whenOpen (actDeleteMap m)⟩
  | .commitEdit t => some ⟨0x15, t, true, fun s => s.whenOpen actCommitEdit⟩
  | .abandonEdit t => some ⟨0x16, t, true, actAbandonEdit⟩
  | .cueQuerySummary t src => some ⟨0x1B, t, true, actCueQuerySummary src⟩
  | .cueQueryCue t src n =>
    some ⟨0x1B, t, true, fun s => s.fromSource src fun _ b => cueReply s (b.cue? n)⟩
  | .cueQueryNextCue t src n =>
    some ⟨0x1B, t, true, fun s => s.fromSource src fun _ b => cueReply s (b.after n)⟩
  | .cueQueryMap t src m k => some ⟨0x1B, t, true, actCueQueryMap src m k⟩
  | .cueQueryRun t src => some ⟨0x1B, t, true, actCueQueryRun src⟩
  | .go t n => some ⟨0x18, t, true, actGo n⟩
  | .goto t n => some ⟨0x19, t, true, actGoto n⟩
  | .lockoutSet t ms => some ⟨0x1C, t, true, actLockoutSet ms⟩
  | .release t => some ⟨0x1A, t, true, actRelease⟩
  | .silenceSet t k => some ⟨0x28, t, true, actSilenceSet k⟩
  | .startPreshow t => some ⟨0x20, t, true, actStartPreshow⟩
  | .hold t => some ⟨0x21, t, true, actHold⟩
  | .continueShow t k => some ⟨0x22, t, true, actContinue k⟩
  | .stoplineSet t m q => some ⟨0x27, t, true, actStoplineSet m q⟩
  | .stop t => some ⟨0x23, t, true, actStop⟩
  | .resume t c b k => some ⟨0x24, t, true, actResume c b k⟩
  | .endShow t => some ⟨0x25, t, true, actEndShow⟩
  | .stopQuery t => some ⟨0x26, t, true, actStopQuery⟩
  | .stationSet t n a => some ⟨0x30, t, decide (a.name.length ≤ 8), actStationSet n a⟩
  | .retrain t n => some ⟨0x33, t, true, actRetrain n⟩
  | .lamp t n p => some ⟨0x32, t, true, actLamp n p⟩
  | .linkTest t n => some ⟨0x34, t, true, actLinkTest t n⟩
  | .stationParamRead t n k => some ⟨0x35, t, true, actStationParam t n k none⟩
  | .stationParamWrite t n k v => some ⟨0x35, t, true, actStationParam t n k (some v)⟩
  | .stationQuery t n => some ⟨0x31, t, true, actStationQuery n⟩
  | .formatPutRead t e => some ⟨0x41, t, true, actFormatPutRead e⟩
  | .formatPutWrite t e f => some ⟨0x41, t, true, actFormatPutWrite e f⟩
  | .inputSetRead t a => some ⟨0x40, t, true, actInputSetRead a⟩
  | .inputSetWrite t a m e l u => some ⟨0x40, t, true, actInputSetWrite a m e l u⟩
  | .select t m h => some ⟨0x42, t, true, actSelect m h⟩
  | .outputSetRead t o => some ⟨0x48, t, true, actOutputSetRead o⟩
  | .outputSetWrite t o r => some ⟨0x48, t, true, actOutputSetWrite o r⟩
  | .palette t e r g b => some ⟨0x4B, t, true, actPalette e r g b⟩
  | .overlayPutField t f r => some ⟨0x49, t, true, actOverlayPutField f r⟩
  | .overlayPutBannerText t x => some ⟨0x49, t, decide (x.length ≤ 16), actOverlayPutBannerText x⟩
  | .overlayCommit t => some ⟨0x4A, t, true, actOverlayCommit⟩
  | .noticeMaskRead t => some ⟨0x02, t, true, actNoticeMaskRead⟩
  | .noticeMaskWrite t m => some ⟨0x02, t, true, actNoticeMaskWrite m⟩
  | .status t => some ⟨0x01, t, true, actStatus⟩
  | .restart t => some ⟨0x03, t, true, actRestart⟩
  | .powerUp .. | .wordClockEdge | .internalPeriod | .missingEdgeEvent | .rateWindowEnd
  | .beatProduction | .changeDue | .mapEnd | .holdReached | .continueReached | .resumeReached
  | .silenceEnd | .idleMark _ | .patchDeadline _ | .ackTimeout _ | .stopLineActive
  | .stopLineInactive | .qualifierTimerExpiry | .settingsRefresh _ | .statusFrame .. | .seekBurst _
  | .seekAnswer _ | .seekHoldEnd _ | .pageRepeat _ | .pageTimeout _ | .identReply .. | .abilityReply ..
  | .delayProbeReply .. | .settingsReply .. | .readyReply .. | .linkSilence _
  | .backChannelCheckError _ | .errorWindowEnd _ | .eventSendPoint _ | .testFrameSend _ | .testEcho ..
  | .testEchoTimeout .. | .relayAnswer .. | .relayTimeout _ | .syncEdge _ | .syncWatchExpiry _
  | .inputFrameStart .. | .missingWatchExpiry _ | .returnTime | .outputOwnFrameStart ..
  | .byteReceived .. | .byteGapExpiry | .frameSent | .tapOrFreeSegmentStart => none

/-- The request kinds of Table 10.4 (R170). -/
def isRequestKind (k : Nat) : Bool :=
  decide (k ∈ [0x01, 0x02, 0x03, 0x08, 0x10, 0x11, 0x12, 0x13, 0x14, 0x15, 0x16, 0x18, 0x19, 0x1A, 0x1B,
    0x1C, 0x20, 0x21, 0x22, 0x23, 0x24, 0x25, 0x26, 0x27, 0x28, 0x30, 0x31, 0x32, 0x33, 0x34, 0x35, 0x40,
    0x41, 0x42, 0x48, 0x49, 0x4A, 0x4B])

end Sys2Proof.Machine
end

