-- ==== Sys2Proof/Machine/ControlPort.lean ====
section
/-! DEFINITION. The Control Port's line (10): the frame assembler, decoding from bytes, the transmitter,
and the two resets of the whole part: BYTE_RECEIVED, BYTE_GAP_EXPIRY, FRAME_SENT, POWER_UP. -/

namespace Sys2Proof.Machine

/-! ## Payloads of requests (R170, 10 section 10.7) -/

/-- R170: a payload that has to be empty. -/
def emptyPayload (p : List Byte) (i : Instr) : PayloadReading := if p = [] then .request i else .badLength

/-- Table 10.6: a payload of one 3-byte cue number. -/
def cuePayload (p : List Byte) (i : Nat → Instr) : PayloadReading :=
  if p.length = 3 then .request (i (valueOf p)) else .badLength

/-- R173: the payload of NOTICE_MASK: READ 0, or WRITE 1 with the mask in two bytes; any other action is refused
with BAD_VALUE whatever the length of what follows it (log 50). -/
def maskPayload (tag : Nat) (p : List Byte) : PayloadReading :=
  match p with
  | [] => .badLength
  | a :: rest =>
    if a.toNat = 0 then emptyPayload rest (.noticeMaskRead tag)
    else if a.toNat = 1 then
      if rest.length = 2 then .request (.noticeMaskWrite tag (BitVec.ofNat 16 (valueOf rest)))
      else .badLength
    else .badValue

/-- The values of the action, subject or item of a request kind that carries one: Table 1.5 (CLOCK), Table 3.7
(CUE_QUERY), and READ and WRITE, or FIELD and BANNER_TEXT, counted from 0 (log 31). -/
def codeCount (kind : Nat) : Option Nat :=
  match kind with
  | 0x08 => some 3
  | 0x1B => some 5
  | 0x35 | 0x40 | 0x41 | 0x48 | 0x49 => some 2
  | _ => none

/-- The action, subject or item a request row stands for; none for a row whose kind carries none. -/
def codeOf : Instr → Option Nat
  | .clockQuery .. | .cueQuerySummary .. | .stationParamRead .. | .inputSetRead .. | .formatPutRead ..
  | .outputSetRead .. | .overlayPutField .. => some 0
  | .clockSelectWord .. | .cueQueryCue .. | .stationParamWrite .. | .inputSetWrite ..
  | .formatPutWrite .. | .outputSetWrite .. | .overlayPutBannerText .. => some 1
  | .clockSelectInternal .. | .cueQueryNextCue .. => some 2
  | .cueQueryMap .. => some 3
  | .cueQueryRun .. => some 4
  | _ => none

/-- R170: a payload that the free layout reads, of which it must make a request with code `code`. -/
def layoutPayload (kind tag : Nat) (code : Option Nat) (p : List Byte) : PayloadReading :=
  match Config.requestLayout kind tag p with
  | none => .badLength
  | some i => if codeOf i = code then .request i else .badLength

/-- 01 section 1.4, R64, R143, R153, R158: the payload of a request that carries an action, subject or item:
a value outside the request's own is refused with BAD_VALUE (log 50). -/
def codedPayload (kind tag values : Nat) (p : List Byte) : PayloadReading :=
  match Config.requestCode kind p with
  | none => .badLength
  | some c => if c < values then layoutPayload kind tag (some c) p else .badValue

/-- R170: the payload of a request kind read into a request. The layouts of the kinds not named here are
free (log 8). -/
def readPayload (kind tag : Nat) (p : List Byte) : PayloadReading :=
  match kind with
  | 0x01 => emptyPayload p (.status tag)
  | 0x02 => maskPayload tag p
  | 0x03 => emptyPayload p (.restart tag)
  | 0x10 => emptyPayload p (.beginEdit tag)
  | 0x15 => emptyPayload p (.commitEdit tag)
  | 0x16 => emptyPayload p (.abandonEdit tag)
  | 0x18 => cuePayload p (.go tag)
  | 0x19 => cuePayload p (.goto tag)
  | 0x1A => emptyPayload p (.release tag)
  | 0x20 => emptyPayload p (.startPreshow tag)
  | 0x21 => emptyPayload p (.hold tag)
  | 0x23 => emptyPayload p (.stop tag)
  | 0x25 => emptyPayload p (.endShow tag)
  | 0x26 => emptyPayload p (.stopQuery tag)
  | 0x4A => emptyPayload p (.overlayCommit tag)
  | _ =>
    match codeCount kind with
    | some values => codedPayload kind tag values p
    | none => layoutPayload kind tag none p

/-- R170: a reading judged: its length, then its request handed to its owner. A reading that is not of the
frame's own kind and tag is no layout of that kind. -/
def judgeReading (kind tag : Nat) (r : PayloadReading) (s : State) : State × Answer :=
  match r with
  | .badLength => refuse s .badLength
  | .badValue => refuse s .badValue
  | .request i =>
    match requestOf i with
    | none => refuse s .badLength
    | some q =>
      if q.kind = kind ∧ q.tag = tag ∧ q.lengthOk = true then q.owner s else refuse s .badLength

/-- R170: decoding of a valid frame: its kind, its tag, its length, then its owner. -/
def decodeFrame (kind tag : Nat) (p : List Byte) (s : State) : State × Answer :=
  if isRequestKind kind = false then refuse s .badKind
  else if tag = 0 then refuse s .badValue
  else judgeReading kind tag (readPayload kind tag p) s

/-! ## The frame assembler (R169) -/

/-- R169: the assembler in HUNT with no frame in progress. -/
def ControlPort.hunt (p : ControlPort) : ControlPort :=
  { p with phase := .hunt, bytes := [], expected := 0, lastByteAt := none }

/-- R169: a frame abandoned with REJECT BAD_FRAME and tag 0. -/
def ControlPort.abandon (p : ControlPort) : ControlPort := p.hunt.reject .badFrame 0

/-- R169: a byte stored, with the phase and count it leaves. -/
def ControlPort.take (p : ControlPort) (b : Byte) (S : Sample) (ph : Phase) (left : Nat) : ControlPort :=
  { p with phase := ph, bytes := p.bytes ++ [b], expected := left, lastByteAt := some S }

/-- R169: the payload length of the frame in progress, its first byte. -/
def ControlPort.payloadLength (p : ControlPort) : Nat := (p.bytes.headD 0).toNat

/-- R169: a byte of the header. -/
def ControlPort.headerByte (p : ControlPort) (b : Byte) (S : Sample) : ControlPort :=
  if p.expected = 3 ∧ Config.payloadMax < b.toNat then p.abandon
  else if 1 < p.expected then p.take b S .header (p.expected - 1)
  else if p.payloadLength = 0 then p.take b S .check 2
  else p.take b S .body p.payloadLength

/-- R169: a byte of the payload. -/
def ControlPort.bodyByte (p : ControlPort) (b : Byte) (S : Sample) : ControlPort :=
  if 1 < p.expected then p.take b S .body (p.expected - 1) else p.take b S .check 2

/-- R169: the bytes of a complete frame from LENGTH on, its two check bytes last. -/
def State.completeFrame (s : State) (bytes : List Byte) : State :=
  let s1 := { s with port := s.port.hunt }
  let body := bytes.take (bytes.length - 2)
  if checkBytes body = bytes.drop (bytes.length - 2) then
    let kind := (body.getD 1 0).toNat
    let tag := (body.getD 2 0).toNat
    takeFrame kind tag (decodeFrame kind tag (body.drop 3)) s1
  else { s1 with port := s1.port.reject .badFrame 0 }

/-- R169, R175: a received byte, with a stop bit or without, taken by the phase; in HUNT the stop bit is
not judged (log 29). -/
def actByteReceived (b : Byte) (stopBit : Bool) (s : State) : State :=
  if s.port.restarting then s
  else
    match s.port.phase with
    | .hunt =>
      if b = Config.syncByte then
        { s with
          port := { s.port with
            phase := .header, bytes := [], expected := 3, lastByteAt := some s.time.S } }
      else s
    | .header =>
      if stopBit then { s with port := s.port.headerByte b s.time.S } else { s with port := s.port.abandon }
    | .body =>
      if stopBit then { s with port := s.port.bodyByte b s.time.S } else { s with port := s.port.abandon }
    | .check =>
      if stopBit = false then { s with port := s.port.abandon }
      else if 1 < s.port.expected then
        { s with port := s.port.take b s.time.S .check (s.port.expected - 1) }
      else s.completeFrame (s.port.bytes ++ [b])

/-- BYTE_RECEIVED (R169). -/
def execByteReceived (b : Byte) (stopBit : Bool) (s : State) : Host.Outcome State Fault Refusal :=
  command (actByteReceived b stopBit) s

/-- R169: the sample at which the frame in progress is abandoned. -/
def ControlPort.gapEnd (p : ControlPort) : Option Sample :=
  match p.phase with
  | .hunt => none
  | .header | .body | .check => p.lastByteAt.map (· + Config.byteGap)

/-- BYTE_GAP_EXPIRY (R169): the frame in progress abandoned with no answer. -/
def execByteGapExpiry (s : State) : Host.Outcome State Fault Refusal :=
  command (fun s => s.whenReached s.port.gapEnd fun x => { x with port := x.port.hunt }) s

/-! ## RESTART across the part (R175) -/

/-- R1 to R6 at RESTART: all kept but the pending switch. -/
def Timebase.restart (t : Timebase) : Timebase := { t with pendingSwitch := none }

/-- R47, R54, R65 at RESTART: the show book and its serial kept. -/
def CueEngine.restart (c : CueEngine) : CueEngine :=
  { CueEngine.powerUp with book := c.book, serial := c.serial }

/-- R80, R100, R108 at RESTART: the stop record and the polarity kept, the line judged afresh at `S`. -/
def ShowControl.restart (c : ShowControl) (S : Sample) : ShowControl :=
  { ShowControl.powerUp c.activeOpen c.lineActive with
    stopRecord := c.stopRecord
    timerEnd := if c.lineActive then some (S + Config.samplesPerMs * Config.qualifyDefault) else none
    silenceEnd := some (S + Config.silenceLimitDefault * Config.silenceUnit) }

/-- R119, R123 at RESTART: the assigned part and the serial last UP kept. -/
def Channel.restart (c : Channel) : Channel :=
  ⟨c.assigned, Reported.cleared, { Link.powerUp with serialLastUp := c.link.serialLastUp }⟩

/-- R147 at RESTART: the settings kept. -/
def InputRecord.restart (r : InputRecord) : InputRecord :=
  { InputRecord.powerUp with mode := r.mode, lockCount := r.lockCount, unlockCount := r.unlockCount }

/-- R154, R155 at RESTART: the mode and the hold kept, and the choice made afresh and in effect at once,
neither input being LOCKED. -/
def Selection.restart (x : Selection) : Selection :=
  let choice := if x.mode = .forceB then Input.b else Input.a
  { Selection.powerUp with mode := x.mode, hold := x.hold, chosen := some choice, inEffect := some choice }

/-- R145, R147, R154 at RESTART: the format table kept. -/
def VideoIn.restart (v : VideoIn) : VideoIn :=
  ⟨v.formats, v.inputA.restart, v.inputB.restart, v.selection.restart, none, false⟩

/-- R123: a station in use set to SEEK, its first burst sent at once. -/
def State.reseek (n : Station) (s : State) : State :=
  if (s.ch n).inUse then s.enterSeek n none else s

/-- R175: the RESTART takes place: every block at its RESTART values. -/
def State.restart (s : State) : State :=
  let t : State :=
    { s with
      time := s.time.restart
      click := ClickEngine.powerUp
      cue := s.cue.restart
      patches := Vector.replicate 24 PatchRecord.powerUp
      ctl := s.ctl.restart s.time.S
      chan := s.chan.map Channel.restart
      vin := s.vin.restart
      vout := VideoOut.afterReset s.vout.committed
      port := ControlPort.afterReset s.port.lineRate .restart
      reports := [] }
  forAll State.reseek t

/-! ## The transmitter (R172) -/

/-- The reply is the OK reply of a RESTART (R175). -/
def Reply.restarts (r : Reply) : Bool :=
  decide (r.kind = 0x03) &&
    match r.answer with
    | .ok .. => true
    | .refused .. | .deferred => false

/-- R172: the frame being sent has left: its place or notice is freed. -/
def State.freeSent (s : State) (replies : List Reply) (notices : List Notice) : State :=
  { s with port := { s.port with sending := none, replies := replies, notices := notices } }

/-- R172, R175: the last byte of the frame being sent; with that of a RESTART's reply the RESTART takes
place. -/
def actFrameSent (s : State) : State :=
  let p := s.port
  match p.sending with
  | none => s
  | some (.reject r) => (s.emit (.serial (.reject r))).freeSent p.replies p.notices
  | some .reply =>
    match p.replies with
    | [] => s.freeSent [] p.notices
    | r :: rs =>
      let t := (s.emit (.serial (.reply r))).freeSent rs p.notices
      if r.restarts then t.restart else t
  | some .notice =>
    match p.notices with
    | [] => s.freeSent p.replies []
    | n :: ns => (s.emit (.serial (.notice n))).freeSent p.replies ns

/-- FRAME_SENT (R172). -/
def execFrameSent (s : State) : Host.Outcome State Fault Refusal := command actFrameSent s

/-! ## POWER_UP -/

/-- Table 6.4: the stop line is active with the contact closed under ACTIVE_CLOSED, and with it open under
ACTIVE_OPEN. -/
def lineLevel (straps : Straps) (contactClosed : Bool) : Bool := contactClosed != straps.activeOpen

/-- POWER_UP (R1, 00 section 0.5): the straps and the stop line are read and all state takes its power-up
value; the commands that wait are not the part's (log 37). -/
def execPowerUp (straps : Straps) (contactClosed : Bool) (s : State) :
    Host.Outcome State Fault Refusal :=
  .next (State.powerUp straps (lineLevel straps contactClosed) s.pending)

end Sys2Proof.Machine
end

