-- ==== Sys2Proof/Machine/Engine.lean ====
section
/-! DEFINITION. The Click Engine's events as commands (02): BEAT_PRODUCTION, CHANGE_DUE, MAP_END,
TAP_OR_FREE_SEGMENT_START, HOLD_REACHED, CONTINUE_REACHED and RESUME_REACHED. -/

namespace Sys2Proof.Machine

/-- The value of S at which S + HORIZON reaches `x`. -/
def beforeHorizon (x : Sample) : Sample := x - Config.horizon

/-- The value of S at which the engine's next move is made, when it is of kind `m` (R26). -/
def ClickEngine.moveAt (e : ClickEngine) (m : Move) : Option Sample :=
  match e.next with
  | some (k, x) => if k = m then some (beforeHorizon x) else none
  | none => none

/-- BEAT_PRODUCTION (R26). -/
def execBeatProduction (s : State) : Host.Outcome State Fault Refusal :=
  command (fun s => s.whenReached (s.click.moveAt .beat) fun x => settle x.produceBeat) s

/-- CHANGE_DUE (R34): the limit comes within the horizon, and the cue in flight is handed over (R73). -/
def execChangeDue (s : State) : Host.Outcome State Fault Refusal :=
  command
    (fun s => s.whenReached (s.click.limit.map beforeHorizon) fun x => settle (x.report .changeDue)) s

/-- MAP_END (R36). -/
def execMapEnd (s : State) : Host.Outcome State Fault Refusal :=
  command (fun s => s.whenReached (s.click.moveAt .mapEnd) fun x => settle (x.report .mapEnd)) s

/-- TAP_OR_FREE_SEGMENT_START (R23). -/
def execTapOrFreeSegmentStart (s : State) : Host.Outcome State Fault Refusal :=
  command (fun s => s.whenReached (s.click.moveAt .start) fun x => settle x.startSegment) s

/-- R42: hold-reached at the hold point. -/
def actHoldReached (s : State) : State :=
  match s.click.holdPoint with
  | some x => s.whenReached (some x) (State.holdReached x)
  | none => s

/-- HOLD_REACHED (R42). -/
def execHoldReached (s : State) : Host.Outcome State Fault Refusal := command actHoldReached s

/-- The returned beat of kind `k` still to be reported (R43, R45). -/
def ClickEngine.reachAt (e : ClickEngine) (k : ReachKind) : Option Sample :=
  match e.reach with
  | some r => if r.kind = k then some r.at_ else none
  | none => none

/-- R106: S reaches the continued beat. -/
def actContinueReached (s : State) : State :=
  match s.click.reachAt .continued with
  | some x => s.whenReached (some x) fun t => t.continueReached x
  | none => s

/-- CONTINUE_REACHED (R106). -/
def execContinueReached (s : State) : Host.Outcome State Fault Refusal := command actContinueReached s

/-- R116: S reaches the target bar. -/
def actResumeReached (s : State) : State :=
  match s.click.reachAt .resumed with
  | some x => s.whenReached (some x) fun t => t.resumeReached x
  | none => s

/-- RESUME_REACHED (R116). -/
def execResumeReached (s : State) : Host.Outcome State Fault Refusal := command actResumeReached s

end Sys2Proof.Machine
end

