-- ==== Sys2Proof/Machine/StatusFrame.lean ====
section
/-! DEFINITION. STATUS_FRAME: the items of a valid status frame and the judgement of MD inputs (R122,
R130, R141). -/

namespace Sys2Proof.Machine

/-- R141: a TAP input from the station with role MD. -/
def State.mdTap (s : State) (enabled : Bool) (stamp : Sample) : State × MdOutcome :=
  if !enabled then (s, .disabled)
  else if s.click.takesTap then (s.takeTap stamp, .taken)
  else (s, .notTaken)

/-- R141: an MD input judged by its judge, with the station's enable for it. -/
def State.judgeInput (s : State) (e : MdEnables) (i : MdInput) : State × MdOutcome :=
  match i.kind with
  | .go => s.mdGo e.go
  | .tap => s.mdTap e.tap i.stamp
  | .release => s.mdRelease e.release
  | .hold => s.mdHold e.hold
  | .stopCall => s.mdStop e.stopCall

/-- R141: one MD input of station `n`, with its MD_INPUT notice once judged (log 17). -/
def State.mdInput (n : Station) (s : State) (i : MdInput) : State :=
  let a := (s.ch n).assigned
  let r := if a.role = .md then s.judgeInput a.md i else (s, .notMd)
  r.1.offer (.mdInput n i s.time.S r.2)

/-- R130: the silence end restarted. -/
def State.restartLinkSilence (s : State) (n : Station) : State :=
  s.mapLink n fun l => { l with silenceEnd := some (s.time.S + Config.silenceLoss) }

/-- R122 items 2 and 3: the patches reported. -/
def State.patchReports (s : State) (n : Station) (items : StatusItems) : State :=
  let s1 := items.patchDone.foldl (State.patchDone n) s
  match items.localChange with
  | some p => s1.localChange n p
  | none => s1

/-- R122, R130: the items of a status frame, in the order of the rule; taken only while the link is UP. -/
def actStatusFrame (n : Station) (items : StatusItems) (s : State) : State :=
  if (s.ch n).isUp then
    let s1 := ((s.restartLinkSilence n).setReported n items.report).patchReports n items
    items.mdInputs.foldl (State.mdInput n) (s1.heldReport n items.held)
  else s

/-- STATUS_FRAME (R122). -/
def execStatusFrame (n : Station) (items : StatusItems) (s : State) :
    Host.Outcome State Fault Refusal :=
  command (actStatusFrame n items) s

end Sys2Proof.Machine
end

