-- ==== Sys2Proof/Machine/Dispatch.lean ====
section
/-! DEFINITION. The meaning of every command: one arm, and one direct call of a meaning, for each. -/

namespace Sys2Proof.Machine

/-- A command's effect on everything but the queue of commands. -/
def exec (i : Instr) (s : State) : Host.Outcome State Fault Refusal :=
  match i with
  | .powerUp straps contactClosed => Sys2Proof.Machine.execPowerUp straps contactClosed s
  | .wordClockEdge => Sys2Proof.Machine.execWordClockEdge s
  | .internalPeriod => Sys2Proof.Machine.execInternalPeriod s
  | .missingEdgeEvent => Sys2Proof.Machine.execMissingEdgeEvent s
  | .rateWindowEnd => Sys2Proof.Machine.execRateWindowEnd s
  | .clockQuery tag => Sys2Proof.Machine.execClockQuery tag s
  | .clockSelectWord tag => Sys2Proof.Machine.execClockSelectWord tag s
  | .clockSelectInternal tag => Sys2Proof.Machine.execClockSelectInternal tag s
  | .beatProduction => Sys2Proof.Machine.execBeatProduction s
  | .changeDue => Sys2Proof.Machine.execChangeDue s
  | .mapEnd => Sys2Proof.Machine.execMapEnd s
  | .holdReached => Sys2Proof.Machine.execHoldReached s
  | .continueReached => Sys2Proof.Machine.execContinueReached s
  | .resumeReached => Sys2Proof.Machine.execResumeReached s
  | .beginEdit tag => Sys2Proof.Machine.execBeginEdit tag s
  | .putCue tag cue => Sys2Proof.Machine.execPutCue tag cue s
  | .deleteCue tag number => Sys2Proof.Machine.execDeleteCue tag number s
  | .putMap tag map first declared segments => Sys2Proof.Machine.execPutMap tag map first declared segments s
  | .deleteMap tag map => Sys2Proof.Machine.execDeleteMap tag map s
  | .commitEdit tag => Sys2Proof.Machine.execCommitEdit tag s
  | .abandonEdit tag => Sys2Proof.Machine.execAbandonEdit tag s
  | .cueQuerySummary tag source => Sys2Proof.Machine.execCueQuerySummary tag source s
  | .cueQueryCue tag source number => Sys2Proof.Machine.execCueQueryCue tag source number s
  | .cueQueryNextCue tag source number => Sys2Proof.Machine.execCueQueryNextCue tag source number s
  | .cueQueryMap tag source map first => Sys2Proof.Machine.execCueQueryMap tag source map first s
  | .cueQueryRun tag source => Sys2Proof.Machine.execCueQueryRun tag source s
  | .go tag expected => Sys2Proof.Machine.execGo tag expected s
  | .goto tag number => Sys2Proof.Machine.execGoto tag number s
  | .lockoutSet tag ms => Sys2Proof.Machine.execLockoutSet tag ms s
  | .release tag => Sys2Proof.Machine.execRelease tag s
  | .silenceEnd => Sys2Proof.Machine.execSilenceEnd s
  | .silenceSet tag limit => Sys2Proof.Machine.execSilenceSet tag limit s
  | .idleMark station => Sys2Proof.Machine.execIdleMark station s
  | .patchDeadline station => Sys2Proof.Machine.execPatchDeadline station s
  | .ackTimeout station => Sys2Proof.Machine.execAckTimeout station s
  | .startPreshow tag => Sys2Proof.Machine.execStartPreshow tag s
  | .hold tag => Sys2Proof.Machine.execHold tag s
  | .continueShow tag countIn => Sys2Proof.Machine.execContinue tag countIn s
  | .stopLineActive => Sys2Proof.Machine.execStopLineActive s
  | .stopLineInactive => Sys2Proof.Machine.execStopLineInactive s
  | .qualifierTimerExpiry => Sys2Proof.Machine.execQualifierTimerExpiry s
  | .stoplineSet tag mode time => Sys2Proof.Machine.execStoplineSet tag mode time s
  | .stop tag => Sys2Proof.Machine.execStop tag s
  | .resume tag cue bar countIn => Sys2Proof.Machine.execResume tag cue bar countIn s
  | .endShow tag => Sys2Proof.Machine.execEndShow tag s
  | .stopQuery tag => Sys2Proof.Machine.execStopQuery tag s
  | .stationSet tag station assigned => Sys2Proof.Machine.execStationSet tag station assigned s
  | .settingsRefresh station => Sys2Proof.Machine.execSettingsRefresh station s
  | .statusFrame station items => Sys2Proof.Machine.execStatusFrame station items s
  | .seekBurst station => Sys2Proof.Machine.execSeekBurst station s
  | .seekAnswer station => Sys2Proof.Machine.execSeekAnswer station s
  | .seekHoldEnd station => Sys2Proof.Machine.execSeekHoldEnd station s
  | .pageRepeat station => Sys2Proof.Machine.execPageRepeat station s
  | .pageTimeout station => Sys2Proof.Machine.execPageTimeout station s
  | .identReply station toggle kind serial => Sys2Proof.Machine.execIdentReply station toggle kind serial s
  | .abilityReply station toggle offersFull offersReduced hasRig => Sys2Proof.Machine.execAbilityReply station toggle offersFull offersReduced hasRig s
  | .delayProbeReply station toggle stamp turnaround => Sys2Proof.Machine.execDelayProbeReply station toggle stamp turnaround s
  | .settingsReply station toggle report patch h => Sys2Proof.Machine.execSettingsReply station toggle report patch h s
  | .readyReply station toggle => Sys2Proof.Machine.execReadyReply station toggle s
  | .linkSilence station => Sys2Proof.Machine.execLinkSilence station s
  | .backChannelCheckError station => Sys2Proof.Machine.execBackChannelCheckError station s
  | .errorWindowEnd station => Sys2Proof.Machine.execErrorWindowEnd station s
  | .retrain tag station => Sys2Proof.Machine.execRetrain tag station s
  | .eventSendPoint station => Sys2Proof.Machine.execEventSendPoint station s
  | .lamp tag station pattern => Sys2Proof.Machine.execLamp tag station pattern s
  | .linkTest tag station => Sys2Proof.Machine.execLinkTest tag station s
  | .testFrameSend station => Sys2Proof.Machine.execTestFrameSend station s
  | .testEcho station frame correct => Sys2Proof.Machine.execTestEcho station frame correct s
  | .testEchoTimeout station frame => Sys2Proof.Machine.execTestEchoTimeout station frame s
  | .stationParamRead tag station number => Sys2Proof.Machine.execStationParamRead tag station number s
  | .stationParamWrite tag station number value => Sys2Proof.Machine.execStationParamWrite tag station number value s
  | .relayAnswer station serial known value => Sys2Proof.Machine.execRelayAnswer station serial known value s
  | .relayTimeout station => Sys2Proof.Machine.execRelayTimeout station s
  | .stationQuery tag station => Sys2Proof.Machine.execStationQuery tag station s
  | .formatPutRead tag entry => Sys2Proof.Machine.execFormatPutRead tag entry s
  | .formatPutWrite tag entry format => Sys2Proof.Machine.execFormatPutWrite tag entry format s
  | .syncEdge input => Sys2Proof.Machine.execSyncEdge input s
  | .syncWatchExpiry input => Sys2Proof.Machine.execSyncWatchExpiry input s
  | .inputFrameStart input micros => Sys2Proof.Machine.execInputFrameStart input micros s
  | .missingWatchExpiry input => Sys2Proof.Machine.execMissingWatchExpiry input s
  | .inputSetRead tag address => Sys2Proof.Machine.execInputSetRead tag address s
  | .inputSetWrite tag address mode entry lockCount unlockCount => Sys2Proof.Machine.execInputSetWrite tag address mode entry lockCount unlockCount s
  | .returnTime => Sys2Proof.Machine.execReturnTime s
  | .select tag mode hold => Sys2Proof.Machine.execSelect tag mode hold s
  | .outputSetRead tag output => Sys2Proof.Machine.execOutputSetRead tag output s
  | .outputSetWrite tag output settings => Sys2Proof.Machine.execOutputSetWrite tag output settings s
  | .outputOwnFrameStart output micros => Sys2Proof.Machine.execOutputOwnFrameStart output micros s
  | .palette tag entry red green blue => Sys2Proof.Machine.execPalette tag entry red green blue s
  | .overlayPutField tag field record => Sys2Proof.Machine.execOverlayPutField tag field record s
  | .overlayPutBannerText tag text => Sys2Proof.Machine.execOverlayPutBannerText tag text s
  | .overlayCommit tag => Sys2Proof.Machine.execOverlayCommit tag s
  | .byteReceived byte stopBit => Sys2Proof.Machine.execByteReceived byte stopBit s
  | .byteGapExpiry => Sys2Proof.Machine.execByteGapExpiry s
  | .frameSent => Sys2Proof.Machine.execFrameSent s
  | .noticeMaskRead tag => Sys2Proof.Machine.execNoticeMaskRead tag s
  | .noticeMaskWrite tag mask => Sys2Proof.Machine.execNoticeMaskWrite tag mask s
  | .status tag => Sys2Proof.Machine.execStatus tag s
  | .restart tag => Sys2Proof.Machine.execRestart tag s
  | .tapOrFreeSegmentStart => Sys2Proof.Machine.execTapOrFreeSegmentStart s

end Sys2Proof.Machine
end

