-- ==== Sys2Proof/Safety.lean ====
section
/-! DEFINITION. What a safe run of the FB-2410 keeps: the invariants the manual states, and the words the
statements use for how a request is taken and how a command ends. -/

namespace Sys2Proof.Machine

/-! ## How a command begins and ends -/

/-- The state in which a command acts: nothing put out yet. -/
def State.quiet (s : State) : State := { s with emitted := [] }

/-- The state after a command's act: a free transmitter takes what waits (R172). -/
def State.done (t : State) : State := { t with port := t.port.arbitrate }

/-- The port takes and decodes a request with tag `tag` (R170, R175): no RESTART has been decoded, a place
of the request buffer is free, and the tag is not 0. -/
def State.admits (s : State) (tag : Nat) : Prop :=
  s.port.restarting = false ∧ s.port.placesHeld < Config.requestPlaces ∧ tag ≠ 0

/-- The state in which an owner judges a request: the two reports of the valid frame are made (R169). -/
def State.taken (s : State) : State := s.quiet.validFrame

/-- The state after a request of kind `kind` has been answered with `a`, its reply in the order of replies
and holding a place (R170, R171). -/
def State.replied (t : State) (kind tag : Nat) (a : Answer) : State :=
  { t with port := (t.port.answer ⟨kind, tag, a, true⟩).arbitrate }

/-- The state after a request that its owner refuses with `r`: nothing but its reply (00 section 0.5). -/
def State.refusedWith (s : State) (kind tag : Nat) (r : Reason) : State :=
  s.taken.replied kind tag (.refused r .none_)

/-- A step that answers a next state: the block never stops. -/
def State.Runs (s : State) : Prop := ∃ t, step s = .next t

/-! ## Words of the statements -/

/-- The clock record of R9, field by field. -/
def clockRecordOf (t : Timebase) : ClockRecord where
  clockState := t.clockState
  pendingSwitch := t.pendingSwitch.isSome
  wordPreferred := t.wordPreferred
  autoSwitch := t.autoSwitch
  edgesAbsent := t.edgesAbsent
  rateHz := t.lastWindowEdges * 10
  goodRun := t.goodRun
  at_ := t.S

/-- A tap list as R19 keeps it: at most 5 stamps, each 7,200 to 144,000 samples after the one before. -/
def TapsOrdered (taps : List Nat) : Prop :=
  taps.length ≤ 5 ∧ taps.IsChain fun a b => a + 7200 ≤ b ∧ b ≤ a + 144000

/-- R30, R31: a channel after a beat record has been handed to it: the click at the onset, at its accent
level or BEAT, and the subdivision clicks of the station's setting, at REDUCED no finer than 2. -/
def Channel.clicked (c : Channel) (b : BeatRecord) : Channel :=
  if c.assigned.click.enabled = true ∧ c.link.state = .up
      ∧ (c.assigned.click.countInOnly = true → b.countdown ≠ none) then
    { c with
      link := c.link.handAll
        (.click b.onset (if c.assigned.click.accent = true then b.level else .beat) ::
          (b.subs.pick (if c.link.rate = .reduced ∧ 2 < c.assigned.click.subdivision then 2
            else c.assigned.click.subdivision)).map fun x => .click x .sub) }
  else c

/-- R139: a channel after a beat record has been handed to its runners; there are runners on a link that is UP
alone. The CUE lamp's runner is taken before the STOP lamp's (the model's choice, log 69). -/
def Channel.ran (c : Channel) (b : BeatRecord) : Channel :=
  if c.link.state = .up then { c with link := (c.link.runLamp b .cue).runLamp b .stop } else c

/-- R89: a patch record after a beat with this onset: an entry that waits counts a beat after its change point,
which moves its idle mark, and sets the deadline when it brings the count to 0. -/
def PatchRecord.counted (p : PatchRecord) (onset : Sample) : PatchRecord :=
  match p.entry with
  | some ⟨patch, cp, .waitingRelease k _ deadline⟩ =>
    if cp < onset then
      { p with
        entry := some
          ⟨patch, cp,
            .waitingRelease (k - 1) (onset + 24000)
              (if k = 0 then deadline else if k = 1 then some onset else none)⟩ }
    else p
  | _ => p

/-- R113, R138: a channel after the STOP lamp of a show state has been set with due `d`. -/
def Channel.stopLampSet (c : Channel) (st : ShowState) (d : Sample) : Channel :=
  if c.link.state = .up then
    { c with link := (c.link.setLamp .stop .show_ (stopLampOf st) d).1 }
  else c

/-- R79, R138: a channel after its CUE lamp has been set to a pattern with due `d`. -/
def Channel.cueLampSet (c : Channel) (p : LampPattern) (d : Sample) : Channel :=
  if c.link.state = .up then { c with link := (c.link.setLamp .cue .cue p d).1 } else c

/-- R79: the channel of station `n` after the warned cue has been set, by the old and the new warn list. -/
def Channel.warnSet (c : Channel) (old new : List Station) (n : Station) (d : Sample) : Channel :=
  if n ∈ new then c.cueLampSet warnPattern d else if n ∈ old then c.cueLampSet offPattern d else c

/-- R61: the standby found again in the book the edit buffer holds. -/
def CueEngine.foundStandby (c : CueEngine) : Option Nat :=
  match c.standby with
  | none => none
  | some n => if ∃ x ∈ c.buffer.cues, x.number = n then some n else c.buffer.numberAfter n

/-- R60, R61: the Cue Engine after the apply of its pending buffer. -/
def CueEngine.committed (c : CueEngine) : CueEngine :=
  { c with
    book := c.buffer, serial := (c.serial + 1) % 65536, buffer := ⟨[], []⟩, edit := .closed
    standby := c.foundStandby, warned := c.foundStandby, barMark := c.buffer.isAtBar c.foundStandby }

/-- R62: the notice of that apply at `y`. -/
def CueEngine.committedNotice (c : CueEngine) (y : Sample) : Notice :=
  .editCommitted ((c.serial + 1) % 65536) y c.buffer.counts c.foundStandby
    (decide (c.foundStandby ≠ c.standby))

/-- R134: a channel after an event has been handed to it. -/
def Channel.handed (c : Channel) (e : Event) : Channel := { c with link := (c.link.hand e).1 }

/-- R86: a patch record after a PATCH has been handed for it, on a link with this lead. -/
def PatchRecord.sent (p : PatchRecord) (patch : Patch) (due : Sample) (force : Bool) (changePoint : Sample)
    (lead : Nat) : PatchRecord :=
  { p with
    expected := some patch
    serial := (p.serial + 1) % 256
    entry := some
      ⟨patch, changePoint, .sent due force ((p.serial + 1) % 256) (due + lead + 960)⟩ }

/-- A channel that has only been fed: its queue, its late-click count and its lamps may have changed, and
nothing where its link is not UP. -/
def Channel.fedTo (c d : Channel) : Prop :=
  d =
    { c with
      link :=
        { c.link with
          queue := d.link.queue, lateCount := d.link.lateCount
          cueLamp := d.link.cueLamp, stopLamp := d.link.stopLamp } } ∧
    (c.link.state ≠ .up → d = c)

/-- R111, R137: a channel after a CANCEL from `y`. -/
def Channel.cancelled (c : Channel) (y : Sample) : Channel :=
  if c.link.state = .up then
    { c with link := { c.link with queue := c.link.queue.filter fun e => decide (e.due < y) } }
  else c

/-- R96: a patch record after a stop at `y`. -/
def PatchRecord.stopped (p : PatchRecord) (y : Sample) : PatchRecord :=
  match p.entry with
  | some ⟨_, _, .waitingRelease ..⟩ => { p with expected := p.confirmed, entry := none }
  | some ⟨_, _, .sent due _ _ _⟩ | some ⟨_, _, .unconfirmed due _ _⟩ =>
    if y ≤ due then { p with expected := p.confirmed, entry := none } else p
  | none => p

/-- R34, R44, R77: the Click Engine after a stop at `y` (logs 60 and 73). -/
def ClickEngine.stopped (e : ClickEngine) (y : Sample) : ClickEngine :=
  if e.held = true then { e with limit := none }
  else
    { e with
      held := true, limit := none, holdPoint := none, taps := [], reach := none
      context := e.context.map fun c => { c with countIn := none }
      kept := e.kept.filter fun b => decide (b.onset < y) }

/-- R125: a link after a new page has been sent at `y`: the toggle flipped and the page recorded. -/
def Link.paged (l : Link) (kind : PageKind) (y : Sample) (contents : Option SettingsPage) : Link :=
  { l with toggle := !l.toggle, page := some ⟨kind, !l.toggle, y, y + 240, contents⟩ }

/-- R125: what sending that page puts on the station's link. -/
def Link.pageFrame (l : Link) (n : Station) (kind : PageKind) (y : Sample) (contents : Option SettingsPage) :
    Emission :=
  .link n y (.page ⟨kind, !l.toggle, y, y + 240, contents⟩)

/-- R121, R128, R132: a link that has entered SEEK at `y`, its first burst sent. -/
def Link.seeking (l : Link) (y : Sample) (holdEnd : Option Sample) : Link :=
  { l with
    state := .seek, rate := .full, tries := 0, seekHoldEnd := holdEnd, page := none
    nextBurst := some (y + 4800) }

/-- R124: a link whose training attempt at a rate has started at `y` with the IDENT page. -/
def Link.attempting (l : Link) (rate : LinkRate) (y : Sample) : Link :=
  { l with state := .training, rate := rate, seekHoldEnd := none, nextBurst := none }.paged .ident y none

/-- R121: a link that is OFF. -/
def Link.off (l : Link) : Link :=
  { l with
    state := .off, rate := .full, tries := 0, seekHoldEnd := none, nextBurst := none, page := none }

/-- R132: a channel after steps 1 to 3 of leaving UP. -/
def Channel.down (c : Channel) : Channel :=
  { c with
    reported := ⟨none, ⟨false, false, false, false, false⟩, ⟨.part, .part⟩⟩
    link :=
      { c.link with
        queue := [], test := none, relay := none, cueLamp := none, stopLamp := none, silenceEnd := none
        errorCount := 0, windowEnd := none, refreshAt := none } }

/-- R132: the deferred replies that leaving UP at `y` makes, in order. -/
def Link.endings (l : Link) (y : Sample) : List Reply :=
  (match l.test with
    | some t => [⟨0x34, t.tag, .ok false (.testResult .aborted t.began y), false⟩]
    | none => []) ++
  (match l.relay with
    | some r => [⟨0x35, r.tag, .refused .aborted .none_, false⟩]
    | none => [])

/-- R94: a patch record after its station's link has left UP. -/
def PatchRecord.linkLost (p : PatchRecord) : PatchRecord :=
  match p.entry with
  | some ⟨patch, cp, .sent due force serial _⟩ =>
    { p with held := .clear, entry := some ⟨patch, cp, .unconfirmed due force serial⟩ }
  | _ => { p with held := .clear }

/-- R94, R132: the Control Port after a station's link has left UP at `y`: the deferred replies, PATCH_STATE
for a SENT entry, then LINK_STATE. -/
def ControlPort.linkLost (q : ControlPort) (n : Station) (c : Channel) (p : PatchRecord) (after : LinkState)
    (cause : LinkCause) (y : Sample) : ControlPort :=
  let q1 : ControlPort := { q with replies := q.replies ++ c.link.endings y }
  (match p.entry with
    | some ⟨patch, _, .sent due _ serial _⟩ =>
      q1.offer (.patchState n .linkLost y .unconfirmed patch (some (due, serial)))
    | _ => q1).offer (.linkState n .up after .full cause y none)

/-! ## Invariants -/

/-- R173, R172, R170: at most 32 notices, 4 waiting REJECTs, and 4 held places. -/
def State.PortInv (s : State) : Prop :=
  s.port.notices.length ≤ 32 ∧ s.port.rejects.length ≤ 4 ∧ s.port.placesHeld ≤ 4

/-- R134: a queue of at most 32 events in order of due sample, at most one of them a PATCH. -/
def QueueOrdered (q : List Event) : Prop :=
  q.length ≤ 32 ∧ q.Pairwise (fun a b => a.due ≤ b.due) ∧ (q.filter Event.isPatch).length ≤ 1

/-- R134: every channel's outbound queue is ordered. -/
def State.QueueInv (s : State) : Prop := ∀ n, QueueOrdered (s.ch n).link.queue

/-- R65: the queued slot is never full while the in-flight slot is empty. -/
def State.SlotInv (s : State) : Prop := s.cue.inFlight = none → s.cue.queued = none

/-- R84: a station's pending entry has the station's expected patch. -/
def State.PatchInv (s : State) : Prop :=
  ∀ n e, (s.patchOf n).entry = some e → (s.patchOf n).expected = some e.patch

/-- R119: at most one station has role MD. -/
def State.MdInv (s : State) : Prop :=
  ∀ n m, (s.ch n).assigned.role = .md → (s.ch m).assigned.role = .md → n = m

/-- A cause set names a source (R112). -/
def StopCauses.Nonempty (c : StopCauses) : Prop := c.host = true ∨ c.line = true ∨ c.md = true

/-- The entry does not wait for a release. -/
def PendingPhase.notWaiting : PendingPhase → Prop
  | .waitingRelease .. => False
  | .sent .. | .unconfirmed .. => True

/-- R111, R112: what holds while the show is STOPPED: the stop record names a cause, the engine is HELD,
both slots are empty, no patch waits, and no queue holds a CLICK or a PATCH due at or after the stop
sample. -/
def State.StoppedQuiet (s : State) : Prop :=
  s.ctl.state = .stopped →
    s.click.held = true ∧ s.cue.inFlight = none ∧ s.cue.queued = none ∧
      ∃ r, s.ctl.stopRecord = some r ∧ r.causes.Nonempty ∧
        ∀ n, (∀ e, (s.patchOf n).entry = some e → e.phase.notWaiting) ∧
          ∀ e ∈ (s.ch n).link.queue, e.isLamp = false → e.due < r.stopSample

/-- Table 7.4, R132, R134: a link is OFF just where the role is UNUSED, and a link that is not UP has an
empty queue. -/
def State.LinkInv (s : State) : Prop :=
  ∀ n, ((s.ch n).link.state = .off ↔ (s.ch n).assigned.role = .unused) ∧
    ((s.ch n).link.state ≠ .up → (s.ch n).link.queue = [])

/-- R111: the rule's last sentence, with the link states it rests on. -/
def State.StoppedInv (s : State) : Prop := s.LinkInv ∧ s.StoppedQuiet

/-- R47, R48, R52: a cue list and maps in strict number order and within their capacities. -/
def Book.Ordered (b : Book) : Prop :=
  b.cues.Pairwise (fun x y => x.number < y.number) ∧ b.maps.Pairwise (fun x y => x.number < y.number) ∧
    b.cues.length ≤ 1024 ∧ entryCount b.cues ≤ 8192 ∧ declaredTotal b.maps ≤ 4096

/-- R47, R52: every map of a book is complete. -/
def Book.Complete (b : Book) : Prop := ∀ m ∈ b.maps, m.segments.length = m.declared

/-- R47, R54, R59: the show book is in order and complete, the buffer in order, and a buffer that awaits
its apply complete. -/
def State.BookInv (s : State) : Prop :=
  s.cue.book.Ordered ∧ s.cue.book.Complete ∧ s.cue.buffer.Ordered ∧
    (s.cue.edit = .pendingApply → s.cue.buffer.Complete)

/-- What every step keeps. -/
structure State.Inv (s : State) : Prop where
  port : s.PortInv
  queues : s.QueueInv
  slots : s.SlotInv
  patches : s.PatchInv
  md : s.MdInv
  stopped : s.StoppedInv
  book : s.BookInv

end Sys2Proof.Machine
end

