-- ==== Sys2Proof/Certificates/Slice0/Obligations.lean ====
section
/-! DEFINITION. What the model is claimed to do: the statements, each a proposition over the model. -/

open Sys2Proof Sys2Proof.Machine

/-! ## Timebase (01) -/

/-- 01 sections 1.2 to 1.4, R3, R5, R6, R11, R12. A rising word-clock edge starts the missing-edge watch again,
clears edges-absent and counts in the window; it advances S by one in WORD; with the pending-switch flag set
elsewhere it makes the switch, is the first edge to advance S, and brings the CLOCK notice with the flag's cause;
otherwise it advances nothing. An internal period adds one to the watch count, held at 4, and to the window, and
advances S by one in INTERNAL and FAILOVER alone. CLOCK SELECT_INTERNAL sets INTERNAL and clears the auto-switch
mark and the pending-switch flag in every state, with a CLOCK notice HOST where the state changed; the reply carries
the record as it stands then. That these notices carry the rate of the last window, and the one of SELECT_INTERNAL
the S, is the model's choice (log 66). -/
def Obligations.SampleClocks : Prop :=
  ∀ s : State,
    let edge : Timebase :=
      { s.time with watch := 0, edgesAbsent := false, windowEdges := min 65535 (s.time.windowEdges + 1) }
    let period : Timebase :=
      { s.time with watch := min 4 (s.time.watch + 1), windowPosition := s.time.windowPosition + 1 }
    (s.time.clockState = .word →
      exec .wordClockEdge s =
        .next { s.quiet with time := { edge with S := s.time.S + 1, advance := 1 } }.done) ∧
    (s.time.clockState ≠ .word → s.time.pendingSwitch = none →
      exec .wordClockEdge s = .next { s.quiet with time := edge }.done) ∧
    (∀ c, s.time.clockState ≠ .word → s.time.pendingSwitch = some c →
      exec .wordClockEdge s =
        .next
          { s.quiet with
            time :=
              { edge with
                S := s.time.S + 1, advance := 1, clockState := .word, pendingSwitch := none }
            port := s.port.offer
              (.clock (match c with | .host => .host | .strap => .strap) .word (s.time.S + 1)
                (s.time.lastWindowEdges * 10)) }.done) ∧
    (s.time.clockState = .word →
      exec .internalPeriod s = .next { s.quiet with time := period }.done) ∧
    (s.time.clockState ≠ .word →
      exec .internalPeriod s =
        .next { s.quiet with time := { period with S := s.time.S + 1, advance := 1 } }.done) ∧
    (∀ tag : Nat, s.admits tag →
      let internal : Timebase :=
        { s.time with clockState := .internal, autoSwitch := false, pendingSwitch := none }
      (s.time.clockState = .internal →
        exec (.clockSelectInternal tag) s =
          .next ({ s.taken with time := internal }.replied 0x08 tag
            (.ok false (.clock (clockRecordOf internal))))) ∧
      (s.time.clockState ≠ .internal →
        exec (.clockSelectInternal tag) s =
          .next ({ s.taken with
            time := internal
            port := s.taken.port.offer
              (.clock .host .internal s.time.S (s.time.lastWindowEdges * 10)) }.replied 0x08 tag
            (.ok false (.clock (clockRecordOf internal))))))

/-- 01 section 1.3, R6, R8, R11. With the watch count at 4 and edges-absent clear, a missing-edge event sets
edges-absent, spoils the window and sets the good run to 0. In WORD it is a failover: S advances by 4 at once, the
auto-switch mark clears, and CLOCK reports MISSING_EDGES with S after the jump. Elsewhere S stands and a pending
switch is dropped with a CLOCK notice DROPPED, whose S and rate are the model's choice (log 66). Otherwise nothing
is declared (log 2). 01 sections 1.3 and 1.4, R5, R7, R8, R11, R13. At the end of a window of 4,800 internal
periods: a window of 4,752 to 4,848 edges that is not spoiled adds 4,800 to the good run, at most 48,000; any other
sets it to 0. The edge count becomes that of the last window and the next window starts. A good window that raises
the run to 48,000 in INTERNAL with the auto-switch mark set and no switch pending starts the switch; a bad one is a
failover in WORD, with no jump of S, and drops a pending switch elsewhere (the DROPPED notice by log 66). Before the
end nothing happens (log 2). -/
def Obligations.WordClockJudged : Prop :=
  (∀ s : State,
     let absent : Timebase := { s.time with edgesAbsent := true, goodRun := 0, windowSpoiled := true }
     let due := s.time.watch = 4 ∧ s.time.edgesAbsent = false
     (due → s.time.clockState = .word →
       exec .missingEdgeEvent s =
         .next
           { s.quiet with
             time :=
               { absent with
                 S := s.time.S + 4, advance := 4, clockState := .failover, autoSwitch := false }
             port := s.port.offer
               (.clock .missingEdges .failover (s.time.S + 4) (s.time.lastWindowEdges * 10)) }.done) ∧
     (due → s.time.clockState ≠ .word → s.time.pendingSwitch = none →
       exec .missingEdgeEvent s = .next { s.quiet with time := absent }.done) ∧
     (due → s.time.clockState ≠ .word → s.time.pendingSwitch ≠ none →
       exec .missingEdgeEvent s =
         .next
           { s.quiet with
             time := { absent with pendingSwitch := none }
             port := s.port.offer
               (.clock .dropped s.time.clockState s.time.S (s.time.lastWindowEdges * 10)) }.done) ∧
     (¬ due → exec .missingEdgeEvent s = .next s.quiet.done)) ∧
  (∀ s : State,
     let good := 4752 ≤ s.time.windowEdges ∧ s.time.windowEdges ≤ 4848 ∧ s.time.windowSpoiled = false
     let run := min 48000 (s.time.goodRun + 4800)
     let ended : Nat → Timebase := fun r =>
       { s.time with
         goodRun := r, lastWindowEdges := s.time.windowEdges, windowEdges := 0, windowSpoiled := false
         windowPosition := s.time.windowPosition - 4800 }
     let starts := s.time.autoSwitch = true ∧ s.time.clockState = .internal ∧ s.time.pendingSwitch = none
       ∧ s.time.goodRun ≠ 48000 ∧ run = 48000
     (s.time.windowPosition < 4800 → exec .rateWindowEnd s = .next s.quiet.done) ∧
     (4800 ≤ s.time.windowPosition → good → ¬ starts →
       exec .rateWindowEnd s = .next { s.quiet with time := ended run }.done) ∧
     (4800 ≤ s.time.windowPosition → good → starts →
       exec .rateWindowEnd s =
         .next
           { s.quiet with
             time := { ended run with pendingSwitch := some .strap, autoSwitch := false } }.done) ∧
     (4800 ≤ s.time.windowPosition → ¬ good → s.time.clockState = .word →
       exec .rateWindowEnd s =
         .next
           { s.quiet with
             time := { ended 0 with clockState := .failover, autoSwitch := false }
             port := s.port.offer
               (.clock .rate .failover s.time.S (s.time.windowEdges * 10)) }.done) ∧
     (4800 ≤ s.time.windowPosition → ¬ good → s.time.clockState ≠ .word → s.time.pendingSwitch = none →
       exec .rateWindowEnd s = .next { s.quiet with time := ended 0 }.done) ∧
     (4800 ≤ s.time.windowPosition → ¬ good → s.time.clockState ≠ .word → s.time.pendingSwitch ≠ none →
       exec .rateWindowEnd s =
         .next
           { s.quiet with
             time := { ended 0 with pendingSwitch := none }
             port := s.port.offer
               (.clock .dropped s.time.clockState s.time.S (s.time.windowEdges * 10)) }.done))

/-- R9, R10. CLOCK QUERY is answered OK in every state, changes nothing and carries the clock record. SELECT_WORD,
by the rows of R10, clears the auto-switch mark, sets the pending-switch flag, or is refused NOT_READY. Each reply
carries the record as it stands after the request. -/
def Obligations.ClockRequests : Prop :=
  ∀ (s : State) (tag : Nat), s.admits tag →
    let unmarked : Timebase := { s.time with autoSwitch := false }
    let switching : Timebase := { unmarked with pendingSwitch := some .host }
    exec (.clockQuery tag) s =
      .next (s.taken.replied 0x08 tag (.ok false (.clock (clockRecordOf s.time)))) ∧
    (s.time.clockState = .word ∨ s.time.pendingSwitch ≠ none →
      exec (.clockSelectWord tag) s =
        .next ({ s.taken with time := unmarked }.replied 0x08 tag
          (.ok false (.clock (clockRecordOf unmarked))))) ∧
    (s.time.clockState ≠ .word → s.time.pendingSwitch = none → s.time.goodRun = 48000 →
      exec (.clockSelectWord tag) s =
        .next ({ s.taken with time := switching }.replied 0x08 tag
          (.ok false (.clock (clockRecordOf switching))))) ∧
    (s.time.clockState ≠ .word → s.time.pendingSwitch = none → s.time.goodRun ≠ 48000 →
      exec (.clockSelectWord tag) s =
        .next (s.taken.replied 0x08 tag (.refused .notReady (.clock (clockRecordOf s.time)))))

/-- R2 as the model reads it (log 4, DEDUCED): R2 says that S may jump over waiting samples, and the sample each act
is then taken at is the model's choice. An act that waited for a sample is taken at that sample when the last
advance of S passed over it or brought S to it, and at the present S when S stood at or past it before; so after an
ordinary advance it is always taken at the present S. -/
def Obligations.SamplesReached : Prop :=
  ∀ (s : State) (x : Sample) (act : State → State), x ≤ s.time.S →
    (s.time.S < x + s.time.advance → s.whenReached (some x) act = (act (s.atS x)).atS s.time.S) ∧
    (x + s.time.advance ≤ s.time.S →
      s.whenReached (some x) act = (act (s.atS s.time.S)).atS s.time.S) ∧
    (s.time.advance ≤ 1 → s.whenReached (some x) act = (act s).atS s.time.S)

/-- R15. P(T) is the quotient of the period constant by T with its remainder dropped, so it is longer than the exact
period nowhere; P(40,000) is 7,200 samples and P(2,000) is 144,000; and P is strictly decreasing over the tempo
range. R16, R28. Producing a beat moves the accumulator on by the period of that beat's tempo, wherever the position
goes; at a steady tempo from a sample, beat n falls at the floor of n periods after it; and the gap between two
successive onsets is the period in whole samples or one sample more, and lies in 7,200 to 144,000. -/
def Obligations.BeatPeriods : Prop :=
  (beatPeriod 40000 = 7200 * 65536 ∧ beatPeriod 2000 = 144000 * 65536 ∧
     ∀ T T' : Nat, 2000 ≤ T → T < T' → T' ≤ 40000 →
       T * beatPeriod T ≤ 60 * 48000 * 65536 * 100 ∧ 60 * 48000 * 65536 * 100 < T * (beatPeriod T + 1) ∧
         beatPeriod T' < beatPeriod T) ∧
  ((∀ (c : Context) (rel : Bool), (c.advance rel).1.acc = c.acc + beatPeriod c.beatTempo) ∧
     (∀ s0 n T : Nat, onsetOf (rebase s0 + n * beatPeriod T) = s0 + n * beatPeriod T / 65536) ∧
     ∀ acc T : Nat, 2000 ≤ T → T ≤ 40000 →
       let gap : Nat := onsetOf (acc + beatPeriod T) - onsetOf acc
       (gap = beatPeriod T / 65536 ∨ gap = beatPeriod T / 65536 + 1) ∧ 7200 ≤ gap ∧ gap ≤ 144000)

/-- R17. A beat of tempo T at accumulator A has for a subdivision d of 2, 3, 4, 6 or 8 the clicks j = 1 .. d-1 at
floor((A + floor(j P / d)) / 65,536), and none for d = 1; each lies at least 900 samples after the onset and before
the next one, and two adjacent ones lie at least 899 apart. -/
def Obligations.SubdivisionPlaces : Prop :=
  ∀ acc T : Nat, 2000 ≤ T → T ≤ 40000 →
    let p := beatPeriod T
    (subdivisionsOf acc p).pick 1 = [] ∧
    ∀ d ∈ [2, 3, 4, 6, 8],
      ((subdivisionsOf acc p).pick d).length = d - 1 ∧
      ∀ j, 1 ≤ j → j ≤ d - 1 →
        let x := (acc + j * p / d) / 65536
        ((subdivisionsOf acc p).pick d)[j - 1]? = some x ∧
          onsetOf acc + 900 ≤ x ∧ x + 900 ≤ onsetOf (acc + p) ∧
          x + 899 ≤ (acc + (j + 1) * p / d) / 65536

/-- R18. With no target every beat of a segment has its start tempo. With a target, beat i of N has the start tempo
plus the truncated share i / N of the difference: it lies between the two, and below the target's side of it: no
beat reaches a target that differs from the start. -/
def Obligations.RampTempos : Prop :=
  ∀ Ts Te N i : Nat, i < N →
    rampTempo Ts none N i = Ts ∧
    (rampTempo Ts (some Te) N i : Int) = Ts + (((Te : Int) - Ts) * i).tdiv N ∧
    min Ts Te ≤ rampTempo Ts (some Te) N i ∧ rampTempo Ts (some Te) N i ≤ max Ts Te ∧
    (Ts ≠ Te → rampTempo Ts (some Te) N i ≠ Te)

/-- R19. A tap starts an empty list, or starts it anew more than 144,000 samples after the last stamp; it is a
bounce when it is not later than the last stamp or less than 7,200 after it; otherwise it is stored at the end, and
the oldest stamp leaves a list of 5. So a list that holds 0 to 5 stamps with intervals in that range goes on doing
so. R20. For a tap list of 2 to 5 stamps the mean interval lies in 7,200 to 144,000, so 288,000,000 divided by it
and rounded half up lies in 2,000 to 40,000 before any clamp, and is the tap tempo. -/
def Obligations.TapListsAndTempos : Prop :=
  (∀ (taps : List Nat) (t last : Nat),
     storeTap [] t = .stored [t] ∧
     (last + 144000 < t → storeTap (taps ++ [last]) t = .stored [t]) ∧
     (t < last + 7200 → storeTap (taps ++ [last]) t = .bounce) ∧
     (last + 7200 ≤ t → t ≤ last + 144000 → taps.length < 4 →
       storeTap (taps ++ [last]) t = .stored (taps ++ [last, t])) ∧
     (last + 7200 ≤ t → t ≤ last + 144000 → taps.length = 4 →
       storeTap (taps ++ [last]) t = .stored (taps.tail ++ [last, t])) ∧
     (∀ after, TapsOrdered taps → storeTap taps t = .stored after → TapsOrdered after)) ∧
  (∀ taps : List Nat, TapsOrdered taps → 2 ≤ taps.length →
     let i := (taps.getLastD 0 - taps.headD 0) / (taps.length - 1)
     tapInterval taps = i ∧ 7200 ≤ i ∧ i ≤ 144000 ∧
       2000 ≤ (288000000 + i / 2) / i ∧ (288000000 + i / 2) / i ≤ 40000 ∧
       tapTempo taps = (288000000 + i / 2) / i)

/-! ## Click Engine (02) -/

/-- R27, R29, R32. The record of the next beat: its onset is the accumulator in whole samples; a main beat carries
its bar, its accent by the segment's set, the tempo of R18 and, in a VAMP, its pass; a count-in beat carries the
negative bar, DOWN on beat 1 and BEAT otherwise, the count-in tempo and the countdown, itself included; that it has
no pass, into a VAMP too, is the model's choice (log 52). R23, R24, R28, R32, R38. Where the position moves. A
count-in beat adds its period to A and takes one from the count-in remaining, its beat rising within the bar and its
bar from -k to -k + 1, and leaves its own tempo as the current one, over a tap stored during the count-in (the
model's choice, log 67); the last one leaves the position on the beat it leads into. For a main beat, within a bar
the beat rises by one; past the bar it returns to 1 and the bar rises by one, at most 9,999. The last beat of a
METERED segment, or of a TAP segment with bars, leads to the next segment: into METERED or VAMP at once with beat
index 0, pass 1, its first bar and its start tempo; past the last segment to the map end, with pass 1, its bar and
beat as the advance left them (the model's choice, log 59); towards TAP or FREE with the move due at E (log 12). At
the end of a pass of a VAMP the flag, if set, is consumed and the position leaves in the same way; if clear the pass
repeats from the first bar with the pass one higher, at most 9,999. With AT_BAR_END a set flag is taken at every bar
end. -/
def Obligations.BeatRecordsAndMoves : Prop :=
  (∀ (c : Context) (g : Segment), c.segment = some g →
     (c.countIn = none →
       c.record g =
         { onset := c.acc / 65536
           bar := c.bar
           beatInBar := c.beatInBar
           level := if c.beatInBar = 1 then .down else if c.beatInBar ∈ g.accents then .accent else .beat
           tempo := g.tempoAt c.beatIndex c.tempo
           pass := if g.kind = .vamp then some c.pass else none
           countdown := none
           subs := subdivisionsOf c.acc (beatPeriod (g.tempoAt c.beatIndex c.tempo)) }) ∧
     (∀ k, c.countIn = some k →
       c.record g =
         { onset := c.acc / 65536
           bar := -(k.bar : Int)
           beatInBar := k.beat
           level := if k.beat = 1 then .down else .beat
           tempo := k.tempo
           pass := none
           countdown := some ((k.bar - 1) * g.beatsPerBar + (g.beatsPerBar - k.beat + 1))
           subs := subdivisionsOf c.acc (beatPeriod k.tempo) })) ∧
  (∀ (c : Context) (g : Segment) (rel : Bool), c.segment = some g →
     (∀ k, c.countIn = some k →
       c.advance rel =
         ({ c with
             acc := c.acc + beatPeriod k.tempo, tempo := k.tempo
             countIn :=
               if k.remaining ≤ 1 then none
               else if k.beat < g.beatsPerBar then some ⟨k.remaining - 1, k.bar, k.beat + 1, k.tempo⟩
               else some ⟨k.remaining - 1, k.bar - 1, 1, k.tempo⟩ }, false)) ∧
     (c.countIn = none →
       let tempo := g.tempoAt c.beatIndex c.tempo
       let moved : Context :=
         { c with
           acc := c.acc + beatPeriod tempo, tempo := tempo, beatIndex := c.beatIndex + 1
           beatInBar := if g.beatsPerBar ≤ c.beatInBar then 1 else c.beatInBar + 1
           bar := if g.beatsPerBar ≤ c.beatInBar then min 9999 (c.bar + 1) else c.bar }
       let left : Context :=
         match c.segments[c.segmentIndex + 1]? with
         | none => { moved with segmentIndex := c.segments.length, beatIndex := 0, pass := 1 }
         | some h =>
           if h.kind = .metered ∨ h.kind = .vamp then
             { moved with
               segmentIndex := c.segmentIndex + 1, beatIndex := 0, beatInBar := 1, pass := 1
               bar := min 9999 (staticBefore c.segments (c.segmentIndex + 1) + 1)
               tempo := h.startTempo, tapPlaced := false, moveDue := false }
           else { moved with moveDue := true }
       let last := ∃ n, g.bars = some n ∧ n * g.beatsPerBar ≤ c.beatIndex + 1
       let exits := g.vampExit = some .atBarEnd ∧ g.beatsPerBar ≤ c.beatInBar
       (g.kind = .metered ∨ g.kind = .tap → last → c.advance rel = (left, false)) ∧
       (g.kind = .metered ∨ g.kind = .tap → ¬ last → c.advance rel = (moved, false)) ∧
       (g.kind = .free → c.advance rel = (moved, false)) ∧
       (g.kind = .vamp → rel = true → last ∨ exits → c.advance rel = (left, true)) ∧
       (g.kind = .vamp → rel = true → ¬ last → ¬ exits → c.advance rel = (moved, false)) ∧
       (g.kind = .vamp → rel = false → ¬ last → c.advance rel = (moved, false)) ∧
       (g.kind = .vamp → rel = false → last →
         c.advance rel =
           ({ moved with
               beatIndex := 0, pass := min 9999 (c.pass + 1)
               bar := min 9999 (staticBefore c.segments c.segmentIndex + 1) }, false))))

/-- R26, R29, R30, R35, R39, R89, R139. A due beat that no AT_BAR standby waits for is produced: its record is kept
with the later of the two kept before, the position and A move on, a consumed release flag clears, and the tap list
empties where the position leaves a TAP segment (R39); every station admitted gets its clicks, unless the change
point muted them (R35), then every runner its ticks, the CUE lamp's before the STOP lamp's (the model's choice, log
69), and every waiting patch its beat. Nothing else changes. -/
def Obligations.BeatProduced : Prop :=
  ∀ (s : State) (c : Context) (g : Segment) (x : Sample),
    s.click.context = some c → c.segment = some g → s.click.moveAt .beat = some x → x ≤ s.time.S →
    s.reports = [] → (∀ bar, s.cue.barCue bar = none) →
    let b := c.record g
    let moved := c.advance s.click.release
    ∃ t, exec .beatProduction s = .next t ∧
      t.click =
        { s.click with
          context := some { moved.1 with lastOnset := some b.onset, muteFirst := false }
          release := s.click.release && !moved.2
          taps := if g.kind = .tap ∧ moved.1.segmentIndex ≠ c.segmentIndex then [] else s.click.taps
          kept := s.click.kept.drop (s.click.kept.length - 1) ++ [b] } ∧
      (∀ n, t.ch n = if c.muteFirst = true then (s.ch n).ran b else ((s.ch n).clicked b).ran b) ∧
      (∀ n, t.patchOf n = (s.patchOf n).counted b.onset) ∧
      t.time = s.time ∧ t.cue = s.cue ∧ t.ctl = s.ctl ∧ t.vin = s.vin ∧ t.vout = s.vout ∧
      t.port = s.port.arbitrate ∧ t.reports = [] ∧ t.emitted = [] ∧ t.pending = s.pending

/-- R33. The change point of a cue: in a state that produces no beats S + HORIZON for every kind (in HELD, for which
R33 gives no answer, that is the model's choice, log 51); otherwise S + HORIZON for IMMEDIATE, and with no hold
point pending the onset of the next beat for NEXT_BEAT, and for NEXT_BAR in a METERED segment at a steady tempo the
onset of the next beat 1, so many beat periods on. -/
def Obligations.ChangePoints : Prop :=
  ∀ (e : ClickEngine) (h : Sample),
    (∀ k, e.state.produces = false → e.changePoint h k = h) ∧
    e.changePoint h .immediate = h ∧
    (∀ c, e.context = some c → e.state.produces = true → e.holdPoint = none →
      e.changePoint h .nextBeat = c.acc / 65536) ∧
    (∀ c g n, e.context = some c → e.state.produces = true → e.holdPoint = none → c.segment = some g →
      g.kind = .metered → g.target = none → g.bars = some n → c.countIn = none → c.moveDue = false →
      1 ≤ g.beatsPerBar → g.beatsPerBar ≤ 15 → c.beatIndex % g.beatsPerBar + 1 = c.beatInBar →
      c.beatIndex < n * g.beatsPerBar →
      e.changePoint h .nextBar =
        (c.acc + (if c.beatInBar = 1 then 0 else g.beatsPerBar + 1 - c.beatInBar)
          * beatPeriod g.startTempo) / 65536)

/-- R1, R36. A map end at E that no FOLLOW standby takes, with no cue in flight at or before E (with one the report
is dropped, the model's choice, log 74), discards the context and sends MAP_END with the map, E and the value of S
at which the end is taken (R1); nothing else changes. R23, R28, R40. When the onset E of a TAP or FREE segment comes
within the horizon, with no production limit or hold point pending, the position enters the segment at its first
beat with its start tempo; the tap list is kept, unless a TAP segment is left. A TAP segment entered with two stamps
or more has its first beat placed at once: at t + m I after S + HORIZON, at the tap tempo, in a re-based context.
Otherwise nothing more changes. -/
def Obligations.MapEndsAndSegmentStarts : Prop :=
  (∀ (s : State) (c : Context) (x : Sample),
     s.click.context = some c → s.click.moveAt .mapEnd = some x → x ≤ s.time.S → s.reports = [] →
     (∀ f, s.cue.inFlight = some f → c.acc / 65536 < f.changePoint) →
     (s.cue.followCue = none ∨ s.ctl.state ≠ .running) →
     exec .mapEnd s =
       .next
         { s.quiet with
           click := { s.click with context := none }
           port := s.port.offer (.mapEnd c.map (c.acc / 65536) (s.takenAt x)) }.done) ∧
  (∀ (s : State) (c : Context) (g h : Segment) (x : Sample),
     s.click.context = some c → c.segment = some g → c.segments[c.segmentIndex + 1]? = some h →
     h.kind = .tap ∨ h.kind = .free → c.countIn = none → s.click.held = false →
     s.click.moveAt .start = some x → x ≤ s.time.S →
     s.click.limit = none → s.click.holdPoint = none → s.reports = [] →
     let taps := if g.kind = .tap then [] else s.click.taps
     let entered : Context :=
       { c with
         segmentIndex := c.segmentIndex + 1, beatIndex := 0, beatInBar := 1, pass := 1
         bar := min 9999 (staticBefore c.segments (c.segmentIndex + 1) + 1)
         tempo := h.startTempo, tapPlaced := false, moveDue := false }
     let first := tapFirstOnset (taps.getLastD 0) (tapInterval taps) (s.takenAt x + 4800)
     (h.kind = .free ∨ taps.length < 2 →
       exec .tapOrFreeSegmentStart s =
         .next { s.quiet with click := { s.click with context := some entered, taps := taps } }.done) ∧
     (h.kind = .tap → 2 ≤ taps.length →
       exec .tapOrFreeSegmentStart s =
         .next
           { s.quiet with
             click :=
               { s.click with
                 taps := taps
                 context := some
                   { entered with
                     acc := first * 65536, tempo := tapTempo taps, tapPlaced := true, lastOnset := none
                     muteFirst := false } } }.done))

/-- R42, R101, R105, R113. At a pending hold point the engine is HELD with its hold point and tap list cleared, the
position kept (at the start of a TAP or FREE segment the walk stopped at); the show is HOLDING with no hold pending,
every UP station's STOP lamp is set for HOLDING (R113), and SHOW_STATE reports HOLD_REACHED with the hold point
(R101). R43, R45, R101, R106, R113, R116. When S reaches the returned beat, the report of it is spent; a continued
beat in HOLDING and a resumed one in RESUMING make the show RUNNING, with the STOP lamps of every UP station set
(R113) and SHOW_STATE sent with the beat (R101), and CONTINUE_REACHED ends the pending continue. That in any other
show state only the report is spent is the model's choice (log 62). -/
def Obligations.HoldsAndReturnsReached : Prop :=
  (∀ (s : State) (x : Sample), s.click.holdPoint = some x → x ≤ s.time.S →
     ∃ t, exec .holdReached s = .next t ∧
       t.click =
         { s.click with
           held := true, holdPoint := none, taps := []
           context := s.click.context.map fun c =>
             if c.moveDue = true then c.enter (c.segmentIndex + 1) else c } ∧
       t.ctl = { s.ctl with state := .holding, holdPending := none } ∧
       (∀ n, t.ch n = (s.ch n).stopLampSet .holding (s.takenAt x)) ∧
       t.port = (s.port.offer
         (.showState s.ctl.state .holding .holdReached (s.takenAt x) (some x))).arbitrate ∧
       t.patches = s.patches ∧ t.time = s.time ∧ t.cue = s.cue ∧ t.vin = s.vin ∧ t.vout = s.vout ∧
       t.emitted = [] ∧ t.pending = s.pending) ∧
  (∀ (s : State) (x : Sample), x ≤ s.time.S →
     (s.click.reach = some ⟨.continued, x⟩ → s.ctl.state = .holding →
       ∃ t, exec .continueReached s = .next t ∧
         t.click = { s.click with reach := none } ∧
         t.ctl = { s.ctl with state := .running, continuePending := none } ∧
         (∀ n, t.ch n = (s.ch n).stopLampSet .running (s.takenAt x)) ∧
         t.port = (s.port.offer
           (.showState .holding .running .continueReached (s.takenAt x) (some x))).arbitrate ∧
         t.patches = s.patches ∧ t.time = s.time ∧ t.cue = s.cue ∧ t.vin = s.vin ∧ t.vout = s.vout ∧
         t.emitted = [] ∧ t.pending = s.pending) ∧
     (s.click.reach = some ⟨.resumed, x⟩ → s.ctl.state = .resuming →
       ∃ t, exec .resumeReached s = .next t ∧
         t.click = { s.click with reach := none } ∧
         t.ctl = { s.ctl with state := .running } ∧
         (∀ n, t.ch n = (s.ch n).stopLampSet .running (s.takenAt x)) ∧
         t.port = (s.port.offer
           (.showState .resuming .running .resumeReached (s.takenAt x) (some x))).arbitrate ∧
         t.patches = s.patches ∧ t.time = s.time ∧ t.cue = s.cue ∧ t.vin = s.vin ∧ t.vout = s.vout ∧
         t.emitted = [] ∧ t.pending = s.pending) ∧
     (s.click.reach = some ⟨.continued, x⟩ → s.ctl.state ≠ .holding →
       exec .continueReached s = .next { s.quiet with click := { s.click with reach := none } }.done) ∧
     (s.click.reach = some ⟨.resumed, x⟩ → s.ctl.state ≠ .resuming →
       exec .resumeReached s = .next { s.quiet with click := { s.click with reach := none } }.done))

/-! ## The show book (03) -/

/-- 03 section 3.3, R54, R55, R63. What each edit request meets in each edit state: BEGIN_EDIT is taken in NONE
alone, the edits and COMMIT_EDIT in OPEN alone, ABANDON_EDIT in OPEN and PENDING; every other case is refused and
changes nothing. BEGIN_EDIT copies the book and its serial into the buffer; ABANDON_EDIT empties the buffer and is
answered with the state it found. -/
def Obligations.EditRequests : Prop :=
  ∀ (s : State) (tag : Nat), s.admits tag →
    let refused : Instr → Nat → Reason → Prop := fun i k r => exec i s = .next (s.refusedWith k tag r)
    (s.cue.edit = .closed →
      exec (.beginEdit tag) s =
        .next ({ s.taken with
          cue := { s.taken.cue with edit := .openEdit, buffer := s.cue.book, copiedFrom := s.cue.serial }
          }.replied 0x10 tag
          (.ok false (.editBegun s.cue.serial
            ⟨s.cue.book.cues.length, entryCount s.cue.book.cues, s.cue.book.maps.length,
              declaredTotal s.cue.book.maps⟩)))) ∧
    (s.cue.edit = .openEdit → refused (.beginEdit tag) 0x10 .editOpen) ∧
    (s.cue.edit = .pendingApply → refused (.beginEdit tag) 0x10 .editPending) ∧
    (∀ r, (s.cue.edit = .closed ∧ r = .editNotOpen) ∨ (s.cue.edit = .pendingApply ∧ r = .editPending) →
      (∀ c, c.label.length ≤ 12 → c.text.length ≤ 16 → refused (.putCue tag c) 0x11 r) ∧
      (∀ n, refused (.deleteCue tag n) 0x12 r) ∧
      (∀ m k d gs, refused (.putMap tag m k d gs) 0x13 r) ∧
      (∀ m, refused (.deleteMap tag m) 0x14 r) ∧
      refused (.commitEdit tag) 0x15 r) ∧
    (s.cue.edit = .closed → refused (.abandonEdit tag) 0x16 .editNotOpen) ∧
    (s.cue.edit ≠ .closed →
      exec (.abandonEdit tag) s =
        .next ({ s.taken with cue := { s.taken.cue with edit := .closed, buffer := Book.empty } }.replied
          0x16 tag (.ok false (.abandoned s.cue.edit))))

/-- 03 section 3.2, R49 to R51. PUT_CUE's values: the fields that name a thing refuse the cue out of range, and only
they do; the go bar, the count-in, bank, program and defer limit are clamped; the label, the warn list and the text
are kept; the patch entries are kept in ascending station order, one for a station. 03 section 3.2, R14, R21, R53.
PUT_MAP's segment values: a kind, a denominator, or a VAMP's exit out of its set refuses the segment, and only they
do; tempos are clamped to 2,000..40,000, beats per bar to 1..15, METERED bars to 1..999, VAMP bars to 1..16 and TAP
bars to 999, with 0 TAP bars and all FREE bars stored absent, and a target of 0 absent; beat 1 is never an accent of
the set; the vamp exit is the one carried for a VAMP and absent for any other kind. -/
def Obligations.CueAndSegmentValues : Prop :=
  (∀ raw : RawCue,
     let bad := raw.number = 0 ∨ 99999 < raw.number ∨ 2 < raw.goMode ∨ 2 < raw.changePoint ∨ 257 < raw.mapRef ∨
       24 < raw.entries.length ∨ (∃ x ∈ raw.label ++ raw.text, x < 32 ∨ 126 < x) ∨
       (∃ e ∈ raw.entries, e.station = 0 ∨ 24 < e.station ∨ 1 < e.policy) ∨
       ¬ (raw.entries.map RawPatchEntry.station).Nodup
     (readCue raw = none ↔ bad) ∧
     ∀ c clamped, readCue raw = some (c, clamped) →
       c.number = raw.number ∧ c.label = raw.label ∧ c.warn = raw.warn ∧ c.text = raw.text ∧
       c.countIn = min 4 raw.countIn ∧
       c.goMode = (if raw.goMode = 0 then .manual else if raw.goMode = 1 then .follow
         else .atBar (min 9999 (max 1 raw.goBar))) ∧
       c.changeKind = (if raw.changePoint = 0 then .immediate else if raw.changePoint = 1 then .nextBeat
         else .nextBar) ∧
       c.mapRef = (if raw.mapRef ≤ 255 then .map raw.mapRef else if raw.mapRef = 256 then .silence else .keep) ∧
       c.entries.Pairwise (fun a b => a.station < b.station) ∧
       (∀ e, e ∈ c.entries ↔ ∃ r ∈ raw.entries, e.station.val + 1 = r.station ∧
         e.patch = ⟨min 127 r.bank, min 127 r.program⟩ ∧
         e.policy = (if r.policy = 0 then .now else .onRelease) ∧
         e.deferLimit = min 16 (max 1 r.deferLimit)) ∧
       (clamped = true ↔ 4 < raw.countIn ∨ (raw.goMode = 2 ∧ (raw.goBar = 0 ∨ 9999 < raw.goBar)) ∨
         ∃ r ∈ raw.entries, 127 < r.bank ∨ 127 < r.program ∨ r.deferLimit = 0 ∨ 16 < r.deferLimit)) ∧
  (∀ raw : RawSegment,
     let bad := 3 < raw.kind ∨ (raw.kind = 1 ∧ 1 < raw.vampExit) ∨
       (raw.denominator ≠ 2 ∧ raw.denominator ≠ 4 ∧ raw.denominator ≠ 8 ∧ raw.denominator ≠ 16)
     (readSegment raw = none ↔ bad) ∧
     ∀ g clamped, readSegment raw = some (g, clamped) →
       g.kind = (if raw.kind = 0 then .metered else if raw.kind = 1 then .vamp else if raw.kind = 2 then .tap
         else .free) ∧
       g.bars = (if raw.kind = 0 then some (min 999 (max 1 raw.bars)) else if raw.kind = 1 then
         some (min 16 (max 1 raw.bars)) else if raw.kind = 2 ∧ raw.bars ≠ 0 then some (min 999 raw.bars)
         else none) ∧
       g.beatsPerBar = min 15 (max 1 raw.beatsPerBar) ∧ g.denominator = raw.denominator ∧
       g.startTempo = min 40000 (max 2000 raw.startTempo) ∧
       g.target = (if raw.targetTempo = 0 then none else some (min 40000 (max 2000 raw.targetTempo))) ∧
       (∀ b, b ∈ g.accents ↔ b ∈ raw.accents ∧ b ≠ 1) ∧
       g.vampExit = (if raw.kind = 1 then some (if raw.vampExit = 0 then .atPassEnd else .atBarEnd) else none) ∧
       (clamped = true ↔
         (raw.kind = 0 ∧ (raw.bars = 0 ∨ 999 < raw.bars)) ∨ (raw.kind = 1 ∧ (raw.bars = 0 ∨ 16 < raw.bars)) ∨
         (raw.kind = 2 ∧ 999 < raw.bars) ∨ raw.beatsPerBar = 0 ∨ 15 < raw.beatsPerBar ∨
         raw.startTempo < 2000 ∨ 40000 < raw.startTempo ∨
         (raw.targetTempo ≠ 0 ∧ (raw.targetTempo < 2000 ∨ 40000 < raw.targetTempo))))

/-- 03 section 3.4, R56. In OPEN, PUT_CUE puts the cue at its number's place in the buffer, replacing one of the
same number, unless the buffer would then hold more than 1,024 cues or 8,192 patch entries (FULL) or a value is
refused (BAD_VALUE); DELETE_CUE takes the cue with the number out (NOT_FOUND where there is none). The reply carries
the buffer's counts after it. Nothing but the buffer changes. 03 sections 3.3 and 3.4, R52, R53, R57. In OPEN,
PUT_MAP with k = 0 starts the map with its declared count, replacing one of that number; with k above 0 it continues
an incomplete map whose received count is k and whose declared count is the request's. A failed condition is
BAD_VALUE, a declared total above 4,096 FULL, and neither changes anything. That a part with 0 or more than 16
segments is BAD_VALUE is log 26. A continuing part leaves the declared total as it was, so its FULL clause speaks of
states that `State.BookInv` shuts out. DELETE_MAP takes a map out, or finds none. R171 has a reply carry the
contents its owner names; for DELETE_MAP none are named, and that its OK reply carries nothing is the model's
reading (log 44). Nothing but the buffer changes. -/
def Obligations.CueAndMapEdits : Prop :=
  (∀ (s : State) (tag : Nat), s.admits tag → s.cue.edit = .openEdit →
     let stored : List Cue → State := fun cs =>
       { s.taken with cue := { s.taken.cue with buffer := { s.cue.buffer with cues := cs } } }
     (∀ raw : RawCue, raw.label.length ≤ 12 → raw.text.length ≤ 16 →
       (readCue raw = none → exec (.putCue tag raw) s = .next (s.refusedWith 0x11 tag .badValue)) ∧
       ∀ c clamped, readCue raw = some (c, clamped) →
         let cs := insertCue c s.cue.buffer.cues
         (cs.length ≤ 1024 → entryCount cs ≤ 8192 →
           exec (.putCue tag raw) s =
             .next ((stored cs).replied 0x11 tag (.ok clamped (.cueCounts cs.length (entryCount cs))))) ∧
         (1024 < cs.length ∨ 8192 < entryCount cs →
           exec (.putCue tag raw) s = .next (s.refusedWith 0x11 tag .full))) ∧
     (∀ n : Nat,
       let cs := s.cue.buffer.cues.filter fun c => decide (c.number ≠ n)
       ((∃ c ∈ s.cue.buffer.cues, c.number = n) →
         exec (.deleteCue tag n) s =
           .next ((stored cs).replied 0x12 tag (.ok false (.cueCounts cs.length (entryCount cs))))) ∧
       ((∀ c ∈ s.cue.buffer.cues, c.number ≠ n) →
         exec (.deleteCue tag n) s = .next (s.refusedWith 0x12 tag .notFound)))) ∧
  (∀ (s : State) (tag : Nat), s.admits tag → s.cue.edit = .openEdit →
     let stored : List MapEntry → State := fun ms =>
       { s.taken with cue := { s.taken.cue with buffer := { s.cue.buffer with maps := ms } } }
     (∀ (m k d : Nat) (raw : List RawSegment) (gs : List Segment) (clamped : Bool),
       readSegments raw = some (gs, clamped) → m ≤ 255 →
       let put : MapEntry → Prop := fun e =>
         let ms := insertMap e s.cue.buffer.maps
         (declaredTotal ms ≤ 4096 →
           exec (.putMap tag m k d raw) s =
             .next ((stored ms).replied 0x13 tag
               (.ok clamped (.mapCounts e.segments.length e.declared (declaredTotal ms))))) ∧
         (4096 < declaredTotal ms →
           exec (.putMap tag m k d raw) s = .next (s.refusedWith 0x13 tag .full))
       (k = 0 → 1 ≤ d → d ≤ 64 → gs.length ≤ d → put ⟨m, d, gs⟩) ∧
       (k = 0 → d = 0 ∨ 64 < d ∨ d < gs.length →
         exec (.putMap tag m k d raw) s = .next (s.refusedWith 0x13 tag .badValue)) ∧
       (∀ e, 0 < k → s.cue.buffer.map? m = some e → e.segments.length = k → e.segments.length ≠ e.declared →
         d = e.declared → k + gs.length ≤ d → put { e with segments := e.segments ++ gs }) ∧
       (0 < k → (∀ e, s.cue.buffer.map? m = some e →
           e.segments.length ≠ k ∨ e.segments.length = e.declared ∨ d ≠ e.declared ∨ d < k + gs.length) →
         exec (.putMap tag m k d raw) s = .next (s.refusedWith 0x13 tag .badValue))) ∧
     (∀ (m k d : Nat) (raw : List RawSegment),
       255 < m ∨ raw = [] ∨ 16 < raw.length ∨ (∃ g ∈ raw, readSegment g = none) →
       exec (.putMap tag m k d raw) s = .next (s.refusedWith 0x13 tag .badValue)) ∧
     (∀ m : Nat,
       ((∃ e ∈ s.cue.buffer.maps, e.number = m) →
         exec (.deleteMap tag m) s =
           .next ((stored (s.cue.buffer.maps.filter fun e => decide (e.number ≠ m))).replied 0x14 tag
             (.ok false .empty))) ∧
       ((∀ e ∈ s.cue.buffer.maps, e.number ≠ m) →
         exec (.deleteMap tag m) s = .next (s.refusedWith 0x14 tag .notFound))))

/-- 03 sections 3.5 and 3.6, R58, R59, R61, R62. COMMIT_EDIT in OPEN: a buffer with an incomplete map is refused
BAD_VALUE naming the first in map order; else one with a cue whose map it lacks is refused naming the first such
cue. A valid buffer waits while a slot holds a cue. With both slots empty it is applied at once: the book becomes
the buffer, the serial rises by one, the buffer empties, the standby keeps its number or becomes the cue after it or
END, the warned cue is set to it, and EDIT_COMMITTED reports the new book. The running cue and the context are left.
-/
def Obligations.CommitRequestsJudged : Prop :=
  ∀ (s : State) (tag : Nat), s.admits tag → s.cue.edit = .openEdit →
    (∀ m pre post, s.cue.buffer.maps = pre ++ m :: post → (∀ x ∈ pre, x.segments.length = x.declared) →
      m.segments.length ≠ m.declared →
      exec (.commitEdit tag) s =
        .next (s.taken.replied 0x15 tag (.refused .badValue (.map m.number)))) ∧
    (∀ c pre post n, s.cue.buffer.Complete → s.cue.buffer.cues = pre ++ c :: post →
      (∀ x ∈ pre, ∀ k, x.mapRef = .map k → ∃ m ∈ s.cue.buffer.maps, m.number = k) →
      c.mapRef = .map n → (∀ m ∈ s.cue.buffer.maps, m.number ≠ n) →
      exec (.commitEdit tag) s =
        .next (s.taken.replied 0x15 tag (.refused .badValue (.cue c.number)))) ∧
    (s.cue.buffer.Complete →
      (∀ x ∈ s.cue.buffer.cues, ∀ k, x.mapRef = .map k → ∃ m ∈ s.cue.buffer.maps, m.number = k) →
      (s.cue.inFlight ≠ none ∨ s.cue.queued ≠ none →
        exec (.commitEdit tag) s =
          .next ({ s.taken with cue := { s.taken.cue with edit := .pendingApply } }.replied 0x15 tag
            (.ok false (.commit .pendingApply)))) ∧
      (s.cue.inFlight = none → s.cue.queued = none →
        let found := s.cue.standby.bind fun n =>
          if (∃ c ∈ s.cue.buffer.cues, c.number = n) then some n else s.cue.buffer.numberAfter n
        ∃ t, exec (.commitEdit tag) s = .next t ∧
          t.cue =
            { s.taken.cue with
              book := s.cue.buffer, serial := (s.cue.serial + 1) % 65536, buffer := Book.empty
              edit := .closed, standby := found, warned := found, barMark := s.cue.buffer.isAtBar found } ∧
          t.port =
            ((s.taken.port.offer
              (.editCommitted ((s.cue.serial + 1) % 65536) s.time.S s.cue.buffer.counts found
                (decide (found ≠ s.cue.standby)))).answer
              ⟨0x15, tag, .ok false (.commit .applied), true⟩).arbitrate ∧
          (∀ n, t.ch n =
            if n ∈ s.cue.buffer.warnList found then (s.ch n).cueLampSet warnPattern s.time.S
            else if n ∈ s.cue.book.warnList s.cue.warned then (s.ch n).cueLampSet offPattern s.time.S
            else s.ch n) ∧
          t.time = s.time ∧ t.click = s.click ∧ t.ctl = s.taken.ctl ∧ t.patches = s.patches ∧
          t.vin = s.vin ∧ t.vout = s.vout ∧ t.reports = s.reports ∧ t.emitted = [] ∧
          t.pending = s.pending))

/-- 03 section 3.8, 04 section 4.10, R64, R83. The five CUE_QUERY subjects read a book, the show book or an edit
buffer that is not NONE (which source value names which is log 31), and change nothing; EDIT in NONE is refused
EDIT_NOT_OPEN and another source BAD_VALUE. A cue, the cue after a number and a map entry are answered from the
book, or NOT_FOUND. RUN ignores the source; that it is answered for a source that is neither BOOK nor EDIT too is
log 43, and what its reply gives past the last segment is log 59. -/
def Obligations.BookQueries : Prop :=
  ∀ (s : State) (tag : Nat), s.admits tag →
    let ok : ReplyBody → Host.Outcome State Fault Refusal := fun b =>
      .next (s.taken.replied 0x1B tag (.ok false b))
    let no : Reason → Host.Outcome State Fault Refusal := fun r => .next (s.refusedWith 0x1B tag r)
    (∀ source (book : Book), (source = 0 ∧ book = s.cue.book) ∨
        (source = 1 ∧ s.cue.edit ≠ .closed ∧ book = s.cue.buffer) →
      exec (.cueQuerySummary tag source) s =
        ok (.summary
          { counts :=
              ⟨book.cues.length, entryCount book.cues, book.maps.length, declaredTotal book.maps⟩
            firstCue := book.cues.head?.map Cue.number
            lastCue := book.cues.getLast?.map Cue.number
            serial := if source = 1 then s.cue.copiedFrom else s.cue.serial
            incompleteMaps := if source = 1 then
              some (book.maps.filter fun m => decide (m.segments.length ≠ m.declared)).length else none
            edit := s.cue.edit
            standby := s.cue.standby
            running := s.cue.running.map RunningCue.number }) ∧
      (∀ n, exec (.cueQueryCue tag source n) s =
        match book.cues.find? fun c => decide (c.number = n) with
        | some c => ok (.cue c)
        | none => no .notFound) ∧
      (∀ n, exec (.cueQueryNextCue tag source n) s =
        match book.cues.find? fun c => decide (n < c.number) with
        | some c => ok (.cue c)
        | none => no .notFound) ∧
      (∀ m k, exec (.cueQueryMap tag source m k) s =
        match book.maps.find? fun e => decide (e.number = m) with
        | some e =>
          ok (.map
            { declared := e.declared
              received := e.segments.length
              complete := decide (e.segments.length = e.declared)
              lastBar := if e.segments.length = e.declared then lastBar e.segments else none
              segments := (e.segments.drop k).take 16 })
        | none => no .notFound)) ∧
    (∀ source, (source = 1 ∧ s.cue.edit = .closed) ∨ 2 ≤ source →
      let r : Reason := if source = 1 then .editNotOpen else .badValue
      exec (.cueQuerySummary tag source) s = no r ∧ (∀ n, exec (.cueQueryCue tag source n) s = no r) ∧
        (∀ n, exec (.cueQueryNextCue tag source n) s = no r) ∧
        ∀ m k, exec (.cueQueryMap tag source m k) s = no r) ∧
    (∀ source, exec (.cueQueryRun tag source) s =
      ok (.run
        { showState := s.ctl.state
          mode := .remote
          localEntry := s.taken.cue.localEntry
          standby := s.cue.standby
          barMark := s.cue.barMark
          running := s.cue.running.map fun r => (r.number, r.since)
          warned := s.cue.warned
          inFlight := s.cue.inFlight
          queued := s.cue.queued
          lockoutMs := s.cue.lockoutMs
          lockoutEnd := s.cue.lockoutEnd
          edit := s.cue.edit
          engine := s.click.state
          position := s.click.context.map fun c =>
            { map := c.map
              segmentIndex := c.segmentIndex
              bar := match c.countIn with | some k => -(k.bar : Int) | none => c.bar
              beatInBar := match c.countIn with | some k => k.beat | none => c.beatInBar
              pass := c.pass
              tempo := c.tempo
              denominator := c.segment.map Segment.denominator } }))

/-! ## Firing (04) -/

/-- 04 section 4.2, R66 to R68. A GO (the standby, if it is a cue and, with an expected number, that one) or a GOTO
(the named cue) with a number out of its range is refused BAD_VALUE; then the four tests refuse in their order:
WRONG_STATE outside PRESHOW and RUNNING, DEBOUNCED before the lockout end, NOT_FOUND with no cue to fire,
GO_QUEUE_FULL with both slots held. A refused call changes nothing, so it does not move the lockout end. -/
def Obligations.CallsRefused : Prop :=
  ∀ (s : State) (tag n : Nat), s.admits tag →
    (99999 < n → exec (.go tag n) s = .next (s.refusedWith 0x18 tag .badValue)) ∧
    (n = 0 ∨ 99999 < n → exec (.goto tag n) s = .next (s.refusedWith 0x19 tag .badValue)) ∧
    ∀ (call : Instr) (kind : Nat) (target : Option Cue),
      (call = .go tag n ∧ kind = 0x18 ∧ n ≤ 99999 ∧
        target = (s.cue.standby.bind s.cue.book.cue?).filter fun c => decide (n = 0 ∨ c.number = n)) ∨
      (call = .goto tag n ∧ kind = 0x19 ∧ 1 ≤ n ∧ n ≤ 99999 ∧ target = s.cue.book.cue? n) →
      let open_ := s.ctl.state = .preshow ∨ s.ctl.state = .running
      let locked := ∃ x, s.cue.lockoutEnd = some x ∧ s.time.S < x
      (¬ open_ → exec call s = .next (s.refusedWith kind tag .wrongState)) ∧
      (open_ → locked → exec call s = .next (s.refusedWith kind tag .debounced)) ∧
      (open_ → ¬ locked → target = none → exec call s = .next (s.refusedWith kind tag .notFound)) ∧
      (open_ → ¬ locked → target ≠ none → s.cue.inFlight ≠ none → s.cue.queued ≠ none →
        exec call s = .next (s.refusedWith kind tag .goQueueFull))

/-- 04 sections 4.2, 4.3 and 4.5, R66 to R68, R70, R73, R103, R142. A GO or GOTO that passes fires its cue with
source HOST: with the in-flight slot held, into the queued slot; with it empty, in flight at the change point of its
kind, which is held as the production limit when it lies after S + HORIZON and brings the hand-over (R73) at once
when it does not (here with a standby after it that no report fires and no edit pending). The standby becomes the
cue after it, the lockout end is set, every link test is aborted (R142), a PRESHOW becomes RUNNING, and the reply
carries the cue, its slot, its change point and the new standby. -/
def Obligations.CallsFire : Prop :=
  ∀ (s : State) (tag n : Nat) (call : Instr) (kind : Nat) (c : Cue), s.admits tag → s.reports = [] →
    (call = .go tag n ∧ kind = 0x18 ∧ n ≤ 99999 ∧ s.cue.standby.bind s.cue.book.cue? = some c ∧
      (n = 0 ∨ c.number = n)) ∨
    (call = .goto tag n ∧ kind = 0x19 ∧ 1 ≤ n ∧ n ≤ 99999 ∧ s.cue.book.cue? n = some c) →
    s.ctl.state = .preshow ∨ s.ctl.state = .running →
    (∀ x, s.cue.lockoutEnd = some x → x ≤ s.time.S) →
    let next := s.cue.book.numberAfter c.number
    let fired : FiredCue := ⟨c.number, .host, s.time.S, none⟩
    let point := s.click.changePoint (s.time.S + 4800) c.changeKind
    let after : CueEngine :=
      { s.taken.cue with
        standby := next, barMark := s.cue.book.isAtBar next
        lockoutEnd := some (s.time.S + 48 * s.cue.lockoutMs) }
    let frame : State → Prop := fun t =>
      t.time = s.time ∧ t.vin = s.vin ∧ t.vout = s.vout ∧ t.ctl.state = .running ∧
        (∀ m, (t.ch m).link.test = none) ∧ t.reports = [] ∧ t.pending = s.pending
    (s.cue.inFlight ≠ none → s.cue.queued = none →
      ∃ t, exec call s = .next t ∧ frame t ∧ t.cue = { after with queued := some fired } ∧
        t.click = s.click ∧ t.patches = s.patches ∧
        t.port.replies.getLast? = some ⟨kind, tag, .ok false (.fired c.number .queued none next), true⟩) ∧
    (s.cue.inFlight = none → s.time.S + 4800 < point →
      ∃ t, exec call s = .next t ∧ frame t ∧ t.cue = { after with inFlight := some ⟨fired, point⟩ } ∧
        t.click = { s.click with limit := some point } ∧ t.patches = s.patches ∧
        t.port.replies.getLast? =
          some ⟨kind, tag, .ok false (.fired c.number .inFlight (some point) next), true⟩) ∧
    (s.cue.inFlight = none → s.cue.queued = none → point ≤ s.time.S + 4800 →
      s.cue.edit ≠ .pendingApply →
      (∀ d, next.bind s.cue.book.cue? = some d → d.goMode = .manual) →
      ∃ t, exec call s = .next t ∧ frame t ∧
        t.cue = { after with running := some ⟨c.number, c.label, c.text, point⟩, warned := next } ∧
        t.port.replies.getLast? =
          some ⟨kind, tag, .ok false (.fired c.number .inFlight (some point) next), true⟩)

/-- 04 section 4.5, R34, R35, R60, R73 to R75. When S + HORIZON reaches the production limit the cue in flight is
handed over: it becomes the running cue from its change point, the warned cue becomes the standby, the slot empties
and the limit clears; NONE silences the engine; one that is HELD stays HELD, whatever the map reference (the model's
choice, log 72); CONTINUE keeps the context, the release flag, the tap list and a pending hold point as they are and
goes on through the former limit: with nothing due by S + HORIZON the engine is as it was without the limit (so too
in HELD, SILENT, FREE and WAIT_TAP and where a hold point keeps the next beat back), else the beat due is produced,
its clicks and ticks handed, or the map end is taken, with MAP_END after CUE_FIRED (with no FOLLOW standby), or the
TAP or FREE segment due is entered (a pending hold point beyond E found again at S + HORIZON, log 14), whose first
beat two stored taps place; a map number starts that map with the release flag and the tap list cleared and a
pending hold point found again in it. A METERED or VAMP first segment gets the count-in, at its start tempo and
meter, and its first beat is produced at once at the change point, or none where a hold point stands there; a TAP or
FREE one waits in a context at its start, with no count-in (R32, R35, R41). Each of its patch entries for a RIG in
use becomes the station's expected patch; and CUE_FIRED is queued. (Here with a standby that no report fires.) With
no further report to come (map NONE), a pending edit is applied once the slots are empty, and a queued cue is
promoted, handed over at S + HORIZON at once. -/
def Obligations.HandOvers : Prop :=
  ∀ (s : State) (x : Sample) (f : Flight) (c : Cue),
    s.click.limit = some x → x ≤ s.time.S + 4800 → s.reports = [] →
    s.cue.inFlight = some f → s.cue.book.cue? f.fired.cue = some c →
    (∀ d, s.cue.standby.bind s.cue.book.cue? = some d → d.goMode = .manual) →
    let handed : CueEngine :=
      { s.cue with
        running := some ⟨c.number, c.label, c.text, f.changePoint⟩, warned := s.cue.standby
        inFlight := none }
    (s.cue.queued = none → s.cue.edit ≠ .pendingApply →
      ∃ t, exec .changeDue s = .next t ∧ t.cue = handed ∧ t.click.limit = none ∧
        t.click.held = s.click.held ∧
        (c.mapRef = .silence → t.click.context = none ∧ t.click.release = false ∧ t.click.taps = []) ∧
        (c.mapRef = .keep →
          let freed : ClickEngine := { s.click with limit := none }
          let z := s.takenAt (x - 4800) + 4800
          ((∀ m y, freed.next = some (m, y) → z < y) → t.click = freed) ∧
          (∀ k, s.click.context = some k → k.acc / 65536 ≤ z →
            (∀ g, k.segment = some g → freed.next = some (.beat, k.acc / 65536) →
              let b := k.record g
              let moved := k.advance s.click.release
              t.click =
                { freed with
                  context := some { moved.1 with lastOnset := some b.onset, muteFirst := false }
                  release := s.click.release && !moved.2
                  taps := if g.kind = .tap ∧ moved.1.segmentIndex ≠ k.segmentIndex then [] else s.click.taps
                  kept := s.click.kept.drop (s.click.kept.length - 1) ++ [b] } ∧
              (c.entries = [] → ∀ n,
                t.patchOf n = (s.patchOf n).counted b.onset ∧
                t.ch n =
                  (if k.muteFirst = true then (s.ch n).ran b else ((s.ch n).clicked b).ran b).warnSet
                    (s.cue.book.warnList s.cue.warned) (s.cue.book.warnList s.cue.standby) n
                    f.changePoint)) ∧
            (freed.next = some (.mapEnd, k.acc / 65536) →
              t.click = { freed with context := none } ∧
              (s.port.mask.getLsbD 0 = true → s.port.mask.getLsbD 2 = true →
                s.port.notices.length < 31 →
                t.port.notices = s.port.notices ++
                  [.cueFired (s.takenAt (x - 4800)) f.fired f.changePoint .keep s.cue.standby false,
                    .mapEnd k.map (k.acc / 65536) (s.takenAt (x - 4800))])) ∧
            (∀ g h, k.segment = some g → k.segments[k.segmentIndex + 1]? = some h →
              h.kind = .tap ∨ h.kind = .free → k.countIn = none →
              freed.next = some (.start, k.acc / 65536) →
              let taps := if g.kind = .tap then [] else s.click.taps
              let entered : Context :=
                { k with
                  segmentIndex := k.segmentIndex + 1, beatIndex := 0, beatInBar := 1, pass := 1
                  bar := min 9999 (staticBefore k.segments (k.segmentIndex + 1) + 1)
                  tempo := h.startTempo, tapPlaced := false, moveDue := false }
              let waiting : ClickEngine :=
                { freed with
                  context := some entered, taps := taps, holdPoint := s.click.holdPoint.map fun _ => z }
              let first := tapFirstOnset (taps.getLastD 0) (tapInterval taps) z
              (h.kind = .free ∨ taps.length < 2 → t.click = waiting) ∧
              (h.kind = .tap → 2 ≤ taps.length →
                t.click =
                  { waiting with
                    context := some
                      { entered with
                        acc := first * 65536, tempo := tapTempo taps, tapPlaced := true, lastOnset := none
                        muteFirst := false } })))) ∧
        (∀ n, c.mapRef = .map n → s.cue.book.segments n ≠ [] →
          ∃ k, t.click.context = some k ∧ k.map = n ∧ k.segments = s.cue.book.segments n) ∧
        (∀ n g, c.mapRef = .map n → (s.cue.book.segments n).head? = some g → s.click.held = false →
          f.changePoint ≤ s.takenAt (x - 4800) + 4800 → c.countIn ≤ 4 → 1 ≤ g.beatsPerBar →
          g.beatsPerBar ≤ 15 → 2000 ≤ g.startTempo → g.startTempo ≤ 40000 →
          let c0 := f.changePoint
          let static := g.kind = .metered ∨ g.kind = .vamp
          let bars := if static then c.countIn else 0
          let beats := bars * g.beatsPerBar
          let hold := onsetOf (c0 * 65536 + beats * beatPeriod g.startTempo)
          let start : Context :=
            { map := n, segments := s.cue.book.segments n, segmentIndex := 0, beatIndex := 0, bar := 1
              beatInBar := 1, pass := 1, countIn := none, acc := c0 * 65536, tempo := g.startTempo
              lastOnset := none, tapPlaced := false, moveDue := false
              muteFirst := decide ((s.click.context.bind fun k => k.lastOnset) = some c0) }
          let waits := ¬ static ∨ (bars = 0 ∧ s.click.holdPoint ≠ none)
          t.click.release = false ∧ t.click.taps = [] ∧ t.click.held = false ∧
          t.click.holdPoint = s.click.holdPoint.map (fun _ => hold) ∧
          (waits → t.click.context = some start ∧ t.click.kept = s.click.kept) ∧
          (¬ waits →
            ∃ (b : BeatRecord) (k : Context),
              t.click.kept = s.click.kept.drop (s.click.kept.length - 1) ++ [b] ∧
              b.onset = c0 ∧ b.tempo = g.startTempo ∧ b.beatInBar = 1 ∧ b.level = .down ∧
              b.bar = (if bars = 0 then 1 else -(bars : Int)) ∧
              b.countdown = (if bars = 0 then none else some beats) ∧
              t.click.context = some k ∧ k.map = n ∧ k.segments = s.cue.book.segments n ∧
              k.acc = c0 * 65536 + beatPeriod g.startTempo ∧ k.lastOnset = some c0 ∧
              (bars ≠ 0 →
                k =
                  { start with
                    acc := c0 * 65536 + beatPeriod g.startTempo, lastOnset := some c0, muteFirst := false
                    countIn :=
                      if beats = 1 then none
                      else if g.beatsPerBar = 1 then some ⟨beats - 1, bars - 1, 1, g.startTempo⟩
                      else some ⟨beats - 1, bars, 2, g.startTempo⟩ }))) ∧
        (c.entries.Pairwise (fun a b => a.station < b.station) →
          ∀ e ∈ c.entries, (s.ch e.station).isRig = true →
            (t.patchOf e.station).expected = some e.patch) ∧
        (s.port.mask.getLsbD 0 = true → s.port.notices.length < 32 →
          ∃ rest, t.port.notices = s.port.notices ++
            .cueFired (s.takenAt (x - 4800)) f.fired f.changePoint c.mapRef s.cue.standby false :: rest) ∧
        t.time = s.time ∧ t.vin = s.vin ∧ t.vout = s.vout ∧ t.ctl.state = s.ctl.state ∧
        t.reports = [] ∧ t.pending = s.pending) ∧
    (s.cue.queued = none → s.cue.edit = .pendingApply → c.mapRef = .silence →
      ∃ t, exec .changeDue s = .next t ∧ t.cue.book = s.cue.buffer ∧
        t.cue.serial = (s.cue.serial + 1) % 65536 ∧ t.cue.edit = .closed ∧ t.cue.buffer = Book.empty ∧
        t.cue.running = handed.running ∧ t.cue.inFlight = none) ∧
    (∀ q d, s.cue.queued = some q → s.cue.edit ≠ .pendingApply → c.mapRef = .silence →
      s.cue.book.cue? q.cue = some d → d.mapRef = .silence →
      ∃ t, exec .changeDue s = .next t ∧
        t.cue =
          { handed with
            queued := none
            running := some ⟨d.number, d.label, d.text, s.takenAt (x - 4800) + 4800⟩ } ∧
        t.click.context = none ∧ t.click.limit = none)

/-- 04 section 4.4, R36, R71, R72. In RUNNING with both slots empty, a map end with a FOLLOW standby fires it with
source AUTO at the onset E, and it is handed over at once: it is the running cue from E and the cue after it the
standby and the warned cue. Its CUE_FIRED names the source AUTO, the sample of the call, no bar and the change point
E; a cue with map reference CONTINUE discards the context, and its MAP_END goes before (R36, R73). A downbeat of the
bar an armed AT_BAR standby names spends its mark and, in RUNNING, fires it with source BAR and the bar: with a cue
in flight and none queued into the queued slot, and with the in-flight slot empty in flight at the change point of
its kind, asked once the downbeat has been produced, which is held as the production limit or, at or before S +
HORIZON, handed over at once with its CUE_FIRED. In any other show state, or with both slots held, it only spends
the mark. -/
def Obligations.AutomaticCalls : Prop :=
  ∀ (s : State) (c : Context) (x : Sample) (d : Cue), s.click.context = some c → x ≤ s.time.S → s.reports = [] →
    let next := s.cue.book.numberAfter d.number
    (s.click.moveAt .mapEnd = some x → s.ctl.state = .running → s.cue.inFlight = none → s.cue.queued = none →
      s.cue.edit ≠ .pendingApply → s.cue.standby.bind s.cue.book.cue? = some d → d.goMode = .follow →
      s.cue.book.isAtBar next = false → (∀ n, d.mapRef = .map n → s.cue.book.segments n ≠ []) →
      ∃ t, exec .mapEnd s = .next t ∧
        t.cue =
          { s.cue with
            standby := next, barMark := false, warned := next
            running := some ⟨d.number, d.label, d.text, c.acc / 65536⟩ } ∧
        (∀ n, d.mapRef = .map n → ∃ k, t.click.context = some k ∧ k.map = n) ∧
        ((∀ n, d.mapRef ≠ .map n) → t.click.context = none) ∧
        (let y := s.takenAt x
         let ended : List Notice :=
           if d.mapRef = .keep ∧ s.port.mask.getLsbD 2 = true then [.mapEnd c.map (c.acc / 65536) y] else []
         s.port.mask.getLsbD 0 = true → s.port.notices.length + ended.length < 32 →
           ∃ rest, t.port.notices =
             s.port.notices ++ ended ++
               .cueFired y ⟨d.number, .auto, y, none⟩ (c.acc / 65536) d.mapRef next false :: rest) ∧
        t.time = s.time ∧ t.ctl.state = s.ctl.state ∧ t.vin = s.vin ∧ t.vout = s.vout) ∧
    (∀ g bar pass, s.click.moveAt .beat = some x → c.segment = some g →
      c.barReached g = some (bar, pass) → s.cue.barCue bar = some d →
      (s.ctl.state = .running → s.cue.inFlight ≠ none → s.cue.queued = none →
        ∃ t, exec .beatProduction s = .next t ∧
          t.cue =
            { s.cue with
              queued := some ⟨d.number, .bar, s.takenAt x, some bar⟩
              standby := next, barMark := s.cue.book.isAtBar next } ∧
          t.time = s.time ∧ t.ctl = s.ctl ∧ t.vin = s.vin ∧ t.vout = s.vout) ∧
      (s.ctl.state = .running → s.cue.inFlight = none →
        let y := s.takenAt x
        let fired : FiredCue := ⟨d.number, .bar, y, some bar⟩
        let moved := c.advance s.click.release
        let e : ClickEngine :=
          { s.click with
            context := some { moved.1 with lastOnset := some (c.record g).onset, muteFirst := false }
            release := s.click.release && !moved.2
            kept := s.click.kept.drop (s.click.kept.length - 1) ++ [c.record g] }
        let point := e.changePoint (y + 4800) d.changeKind
        let after : CueEngine := { s.cue with standby := next, barMark := s.cue.book.isAtBar next }
        let same : State → Prop := fun t =>
          (∀ m, (t.ch m).link.test = none) ∧ t.time = s.time ∧ t.ctl.state = .running ∧ t.vin = s.vin ∧
            t.vout = s.vout ∧ t.reports = [] ∧ t.pending = s.pending
        (y + 4800 < point →
          ∃ t, exec .beatProduction s = .next t ∧ same t ∧
            t.cue = { after with inFlight := some ⟨fired, point⟩ } ∧
            t.click = { e with limit := some point }) ∧
        (point ≤ y + 4800 → s.cue.queued = none → s.cue.edit ≠ .pendingApply →
          (∀ z, next.bind s.cue.book.cue? = some z → z.goMode = .manual) →
          ∃ t, exec .beatProduction s = .next t ∧ same t ∧
            t.cue = { after with running := some ⟨d.number, d.label, d.text, point⟩, warned := next } ∧
            (s.port.mask.getLsbD 0 = true → s.port.notices.length < 32 →
              ∃ rest, t.port.notices =
                s.port.notices ++ .cueFired y fired point d.mapRef next false :: rest))) ∧
      (s.ctl.state ≠ .running ∨ (s.cue.inFlight ≠ none ∧ s.cue.queued ≠ none) →
        ∃ t, exec .beatProduction s = .next t ∧ t.cue = { s.cue with barMark := false } ∧
          t.time = s.time ∧ t.ctl = s.ctl ∧ t.vin = s.vin ∧ t.vout = s.vout))

/-- 04 sections 4.2, 4.6 and 4.9, R37, R68, R76, R80, R81. LOCKOUT_SET stores the span, at most 2,000 ms with
CLAMPED, and leaves a lockout end. SILENCE_SET stores the limit, at most 50, and restarts the timer with it, a limit
of 0 stopping it. RELEASE sets the release flag where the current segment or the one after it is a VAMP, and is
refused NOT_VAMPING elsewhere; while the move into a TAP or FREE segment waits for E, the current segment is the one
of the next beat (log 39). When S reaches the silence end in REMOTE outside DARK with a limit above 0, the mode
becomes LOCAL with a new LOCAL entry and a CONTROL_MODE notice; otherwise the expiry does nothing. R171 has a reply
carry the contents its owner names; for RELEASE and SILENCE_SET none are named, and that their OK replies carry
nothing is the model's reading (log 44). -/
def Obligations.LockoutReleaseSilence : Prop :=
  ∀ (s : State) (tag k : Nat), s.admits tag →
    exec (.lockoutSet tag k) s =
      .next ({ s.taken with cue := { s.taken.cue with lockoutMs := min 2000 k } }.replied 0x1C tag
        (.ok (decide (2000 < k)) (.lockout (min 2000 k)))) ∧
    exec (.silenceSet tag k) s =
      .next ({ s.taken with
        ctl :=
          { s.ctl with
            silenceLimit := min 50 k
            silenceEnd := if min 50 k = 0 then none else some (s.time.S + min 50 k * 4800) } }.replied
        0x28 tag (.ok (decide (50 < k)) .empty)) ∧
    ((∃ c g, s.click.context = some c ∧ g.kind = .vamp ∧
        (c.segments[c.currentIndex]? = some g ∨ c.segments[c.currentIndex + 1]? = some g)) →
      exec (.release tag) s =
        .next ({ s.taken with click := { s.click with release := true } }.replied 0x1A tag
          (.ok false .empty))) ∧
    ((∀ c g, s.click.context = some c → g.kind = .vamp →
        c.segments[c.currentIndex]? ≠ some g ∧ c.segments[c.currentIndex + 1]? ≠ some g) →
      exec (.release tag) s = .next (s.refusedWith 0x1A tag .notVamping)) ∧
    (∀ x, s.ctl.silenceEnd = some x → x ≤ s.time.S → s.cue.mode = .remote → s.ctl.silenceLimit ≠ 0 →
      s.ctl.state ≠ .dark →
      exec .silenceEnd s =
        .next
          { s.quiet with
            cue := { s.cue with mode := .local_, localEntry := some ⟨s.takenAt x, 0⟩ }
            port := s.port.offer (.controlMode .local_ (s.takenAt x) none) }.done) ∧
    (s.cue.mode = .local_ ∨ s.ctl.silenceLimit = 0 ∨ s.ctl.state = .dark →
      exec .silenceEnd s = .next s.quiet.done)

/-! ## Patch changes (05) -/

/-- R86 to R88. A patch entry of a hand-over at c0: passed over for a station that is no RIG in use; without an UP
link it sets the expected patch and removes any entry; with one, and no entry, a patch already confirmed is only
expected; policy NOW or a CLEAR station is sent a PATCH without FORCE due c0 with the next serial, and the entry is
SENT with its acknowledgement end; else the entry waits, with its beats, the idle mark c0 + 24,000 and no deadline,
and a queued PATCH is withdrawn. -/
def Obligations.PatchEntriesTaken : Prop :=
  ∀ (s : State) (c0 : Sample) (e : PatchEntry),
    let n := e.station
    let c := s.ch n
    let p := s.patchOf n
    let rig := (c.assigned.role = .player ∨ c.assigned.role = .md) ∧ c.assigned.kind = .rig
    let known := p.entry = none ∧ p.confirmed = some e.patch
    (¬ rig → s.takeEntry c0 e = s) ∧
    (rig → c.link.state ≠ .up →
      s.takeEntry c0 e = s.setPatch n { p with expected := some e.patch, entry := none }) ∧
    (rig → c.link.state = .up → known →
      s.takeEntry c0 e = s.setPatch n { p with expected := some e.patch }) ∧
    (rig → c.link.state = .up → ¬ known → e.policy = .now ∨ p.held = .clear →
      s.takeEntry c0 e =
        (s.setCh n (c.handed (.patch c0 e.patch false ((p.serial + 1) % 256)))).setPatch n
          (p.sent e.patch c0 false c0 (c.link.delay.getD 0 + 96))) ∧
    (rig → c.link.state = .up → ¬ known → e.policy = .onRelease → p.held = .held →
      s.takeEntry c0 e =
        (s.setCh n { c with link := { c.link with queue := c.link.queue.filter fun x => !x.isPatch } }).setPatch
          n { p with
              expected := some e.patch
              entry := some ⟨e.patch, c0, .waitingRelease e.deferLimit (c0 + 24000) none⟩ })

/-- R89 to R91. An idle mark reached moves on by 24,000 and, while the engine is SILENT, FREE or WAIT_TAP, counts
one beat, which sets the deadline to the mark when it brings the count to 0. The deadline reached hands, on an UP
link, a PATCH with FORCE due at the later of S + lead and the change point and queues PATCH_STATE FORCED; on any
other link it does nothing. The acknowledgement end reached makes the entry UNCONFIRMED and queues PATCH_STATE
ACK_TIMEOUT. Each changes its own station alone. -/
def Obligations.PatchTimers : Prop :=
  ∀ (s : State) (n : Station) (patch : Patch) (cp x : Sample), x ≤ s.time.S →
    let p := s.patchOf n
    let y := s.takenAt x
    (∀ k dl, p.entry = some ⟨patch, cp, .waitingRelease k x dl⟩ →
      let idles := s.click.state = .silent ∨ s.click.state = .free ∨ s.click.state = .waitTap
      exec (.idleMark n) s =
        .next (s.quiet.setPatch n
          { p with
            entry := some
              ⟨patch, cp, .waitingRelease (if idles then k - 1 else k) (x + 24000)
                (if idles ∧ k = 1 then some x else if idles ∧ k ≠ 0 then none else dl)⟩ }).done) ∧
    (∀ k im, p.entry = some ⟨patch, cp, .waitingRelease k im (some x)⟩ →
      let lead := (s.ch n).link.delay.getD 0 + 96
      let due := max (y + lead) cp
      ((s.ch n).link.state = .up →
        exec (.patchDeadline n) s =
          .next
            { ((s.quiet.setCh n ((s.ch n).handed (.patch due patch true ((p.serial + 1) % 256)))).setPatch n
                (p.sent patch due true cp lead)) with
              port := s.port.offer
                (.patchState n .forced y .sent patch (some (due, (p.serial + 1) % 256))) }.done) ∧
      ((s.ch n).link.state ≠ .up → exec (.patchDeadline n) s = .next s.quiet.done)) ∧
    (∀ due force serial, p.entry = some ⟨patch, cp, .sent due force serial x⟩ →
      exec (.ackTimeout n) s =
        .next
          { (s.quiet.setPatch n { p with entry := some ⟨patch, cp, .unconfirmed due force serial⟩ }) with
            port := s.port.offer
              (.patchState n .ackTimeout y .unconfirmed patch (some (due, serial))) }.done)

/-- R85, R90, R92, R93, R122, R130. What a status frame without MD inputs does on an UP link: it restarts the
silence end (R130) and sets the reported part (R122), and settles the patch record. A PATCH_DONE sets the confirmed
patch and acts by the table of R92; a change by hand acts by R93; HELD to CLEAR releases a waiting entry, which is
sent without FORCE due at the later of S + lead and its change point. On a link that is not UP the frame changes
nothing. -/
def Obligations.PatchReports : Prop :=
  ∀ (s : State) (n : Station) (r : StationReport) (h : HeldState),
    let c : Channel :=
      { s.ch n with
        reported := ⟨some r.actual, r.heldMask, r.lamps⟩
        link := { (s.ch n).link with silenceEnd := some (s.time.S + 12000) } }
    let frame : List (Patch × Nat) → Option Patch → Instr := fun dones local_ =>
      .statusFrame n ⟨r, dones, local_, h, []⟩
    let p := s.patchOf n
    ((s.ch n).link.state ≠ .up → ∀ items, exec (.statusFrame n items) s = .next s.quiet.done) ∧
    ((s.ch n).link.state = .up →
      (h = p.held → ∀ (x : Patch) (k : Nat),
        let q := { p with confirmed := some x }
        let differs := p.expected ≠ none ∧ p.expected ≠ some x
        let wrong : MismatchCause → Notice := fun m => .patchMismatch n m s.time.S (some x) p.expected
        let after : Instr → PatchRecord → ControlPort → Prop := fun i q port =>
          exec i s = .next { ((s.quiet.setCh n c).setPatch n q) with port := port }.done
        let settled := if differs then s.port.offer (wrong .done) else s.port
        (p.entry = none → after (frame [(x, k)] none) q settled) ∧
        (∀ e due force serial a, p.entry = some e → e.phase = .sent due force serial a →
          after (frame [(x, k)] none) (if k = serial then { q with entry := none } else q)
            (if k = serial then settled else s.port)) ∧
        (∀ e due force serial, p.entry = some e → e.phase = .unconfirmed due force serial →
          after (frame [(x, k)] none) (if k = serial then { q with entry := none } else q)
            (if k = serial then
              settled.offer (.patchState n .lateDone s.time.S .none_ e.patch (some (due, serial)))
            else s.port)) ∧
        (∀ e b im dl, p.entry = some e → e.phase = .waitingRelease b im dl →
          after (frame [(x, k)] none) (if p.expected = some x then { q with entry := none } else q) s.port) ∧
        (p.entry = none →
          after (frame [] (some x)) q (if differs then s.port.offer (wrong .local_) else s.port)) ∧
        (∀ e, p.entry = some e →
          after (frame [] (some x))
            (if e.phase.isSent = false ∧ e.patch = x then { q with entry := none } else q)
            s.port)) ∧
      (p.held = .held → h = .clear → ∀ patch cp b im dl,
        p.entry = some ⟨patch, cp, .waitingRelease b im dl⟩ →
        let lead := (s.ch n).link.delay.getD 0 + 96
        let due := max (s.time.S + lead) cp
        exec (frame [] none) s =
          .next ((s.quiet.setCh n (c.handed (.patch due patch false ((p.serial + 1) % 256)))).setPatch n
            ({ p with held := .clear }.sent patch due false cp lead)).done) ∧
      ((p.held = .clear ∨ h = .held ∨ ∀ e, p.entry = some e → e.phase.notWaiting) →
        exec (frame [] none) s =
          .next ((s.quiet.setCh n c).setPatch n { p with held := h }).done))

/-! ## Show state, holds and show stops (06) -/

/-- 06 section 6.2, R78, R102. START_PRESHOW is refused WRONG_STATE outside DARK, then WRONG_STATE with no cue in
the book, then STOP_ASSERTED in LEVEL with the line asserted. Taken, the show is PRESHOW with the standby and the
warned cue at the first cue and no running cue; STOP lamps, the CUE lamps of the old and new warn lists and
SHOW_STATE follow; the reply carries the standby. -/
def Obligations.StartPreshow : Prop :=
  ∀ (s : State) (tag : Nat), s.admits tag →
    let holdsBack := s.ctl.lineMode = .level ∧ (s.ctl.qualifier = .qualified ∨ s.ctl.qualifier = .releasing)
    (s.ctl.state ≠ .dark ∨ s.cue.book.cues = [] →
      exec (.startPreshow tag) s = .next (s.refusedWith 0x20 tag .wrongState)) ∧
    (s.ctl.state = .dark → s.cue.book.cues ≠ [] → holdsBack →
      exec (.startPreshow tag) s = .next (s.refusedWith 0x20 tag .stopAsserted)) ∧
    (∀ c rest, s.ctl.state = .dark → s.cue.book.cues = c :: rest → ¬ holdsBack →
      let first : Option Nat := some c.number
      ∃ t, exec (.startPreshow tag) s = .next t ∧
        t.ctl = { s.taken.ctl with state := .preshow } ∧
        t.cue =
          { s.taken.cue with
            standby := first, barMark := s.cue.book.isAtBar first, running := none, warned := first } ∧
        (∀ n, t.ch n =
          let d := (s.ch n).stopLampSet .preshow s.time.S
          if n ∈ s.cue.book.warnList first then d.cueLampSet warnPattern s.time.S
          else if n ∈ s.cue.book.warnList s.cue.warned then d.cueLampSet offPattern s.time.S
          else d) ∧
        t.port =
          ((s.taken.port.offer (.showState .dark .preshow .startPreshow s.time.S none)).answer
            ⟨0x20, tag, .ok false (.standby first), true⟩).arbitrate ∧
        t.time = s.time ∧ t.click = s.click ∧ t.patches = s.patches ∧ t.vin = s.vin ∧ t.vout = s.vout ∧
        t.reports = s.reports ∧ t.emitted = [] ∧ t.pending = s.pending)

/-- 06 section 6.3, R41, R104. HOLD is refused WRONG_STATE outside RUNNING. In RUNNING with none pending it sets the
hold point and records it with the source HOST; with one pending it answers the recorded point and changes nothing.
The hold point is S + HORIZON where no beats are produced and, in a METERED segment at a steady tempo with no
production limit, the onset of the next beat 1. -/
def Obligations.HoldRequestsJudged : Prop :=
  ∀ (s : State) (tag : Nat), s.admits tag →
    let x := s.click.holdPointAt (s.time.S + 4800)
    (s.ctl.state ≠ .running → exec (.hold tag) s = .next (s.refusedWith 0x21 tag .wrongState)) ∧
    (s.ctl.state = .running → s.ctl.holdPending = none →
      exec (.hold tag) s =
        .next ({ s.taken with
          click := { s.click with holdPoint := some x }
          ctl := { s.taken.ctl with holdPending := some ⟨x, .host⟩ } }.replied 0x21 tag
          (.ok false (.holdPoint x)))) ∧
    (∀ p, s.ctl.state = .running → s.ctl.holdPending = some p →
      exec (.hold tag) s = .next (s.taken.replied 0x21 tag (.ok false (.holdPoint p.point)))) ∧
    (s.click.state.produces = false → x = s.time.S + 4800) ∧
    (∀ c g n, s.click.context = some c → s.click.state.produces = true → s.click.limit = none →
      c.segment = some g → g.kind = .metered → g.target = none → g.bars = some n → c.countIn = none →
      c.moveDue = false → 1 ≤ g.beatsPerBar → g.beatsPerBar ≤ 15 →
      c.beatIndex % g.beatsPerBar + 1 = c.beatInBar → c.beatIndex < n * g.beatsPerBar →
      x = (c.acc + (if c.beatInBar = 1 then 0 else g.beatsPerBar + 1 - c.beatInBar)
          * beatPeriod g.startTempo) / 65536)

/-- 06 section 6.3, R43, R106. CONTINUE is refused WRONG_STATE outside HOLDING; the count-in above 4 becomes 4 with
CLAMPED; with a continue pending it answers the recorded values and changes nothing. Taken with a beat held and no
limit, the engine leaves HELD with the held beat at S + HORIZON plus its count-in, the first beat is produced at S +
HORIZON, the continue is recorded and the show stays HOLDING. That a held beat of a TAP segment whose first beat is
placed is such a beat is the model's choice (log 40), and so is that a count-in which the hold was reached in is
dropped, the new one leading straight into the beat it was to lead into (log 68). With no context, or at a FREE
segment or an unplaced TAP segment, it returns at once: the show is RUNNING and no continue is pending; at the map
end, with the context discarded and MAP_END sent with E = S + HORIZON. -/
def Obligations.ContinueRequestsJudged : Prop :=
  ∀ (s : State) (tag k : Nat), s.admits tag → s.reports = [] →
    let s0 := s.time.S + 4800
    let bars := min 4 k
    let clamped := decide (4 < k)
    (s.ctl.state ≠ .holding → exec (.continueShow tag k) s = .next (s.refusedWith 0x22 tag .wrongState)) ∧
    (∀ p, s.ctl.state = .holding → s.ctl.continuePending = some p →
      exec (.continueShow tag k) s =
        .next (s.taken.replied 0x22 tag (.ok clamped (.continueStart p.start p.countIn)))) ∧
    (∀ c g, s.ctl.state = .holding → s.ctl.continuePending = none → s.click.context = some c →
      c.segment = some g → g.kind = .metered ∨ g.kind = .vamp ∨ (g.kind = .tap ∧ c.tapPlaced = true) →
      c.moveDue = false → 1 ≤ g.beatsPerBar → s.click.limit = none → s.click.holdPoint = none →
      let tempo := g.tempoAt c.beatIndex c.tempo
      ∃ (t : State) (b : BeatRecord), exec (.continueShow tag k) s = .next t ∧
        t.ctl = { s.taken.ctl with continuePending := some ⟨s0, bars, .host⟩ } ∧
        t.click.held = false ∧ t.click.taps = [] ∧
        t.click.reach =
          some ⟨.continued, s0 + bars * g.beatsPerBar * beatPeriod tempo / 65536⟩ ∧
        t.click.kept = s.click.kept.drop (s.click.kept.length - 1) ++ [b] ∧ b.onset = s0 ∧ b.tempo = tempo ∧
        (bars = 0 → b.bar = (c.bar : Int) ∧ b.beatInBar = c.beatInBar ∧ b.countdown = none) ∧
        (bars ≠ 0 → b.bar = -(bars : Int) ∧ b.beatInBar = 1 ∧ b.level = .down ∧
          b.countdown = some (bars * g.beatsPerBar)) ∧
        (∀ n, (s.ch n).fedTo (t.ch n)) ∧ (∀ n, t.patchOf n = (s.patchOf n).counted s0) ∧
        t.cue = { s.taken.cue with barMark := t.cue.barMark } ∧
        t.port =
          (s.taken.port.answer ⟨0x22, tag, .ok clamped (.continueStart s0 bars), true⟩).arbitrate ∧
        t.time = s.time ∧ t.vin = s.vin ∧ t.vout = s.vout ∧ t.reports = [] ∧ t.emitted = [] ∧
        t.pending = s.pending) ∧
    (s.ctl.state = .holding → s.ctl.continuePending = none →
      (∀ c, s.click.context = some c →
        ∃ g, c.segment = some g ∧ (g.kind = .free ∨ (g.kind = .tap ∧ c.tapPlaced = false))) →
      ∃ t, exec (.continueShow tag k) s = .next t ∧
        t.ctl = { s.taken.ctl with state := .running, continuePending := none } ∧
        t.click = { s.click with held := false, taps := [], reach := none } ∧
        (∀ n, t.ch n = (s.ch n).stopLampSet .running s.time.S) ∧ t.cue = s.taken.cue ∧
        t.port =
          ((s.taken.port.offer
            (.showState .holding .running .continueReached s.time.S (some s.time.S))).answer
            ⟨0x22, tag, .ok clamped (.continueStart s0 bars), true⟩).arbitrate ∧
        t.time = s.time ∧ t.patches = s.patches ∧ t.vin = s.vin ∧ t.vout = s.vout ∧ t.reports = [] ∧
        t.emitted = [] ∧ t.pending = s.pending) ∧
    (∀ c, s.ctl.state = .holding → s.ctl.continuePending = none → s.click.context = some c →
      c.segment = none →
      ∃ t, exec (.continueShow tag k) s = .next t ∧
        t.ctl = { s.taken.ctl with state := .running, continuePending := none } ∧
        t.click = { s.click with context := none, held := false, taps := [], reach := none } ∧
        (∀ n, t.ch n = (s.ch n).stopLampSet .running s.time.S) ∧ t.cue = s.taken.cue ∧
        t.port =
          (((s.taken.port.offer (.mapEnd c.map s0 s.time.S)).offer
            (.showState .holding .running .continueReached s.time.S (some s.time.S))).answer
            ⟨0x22, tag, .ok clamped (.continueStart s0 bars), true⟩).arbitrate ∧
        t.time = s.time ∧ t.patches = s.patches ∧ t.vin = s.vin ∧ t.vout = s.vout ∧ t.reports = [] ∧
        t.emitted = [] ∧ t.pending = s.pending)

/-- 06 section 6.5, R34, R44, R60 to R62, R77, R79, R96, R109 to R113, R137. A stop taken in PRESHOW, RUNNING,
HOLDING or RESUMING: the STOP request at S, a qualification time of 0 at the line's becoming active or set by
STOPLINE_SET with the line active, or the expiry in QUALIFYING. The show is STOPPED with a new record; the engine is
halted (one that is HELD only loses its production limit, log 60; a count-in is dropped whole, the model's choice,
log 73), every UP channel cancelled, station 1 first (the model's choice, log 64), the waiting and later patches
discarded, the slots emptied with the standby and the warned cue back at the cue in flight, the STOP lamps set,
SHOW_STOP then CUE_CANCELLED queued, a pending edit applied after the revert, with the CUE lamps of the standby
found in the new book and EDIT_COMMITTED last, and link tests ended. -/
def Obligations.StopTaken : Prop :=
  ∀ s : State, s.ctl.state ≠ .dark → s.ctl.state ≠ .stopped →
    let back := s.cue.inFlight.map fun f => f.fired.cue
    let empty := s.cue.inFlight = none ∧ s.cue.queued = none
    let recordOf : StopSource → Sample → StopRecord := fun src y =>
      { causes := ⟨decide (src = .host), decide (src = .line), decide (src = .md)⟩
        firstCause := src, stopSample := y, before := s.ctl.state
        running := s.cue.running.map RunningCue.number
        sounded := ((s.click.kept.filter fun b => decide (b.onset ≤ y)).getLast?).map fun b =>
          ⟨b.bar, b.beatInBar, b.pass⟩
        standby := s.cue.standby, resume := none }
    let applies := s.cue.edit = .pendingApply
    let reverted : CueEngine → CueEngine := fun cue =>
      if empty then cue
      else
        { cue with
          inFlight := none, queued := none, standby := back, warned := back
          barMark := s.cue.book.isAtBar back }
    let stopped : CueEngine → Sample → State → Prop := fun cue y t =>
      t.click = s.click.stopped y ∧
      t.cue = (if applies then (reverted cue).committed else reverted cue) ∧
      (∀ n, t.patchOf n = (s.patchOf n).stopped y) ∧
      (∀ n, t.ch n =
        let c := ((s.ch n).cancelled y).stopLampSet .stopped y
        let r := reverted s.cue
        let e :=
          if empty then c
          else c.warnSet (s.cue.book.warnList s.cue.warned) (s.cue.book.warnList back) n y
        let d :=
          if applies then
            e.warnSet (s.cue.book.warnList r.warned) (s.cue.buffer.warnList r.foundStandby) n y
          else e
        { d with link := { d.link with test := none } }) ∧
      t.emitted =
        (((List.finRange 24).filter fun n => decide ((s.ch n).link.state = .up)).map fun n =>
          Emission.link n y (.cancel y)) ∧
      t.time = s.time ∧ t.vin = s.vin ∧ t.vout = s.vout ∧ t.reports = s.reports ∧ t.pending = s.pending
    let notices : ControlPort → StopSource → Sample → List Notice := fun p src y =>
      let p1 := p.offer (.showStop y (.new (recordOf src y)))
      let p2 :=
        if empty then p1
        else p1.offer (.cueCancelled .stop y (s.cue.inFlight.map Flight.fired) s.cue.queued back)
      (if applies then p2.offer ((reverted s.cue).committedNotice y) else p2).notices
    (∀ tag, s.admits tag →
      ∃ t, exec (.stop tag) s = .next t ∧ stopped s.taken.cue s.time.S t ∧
        t.ctl =
          { s.taken.ctl with
            state := .stopped, holdPending := none, continuePending := none
            stopRecord := some (recordOf .host s.time.S) } ∧
        t.port.notices = notices s.taken.port .host s.time.S ∧
        t.port.replies.getLast? =
          some ⟨0x23, tag, .ok false (.stopRecord (some (recordOf .host s.time.S))), true⟩) ∧
    (s.ctl.qualifier = .idle → s.ctl.qualifyMs = 0 →
      ∃ t, exec .stopLineActive s = .next t ∧ stopped s.cue s.time.S t ∧
        t.ctl =
          { s.ctl with
            state := .stopped, holdPending := none, continuePending := none
            stopRecord := some (recordOf .line s.time.S)
            lineActive := true, qualifier := .qualified, timerEnd := none } ∧
        t.port.notices = notices s.port .line s.time.S) ∧
    (∀ x, s.ctl.qualifier = .qualifying → s.ctl.timerEnd = some x → x ≤ s.time.S →
      ∃ t, exec .qualifierTimerExpiry s = .next t ∧ stopped s.cue (s.takenAt x) t ∧
        t.ctl =
          { s.ctl with
            state := .stopped, holdPending := none, continuePending := none
            stopRecord := some (recordOf .line (s.takenAt x))
            qualifier := .qualified, timerEnd := none } ∧
        t.port.notices = notices s.port .line (s.takenAt x)) ∧
    (∀ tag mode m, s.admits tag → s.ctl.lineActive = true →
      (mode = 0 ∧ m = .level) ∨ (mode = 1 ∧ m = .edge) →
      ∃ t, exec (.stoplineSet tag mode 0) s = .next t ∧ stopped s.taken.cue s.time.S t ∧
        t.ctl =
          { s.taken.ctl with
            state := .stopped, holdPending := none, continuePending := none
            stopRecord := some (recordOf .line s.time.S)
            lineMode := m, qualifyMs := 0, qualifier := .qualified, timerEnd := none } ∧
        t.port.notices = notices s.taken.port .line s.time.S ∧
        t.port.replies.getLast? =
          some ⟨0x27, tag, .ok false (.stopLine m 0 .qualified), true⟩)

/-- 06 sections 6.4 and 6.5, R108 to R110, R112. The qualifier moves by R108's table, changing nothing else where it
does not qualify; a qualification in DARK changes only the qualifier, and in STOPPED adds LINE to the cause set with
SHOW_STOP ADDED, or nothing where LINE is in it. STOP is refused WRONG_STATE in DARK and adds HOST in STOPPED.
STOPLINE_SET refuses an unknown mode, stores mode and time (255 at most, with CLAMPED), and judges the line afresh:
with a time of 0 an active line qualifies at once, which is a stop (`StopTaken` says all it does) or an added cause.
-/
def Obligations.StopLine : Prop :=
  ∀ s : State,
    let q := s.ctl.qualifier
    let ms := s.ctl.qualifyMs
    let moved : Bool → Qualifier → Option Sample → ShowControl := fun active q timer =>
      { s.ctl with lineActive := active, qualifier := q, timerEnd := timer }
    let goes : Instr → ShowControl → Prop := fun i c => exec i s = .next { s.quiet with ctl := c }.done
    let counted : Instr → Bool → Sample → Prop := fun i active y =>
      (s.ctl.state = .dark → goes i (moved active .qualified none)) ∧
      (∀ r, s.ctl.state = .stopped → s.ctl.stopRecord = some r →
        (r.causes.line = true → goes i (moved active .qualified none)) ∧
        (r.causes.line = false →
          exec i s =
            .next
              { s.quiet with
                ctl :=
                  { moved active .qualified none with
                    stopRecord := some { r with causes := { r.causes with line := true } } }
                port := s.port.offer (.showStop y (.added .line { r.causes with line := true })) }.done))
    (q = .idle → ms ≠ 0 → goes .stopLineActive (moved true .qualifying (some (s.time.S + 48 * ms)))) ∧
    (q = .idle → ms = 0 → counted .stopLineActive true s.time.S) ∧
    (q = .releasing → goes .stopLineActive (moved true .qualified none)) ∧
    (q = .qualifying ∨ q = .qualified → goes .stopLineActive (moved true q s.ctl.timerEnd)) ∧
    (q = .qualifying → goes .stopLineInactive (moved false .idle none)) ∧
    (q = .qualified → ms ≠ 0 →
      goes .stopLineInactive (moved false .releasing (some (s.time.S + 48 * ms)))) ∧
    (q = .qualified → ms = 0 → goes .stopLineInactive (moved false .idle none)) ∧
    (q = .idle ∨ q = .releasing → goes .stopLineInactive (moved false q s.ctl.timerEnd)) ∧
    (∀ x, s.ctl.timerEnd = some x → x ≤ s.time.S →
      (q = .qualifying → counted .qualifierTimerExpiry s.ctl.lineActive (s.takenAt x)) ∧
      (q = .releasing → goes .qualifierTimerExpiry (moved s.ctl.lineActive .idle none))) ∧
    (∀ tag, s.admits tag →
      (s.ctl.state = .dark → exec (.stop tag) s = .next (s.refusedWith 0x23 tag .wrongState)) ∧
      (∀ r, s.ctl.state = .stopped → s.ctl.stopRecord = some r →
        (r.causes.host = true →
          exec (.stop tag) s =
            .next (s.taken.replied 0x23 tag (.ok false (.stopRecord (some r))))) ∧
        (r.causes.host = false →
          let added : StopRecord := { r with causes := { r.causes with host := true } }
          exec (.stop tag) s =
            .next ({ s.taken with
              ctl := { s.taken.ctl with stopRecord := some added }
              port := s.taken.port.offer (.showStop s.time.S (.added .host added.causes)) }.replied 0x23 tag
              (.ok false (.stopRecord (some added)))))) ∧
      (∀ mode time, 1 < mode →
        exec (.stoplineSet tag mode time) s = .next (s.refusedWith 0x27 tag .badValue)) ∧
      (∀ mode m time, (mode = 0 ∧ m = .level) ∨ (mode = 1 ∧ m = .edge) →
        let span := min 255 time
        let set : Qualifier → Option Sample → Host.Outcome State Fault Refusal := fun q timer =>
          .next ({ s.taken with
            ctl :=
              { s.taken.ctl with
                lineMode := m, qualifyMs := span, qualifier := q, timerEnd := timer } }.replied 0x27 tag
            (.ok (decide (255 < time)) (.stopLine m span q)))
        (s.ctl.lineActive = false → exec (.stoplineSet tag mode time) s = set .idle none) ∧
        (s.ctl.lineActive = true → time ≠ 0 →
          exec (.stoplineSet tag mode time) s = set .qualifying (some (s.time.S + 48 * span))) ∧
        (s.ctl.lineActive = true → time = 0 → s.ctl.state = .dark →
          exec (.stoplineSet tag mode time) s = set .qualified none) ∧
        (∀ r, s.ctl.lineActive = true → time = 0 → s.ctl.state = .stopped → s.ctl.stopRecord = some r →
          (r.causes.line = true → exec (.stoplineSet tag mode time) s = set .qualified none) ∧
          (r.causes.line = false →
            let causes := { r.causes with line := true }
            exec (.stoplineSet tag mode time) s =
              .next ({ s.taken with
                ctl :=
                  { s.taken.ctl with
                    lineMode := m, qualifyMs := 0, qualifier := .qualified, timerEnd := none
                    stopRecord := some { r with causes := causes } }
                port := s.taken.port.offer (.showStop s.time.S (.added .line causes)) }.replied 0x27 tag
                (.ok false (.stopLine m 0 .qualified))))) ∧
        (s.ctl.lineActive = true → time = 0 → s.ctl.state ≠ .dark → s.ctl.state ≠ .stopped →
          ∃ t, exec (.stoplineSet tag mode time) s = .next t ∧
            t.ctl =
              { s.taken.ctl with
                state := .stopped, holdPending := none, continuePending := none
                stopRecord := t.ctl.stopRecord
                lineMode := m, qualifyMs := 0, qualifier := .qualified, timerEnd := none } ∧
            (t.ctl.stopRecord.map fun r => (r.causes, r.firstCause, r.stopSample, r.before)) =
              some (⟨false, true, false⟩, .line, s.time.S, s.ctl.state) ∧
            t.port.replies.getLast? =
              some ⟨0x27, tag, .ok false (.stopLine m 0 .qualified), true⟩)))

/-- 06 section 6.7, R45, R78, R97, R115, R116. RESUME is refused WRONG_STATE outside STOPPED, STOP_ASSERTED in LEVEL
with the line asserted, NOT_FOUND for a cue the book lacks. Taken, the cause set is cleared and resume filled, the
running cue is the target from r = S + HORIZON, the standby and the warned cue the cue after it, and each RIG's
expected patch is rebuilt and sent due r on an UP link where it differs. A RIG in use on a link that is not UP is
sent no PATCH and keeps no entry; one on an UP link whose confirmed patch is the rebuilt expected patch, or whose
expected patch stays UNKNOWN, is sent none and keeps only an entry of that patch (which counts the first beat as any
waiting entry does, R89); any other station is sent none and its record stands. With a last bar the show is
RESUMING, the first beat falls at r and the target bar, the first static bar of that number, after the count-in;
without one the show is RUNNING at once, and the carried bar is echoed (log 40). That the pending entry of a patch
sent here has r as its change point is the model's choice (log 53). -/
def Obligations.ResumeRequestsJudged : Prop :=
  ∀ (s : State) (tag cue bar k : Nat), s.admits tag → s.reports = [] →
    let holdsBack := s.ctl.lineMode = .level ∧ (s.ctl.qualifier = .qualified ∨ s.ctl.qualifier = .releasing)
    let call := exec (.resume tag cue bar k) s
    (s.ctl.state ≠ .stopped → call = .next (s.refusedWith 0x24 tag .wrongState)) ∧
    (s.ctl.state = .stopped → holdsBack → call = .next (s.refusedWith 0x24 tag .stopAsserted)) ∧
    (s.ctl.state = .stopped → ¬ holdsBack → s.cue.book.cue? cue = none →
      call = .next (s.refusedWith 0x24 tag .notFound)) ∧
    (∀ c record, s.ctl.state = .stopped → ¬ holdsBack → s.cue.book.cue? cue = some c →
      s.ctl.stopRecord = some record → s.click.limit = none → s.click.holdPoint = none →
      let r := s.time.S + 4800
      let bars := min 4 k
      let map := s.cue.book.mapUsed c
      let last := map.bind fun n => lastBar (s.cue.book.segments n)
      let b := match last with | some l => min l (max 1 bar) | none => bar
      let next := s.cue.book.numberAfter c.number
      let filled : StopRecord := { record with causes := ⟨false, false, false⟩, resume := some ⟨s.time.S, c.number, b, map⟩ }
      let reply : Reply := ⟨0x24, tag, .ok (decide (4 < k) || decide (b ≠ bar)) (.resume r map b bars), true⟩
      let notice : Notice := .showState .stopped .resuming .resume s.time.S none
      let rig : Station → Prop := fun n =>
        (s.ch n).assigned.kind = .rig ∧ (s.ch n).assigned.role ≠ .unused
      let called : Station → Option Patch := fun n =>
        (patchUpTo s.cue.book.cues c.number n).or (s.patchOf n).expected
      let sends : Station → Prop := fun n =>
        rig n ∧ (s.ch n).link.state = .up ∧ called n ≠ none ∧ (s.patchOf n).confirmed ≠ called n
      let unsent : Station → PatchRecord := fun n =>
        if rig n then
          { s.patchOf n with
            expected := called n
            entry := (s.patchOf n).entry.filter fun e =>
              decide ((s.ch n).link.state = .up ∧ called n = some e.patch) }
        else s.patchOf n
      (∀ n, c.mapRef = .map n → map = some n) ∧ (c.mapRef = .silence → map = none) ∧
      ∃ t, call = .next t ∧
        t.cue =
          { s.taken.cue with
            running := some ⟨c.number, c.label, c.text, r⟩, standby := next, warned := next
            barMark := t.cue.barMark } ∧
        (∀ n x, called n = some x → sends n →
          t.patchOf n = (s.patchOf n).sent x r false r ((s.ch n).link.delay.getD 0 + 96)) ∧
        (∀ n, ¬ sends n →
          (∀ e ∈ (t.ch n).link.queue, e.isPatch = true → e ∈ (s.ch n).link.queue) ∧
          (last = none → t.patchOf n = unsent n)) ∧
        (∀ n, (s.ch n).fedTo (t.ch n)) ∧
        (last = none →
          t.ctl = { s.taken.ctl with state := .running, stopRecord := some filled } ∧
          t.port =
            (((s.taken.port.offer notice).offer
              (.showState .resuming .running .resumeReached s.time.S (some s.time.S))).answer reply).arbitrate) ∧
        (∀ l n, last = some l → map = some n →
          (∀ g ∈ s.cue.book.segments n, 1 ≤ g.beatsPerBar ∧ (g.isStatic = true → ∃ m, g.bars = some (m + 1))) →
          t.ctl = { s.taken.ctl with state := .resuming, stopRecord := some filled } ∧
          t.port = ((s.taken.port.offer notice).answer reply).arbitrate ∧
          t.click.held = false ∧ t.click.release = false ∧ t.click.taps = [] ∧
          (∀ n, ¬ sends n → t.patchOf n = (unsent n).counted r) ∧
          ∃ (first : BeatRecord) (i : Nat) (g : Segment) (c2 : Context),
            let gs := s.cue.book.segments n
            let beat := (b - 1 - staticBefore gs i) * g.beatsPerBar
            gs[i]? = some g ∧ g.isStatic = true ∧ min 9999 (staticBefore gs i) < b ∧
            b ≤ min 9999 (staticBefore gs (i + 1)) ∧
            t.click.kept = [first] ∧ first.onset = r ∧ first.tempo = g.tempoAt beat g.startTempo ∧
            t.click.context = some c2 ∧ c2.map = n ∧ c2.segments = gs ∧
            t.click.reach =
              some ⟨.resumed, r + bars * g.beatsPerBar * beatPeriod first.tempo / 65536⟩ ∧
            (bars = 0 → first.bar = (b : Int) ∧ first.beatInBar = 1 ∧ first.countdown = none) ∧
            (bars ≠ 0 → first.bar = -(bars : Int) ∧ first.beatInBar = 1 ∧
              first.countdown = some (bars * g.beatsPerBar) ∧ c2.segmentIndex = i ∧ c2.beatIndex = beat ∧
              c2.bar = b ∧ c2.beatInBar = 1)) ∧
        t.time = s.time ∧ t.vin = s.vin ∧ t.vout = s.vout ∧ t.reports = [] ∧ t.emitted = [] ∧
        t.pending = s.pending)

/-- 06 sections 6.8 and 6.9, R46, R78, R117, R118. END_SHOW in DARK changes nothing. Elsewhere the show is DARK with
no hold or continue pending, the Click Engine is emptied, the standby is END, running and warned cue none, both
slots empty with CUE_CANCELLED where one held a cue, the CUE lamps of the old warn list and the STOP lamps set, and
SHOW_STATE queued; the patches and the stop record stand. A pending edit is applied once the slots are empty, with
EDIT_COMMITTED before SHOW_STATE, and the standby stays END (R60 to R62). R171 has a reply carry the contents its
owner names; R117 names none, and that the OK reply carries nothing is the model's reading (log 44). STOP_QUERY
changes nothing and carries the record. -/
def Obligations.EndAndQuery : Prop :=
  ∀ (s : State) (tag : Nat), s.admits tag →
    (s.ctl.state = .dark →
      exec (.endShow tag) s = .next (s.taken.replied 0x25 tag (.ok false .empty))) ∧
    (s.ctl.state ≠ .dark →
      let applies := s.cue.edit = .pendingApply
      let ended : CueEngine :=
        { s.taken.cue with
          standby := none, barMark := false, running := none, warned := none, inFlight := none
          queued := none }
      let cancelled : ControlPort :=
        if s.cue.inFlight = none ∧ s.cue.queued = none then s.taken.port
        else
          s.taken.port.offer
            (.cueCancelled .endShow s.time.S (s.cue.inFlight.map Flight.fired) s.cue.queued none)
      ∃ t, exec (.endShow tag) s = .next t ∧
        t.ctl = { s.taken.ctl with state := .dark, holdPending := none, continuePending := none } ∧
        t.click =
          { context := none, held := false, limit := none, holdPoint := none, release := false, taps := []
            kept := [], reach := none } ∧
        t.cue =
          (if applies then
            { ended with
              book := s.cue.buffer, serial := (s.cue.serial + 1) % 65536, buffer := ⟨[], []⟩
              edit := .closed }
          else ended) ∧
        (∀ n, t.ch n =
          (if n ∈ s.cue.book.warnList s.cue.warned then (s.ch n).cueLampSet offPattern s.time.S
          else s.ch n).stopLampSet .dark s.time.S) ∧
        t.port =
          (((if applies then
              cancelled.offer
                (.editCommitted ((s.cue.serial + 1) % 65536) s.time.S s.cue.buffer.counts none false)
            else cancelled).offer
            (.showState s.ctl.state .dark .endShow s.time.S none)).answer
            ⟨0x25, tag, .ok false .empty, true⟩).arbitrate ∧
        t.time = s.time ∧ t.patches = s.patches ∧ t.vin = s.vin ∧ t.vout = s.vout ∧
        t.reports = s.reports ∧ t.emitted = [] ∧ t.pending = s.pending) ∧
    exec (.stopQuery tag) s =
      .next (s.taken.replied 0x26 tag
        (.ok false
          (.stopQuery
            { showState := s.ctl.state
              holdPending := s.ctl.holdPending
              continuePending := s.ctl.continuePending
              stopRecord := s.ctl.stopRecord
              activeOpen := s.ctl.activeOpen
              lineMode := s.ctl.lineMode
              qualifyMs := s.ctl.qualifyMs
              qualifier := s.ctl.qualifier
              timerEnd := s.ctl.timerEnd
              asserted := decide (s.ctl.qualifier = .qualified ∨ s.ctl.qualifier = .releasing)
              silenceLimit := s.ctl.silenceLimit
              silenceEnd := s.taken.ctl.silenceEnd })))

/-! ## Pit link (07) -/

/-- 07 sections 7.1 and 7.4, R84, R119 to R121, R132. STATION_SET is refused BAD_VALUE for a station above 24, a
role, kind, subdivision or name character out of range, and role MD where another station has it or station 0 names
several. Taken for one station it writes the assigned part, clamped; an UP link gets the settings frame; a role out
of UNUSED puts the link in SEEK and one into UNUSED puts it OFF (with rate FULL and tries 0, log 54), each with
LINK_STATE ROLE, from UP by the act of R132, which clears the lamps' patterns too (log 38); a station that leaves
use or turns CLICK, in every link state and from UNUSED too, loses its patch record and its queued PATCH. For
station 0 every station in use is written. The refresh repeats the settings frame every 48,000 samples. -/
def Obligations.StationSettings : Prop :=
  ∀ (s : State) (tag number : Nat) (raw : RawAssigned), s.admits tag → raw.name.length ≤ 8 →
    let call := exec (.stationSet tag number raw) s
    let refused := call = .next (s.refusedWith 0x30 tag .badValue)
    let bad := 2 < raw.role ∨ 1 < raw.kind ∨ raw.click.subdivision ∉ [1, 2, 3, 4, 6, 8] ∨
      ∃ x ∈ raw.name, x < 32 ∨ 126 < x
    let a : Assigned :=
      { role := if raw.role = 0 then .unused else if raw.role = 1 then .player else .md
        kind := if raw.kind = 0 then .click else .rig
        name := raw.name
        click := { raw.click with level := min 15 raw.click.level }
        md := raw.md
        linkTries := min 7 (max 1 raw.linkTries)
        errorLimit := min 15 raw.errorLimit }
    let clamped :=
      decide (15 < raw.click.level ∨ raw.linkTries = 0 ∨ 7 < raw.linkTries ∨ 15 < raw.errorLimit)
    (24 < number ∨ bad → refused) ∧
    (∀ n : Station, number = n.val + 1 → a.role = .md → (∃ m, m ≠ n ∧ (s.ch m).assigned.role = .md) →
      refused) ∧
    (∀ n m : Station, number = 0 → a.role = .md → n ≠ m → (s.ch n).assigned.role ≠ .unused →
      (s.ch m).assigned.role ≠ .unused → refused) ∧
    (∀ n : Station, number = n.val + 1 → ¬ bad →
      (a.role = .md → ∀ m, m ≠ n → (s.ch m).assigned.role ≠ .md) →
      let c := s.ch n
      let written : Channel := { c with assigned := a }
      let p := s.patchOf n
      let kept : Prop := ¬ (c.assigned.kind = .rig ∧ a.kind = .click)
      let unpatched : List Event := c.link.queue.filter fun e => !e.isPatch
      let lost : PatchRecord := ⟨none, none, .clear, 0, none⟩
      let wrote : Channel → PatchRecord → ControlPort → List Emission → Prop := fun d p port sent =>
        call =
          .next ({ ((s.taken.setCh n d).setPatch n p) with port := port, emitted := sent }.replied 0x30 tag
            (.ok clamped (.stationsWritten 1 a)))
      (c.assigned.role ≠ .unused → a.role ≠ .unused → c.link.state ≠ .up → kept →
        wrote written p s.taken.port []) ∧
      (c.assigned.role ≠ .unused → a.role ≠ .unused → c.link.state = .up → kept →
        wrote { written with link := { c.link with refreshAt := some (s.time.S + 48000) } } p s.taken.port
          [.link n s.time.S (.settings a)]) ∧
      (c.assigned.role ≠ .unused → a.role ≠ .unused → c.link.state = .up → ¬ kept →
        wrote
          { written with
            link :=
              { c.link with
                queue := unpatched, refreshAt := some (s.time.S + 48000) } }
          lost s.taken.port [.link n s.time.S (.settings a)]) ∧
      (c.assigned.role = .unused → a.role ≠ .unused → kept →
        wrote { written with link := c.link.seeking s.time.S none } p
          (s.taken.port.offer (.linkState n .off .seek .full .role s.time.S none))
          [.link n s.time.S .seekBurst]) ∧
      (c.assigned.role ≠ .unused → a.role = .unused → c.link.state ≠ .up →
        wrote
          { written with
            link := { c.link.off with queue := unpatched } } lost
          (s.taken.port.offer (.linkState n c.link.state .off .full .role s.time.S none)) []) ∧
      (c.assigned.role ≠ .unused → a.role = .unused → c.link.state = .up →
        wrote { written.down with link := c.down.link.off } lost
          (s.taken.port.linkLost n c p .off .role s.time.S) []) ∧
      (c.assigned.role = .unused → a.role = .unused → c.link.state ≠ .up → kept →
        wrote written p s.taken.port []) ∧
      ((c.assigned.role = .unused ↔ a.role = .unused) → c.link.state ≠ .up → ¬ kept →
        wrote { written with link := { c.link with queue := unpatched } } lost s.taken.port []) ∧
      (c.assigned.role = .unused → a.role ≠ .unused → ¬ kept →
        wrote { written with link := { c.link.seeking s.time.S none with queue := unpatched } } lost
          (s.taken.port.offer (.linkState n .off .seek .full .role s.time.S none))
          [.link n s.time.S .seekBurst])) ∧
    (number = 0 → ¬ bad → a.role ≠ .md →
      ∃ t, call = .next t ∧
        (∀ n, (t.ch n).assigned =
          if (s.ch n).assigned.role = .unused then (s.ch n).assigned else a) ∧
        (∀ n, (s.ch n).assigned.role = .unused → t.ch n = s.ch n ∧ t.patchOf n = s.patchOf n) ∧
        t.port.replies.getLast? =
          some ⟨0x30, tag,
            .ok clamped (.stationsWritten
              ((List.finRange 24).filter fun n => decide ((s.ch n).assigned.role ≠ .unused)).length a), true⟩ ∧
        t.time = s.time ∧ t.click = s.click ∧ t.cue = s.taken.cue ∧ t.ctl = s.taken.ctl ∧ t.vin = s.vin ∧
        t.vout = s.vout ∧ t.reports = s.reports ∧ t.pending = s.pending) ∧
    (∀ (n : Station) (x : Sample), (s.ch n).link.refreshAt = some x → x ≤ s.time.S →
      (s.ch n).link.state = .up →
      exec (.settingsRefresh n) s =
        .next
          { (s.quiet.setCh n
              { s.ch n with
                link := { (s.ch n).link with refreshAt := some (s.takenAt x + 48000) } }) with
            emitted := [.link n (s.takenAt x) (.settings (s.ch n).assigned)] }.done)

/-- R39, R43, R60, R69, R76, R107, R110, R111, R130, R141. One MD input of a status frame on an UP link, judged at
the frame's S. From a station that is not MD it is NOT_MD; with its enable clear TAP and STOP_CALL, and the others
in REMOTE, are DISABLED. Else RELEASE sets the flag near a VAMP or is NOT_VAMPING (near: by the segment of the next
beat, log 39). TAP is taken where the engine takes it, or NOT_TAKEN: a bounce changes nothing, and a stored tap sets
the tempo of a TAP segment that plays (during a count-in into it the next count-in beat sets it back, log 67) or
places the first beat of one that waits. GO is refused by R66's tests or fires the standby with source MD. HOLD sets
a hold with source MD or, in HOLDING, a continue of one bar (a held beat of a TAP segment whose first beat is placed
is one, log 40; a count-in the hold was reached in is dropped, log 68) or a return at once, from the map end with
MAP_END. STOP_CALL is a stop (one taken in HELD only clears the production limit of the engine: the model's choice,
log 60; one in a count-in drops it whole, log 73; the CANCELs go out station 1 first, log 64) with the apply of a
pending edit, an added cause, or WRONG_STATE. Each is followed by MD_INPUT (log 17). -/
def Obligations.MdInputs : Prop :=
  ∀ (s : State) (n : Station) (r : StationReport) (i : MdInput), (s.ch n).link.state = .up →
    let frame : Instr := .statusFrame n ⟨r, [], none, (s.patchOf n).held, [i]⟩
    let c : Channel :=
      { s.ch n with
        reported := ⟨some r.actual, r.heldMask, r.lamps⟩
        link := { (s.ch n).link with silenceEnd := some (s.time.S + 12000) } }
    let md := (s.ch n).assigned.md
    let off := match i.kind with
      | .go => md.go = false | .tap => md.tap = false | .release => md.release = false
      | .hold => md.hold = false | .stopCall => md.stopCall = false
    let always := i.kind = .tap ∨ i.kind = .stopCall
    let note : MdOutcome → ControlPort := fun o => s.port.offer (.mdInput n i s.time.S o)
    let only : MdOutcome → Prop := fun o =>
      exec frame s = .next { (s.quiet.setCh n c) with port := note o }.done
    let live := (s.ch n).assigned.role = .md ∧ (¬ off ∨ (s.cue.mode = .local_ ∧ ¬ always))
    let near : SegmentKind → Prop := fun k => ∃ x g, s.click.context = some x ∧ g.kind = k ∧
      (x.segments[x.currentIndex]? = some g ∨ x.segments[x.currentIndex + 1]? = some g)
    ((s.ch n).assigned.role ≠ .md → only .notMd) ∧
    ((s.ch n).assigned.role = .md → off → s.cue.mode = .remote ∨ always → only .disabled) ∧
    (live → i.kind = .release → near .vamp →
      exec frame s =
        .next
          { (s.quiet.setCh n c) with
            click := { s.click with release := true }, port := note .taken }.done) ∧
    (live → i.kind = .release → ¬ near .vamp → only .notVamping) ∧
    (live → i.kind = .tap → ¬ near .tap ∨ s.click.state = .silent ∨ s.click.state = .free ∨
      s.click.state = .held → only .notTaken) ∧
    (live → i.kind = .tap → near .tap → s.click.state ∈ [.countIn, .playing, .vamping, .waitTap] →
      storeTap s.click.taps i.stamp = .bounce → only .taken) ∧
    (∀ x taps, live → i.kind = .tap → near .tap → s.click.state ∈ [.countIn, .playing, .vamping] →
      s.click.context = some x → storeTap s.click.taps i.stamp = .stored taps →
      let paces := x.tapPlaced = true ∧ x.moveDue = false ∧ x.segment.map Segment.kind = some .tap ∧
        2 ≤ taps.length
      exec frame s =
        .next
          { (s.quiet.setCh n c) with
            click :=
              { s.click with
                taps := taps
                context := some (if paces then { x with tempo := tapTempo taps } else x) }
            port := note .taken }.done) ∧
    (∀ x taps, live → i.kind = .tap → s.click.state = .waitTap → s.click.context = some x →
      x.moveDue = false → storeTap s.click.taps i.stamp = .stored taps → taps.length < 2 →
      exec frame s =
        .next
          { (s.quiet.setCh n c) with
            click := { s.click with taps := taps }, port := note .taken }.done) ∧
    (∀ x taps, live → i.kind = .tap → s.click.state = .waitTap → s.click.context = some x →
      x.moveDue = false → storeTap s.click.taps i.stamp = .stored taps → 2 ≤ taps.length →
      exec frame s =
        .next
          { (s.quiet.setCh n c) with
            click :=
              { s.click with
                taps := taps
                context := some
                  { x with
                    acc := tapFirstOnset (taps.getLastD 0) (tapInterval taps) (s.time.S + 4800) * 65536
                    tempo := tapTempo taps, tapPlaced := true, lastOnset := none, muteFirst := false } }
            port := note .taken }.done) ∧
    (live → i.kind = .hold → s.ctl.state = .running → s.ctl.holdPending = none →
      let x := s.click.holdPointAt (s.time.S + 4800)
      exec frame s =
        .next
          { (s.quiet.setCh n c) with
            click := { s.click with holdPoint := some x }
            ctl := { s.ctl with holdPending := some ⟨x, .md⟩ }
            port := note .holdTaken }.done) ∧
    (live → i.kind = .hold → s.ctl.state = .running → s.ctl.holdPending ≠ none → only .holdTaken) ∧
    (live → i.kind = .hold → s.ctl.state = .holding → s.ctl.continuePending ≠ none →
      only .continueTaken) ∧
    (∀ x g, live → i.kind = .hold → s.ctl.state = .holding → s.ctl.continuePending = none →
      s.click.context = some x → x.segment = some g →
      g.kind = .metered ∨ g.kind = .vamp ∨ (g.kind = .tap ∧ x.tapPlaced = true) →
      x.moveDue = false → 1 ≤ g.beatsPerBar → s.click.limit = none → s.click.holdPoint = none →
      s.reports = [] →
      let tempo := g.tempoAt x.beatIndex x.tempo
      ∃ (t : State) (b : BeatRecord), exec frame s = .next t ∧
        t.ctl = { s.ctl with continuePending := some ⟨s.time.S + 4800, 1, .md⟩ } ∧
        t.click.held = false ∧ t.click.taps = [] ∧
        t.click.reach =
          some ⟨.continued, s.time.S + 4800 + g.beatsPerBar * beatPeriod tempo / 65536⟩ ∧
        t.click.kept = s.click.kept.drop (s.click.kept.length - 1) ++ [b] ∧
        b.onset = s.time.S + 4800 ∧ b.tempo = tempo ∧ b.bar = -1 ∧ b.beatInBar = 1 ∧
        b.countdown = some g.beatsPerBar ∧
        (∀ m, (if m = n then c else s.ch m).fedTo (t.ch m)) ∧
        (∀ m, t.patchOf m = (s.patchOf m).counted (s.time.S + 4800)) ∧
        t.port = (note .continueTaken).arbitrate ∧ t.cue = s.cue ∧ t.time = s.time ∧ t.vin = s.vin ∧
        t.vout = s.vout ∧ t.reports = [] ∧ t.emitted = [] ∧ t.pending = s.pending) ∧
    (live → i.kind = .hold → s.ctl.state = .holding → s.ctl.continuePending = none → s.reports = [] →
      (∀ x, s.click.context = some x →
        ∃ g, x.segment = some g ∧ (g.kind = .free ∨ (g.kind = .tap ∧ x.tapPlaced = false))) →
      ∃ t, exec frame s = .next t ∧
        t.ctl = { s.ctl with state := .running, continuePending := none } ∧
        t.click = { s.click with held := false, taps := [], reach := none } ∧
        (∀ m, t.ch m = (if m = n then c else s.ch m).stopLampSet .running s.time.S) ∧
        t.port =
          ((s.port.offer
            (.showState .holding .running .continueReached s.time.S (some s.time.S))).offer
            (.mdInput n i s.time.S .continueTaken)).arbitrate ∧
        t.cue = s.cue ∧ t.time = s.time ∧ t.patches = s.patches ∧ t.vin = s.vin ∧ t.vout = s.vout ∧
        t.reports = [] ∧ t.emitted = [] ∧ t.pending = s.pending) ∧
    (∀ x, live → i.kind = .hold → s.ctl.state = .holding → s.ctl.continuePending = none → s.reports = [] →
      s.click.context = some x → x.segment = none →
      ∃ t, exec frame s = .next t ∧
        t.ctl = { s.ctl with state := .running, continuePending := none } ∧
        t.click = { s.click with context := none, held := false, taps := [], reach := none } ∧
        (∀ m, t.ch m = (if m = n then c else s.ch m).stopLampSet .running s.time.S) ∧
        t.port =
          (((s.port.offer (.mapEnd x.map (s.time.S + 4800) s.time.S)).offer
            (.showState .holding .running .continueReached s.time.S (some s.time.S))).offer
            (.mdInput n i s.time.S .continueTaken)).arbitrate ∧
        t.cue = s.cue ∧ t.time = s.time ∧ t.patches = s.patches ∧ t.vin = s.vin ∧ t.vout = s.vout ∧
        t.reports = [] ∧ t.emitted = [] ∧ t.pending = s.pending) ∧
    (live → i.kind = .hold → s.ctl.state ∈ [.dark, .preshow, .stopped, .resuming] → only .wrongState) ∧
    (live → i.kind = .stopCall → s.ctl.state = .dark → only .wrongState) ∧
    (∀ r, live → i.kind = .stopCall → s.ctl.state = .stopped → s.ctl.stopRecord = some r →
      (r.causes.md = true → only .stopAdded) ∧
      (r.causes.md = false →
        let causes := { r.causes with md := true }
        exec frame s =
          .next
            { (s.quiet.setCh n c) with
              ctl := { s.ctl with stopRecord := some { r with causes := causes } }
              port := (s.port.offer (.showStop s.time.S (.added .md causes))).offer
                (.mdInput n i s.time.S .stopAdded) }.done)) ∧
    (live → i.kind = .stopCall → s.ctl.state ≠ .dark → s.ctl.state ≠ .stopped →
      let back := s.cue.inFlight.map fun f => f.fired.cue
      let empty := s.cue.inFlight = none ∧ s.cue.queued = none
      let applies := s.cue.edit = .pendingApply
      let reverted : CueEngine :=
        if empty then s.cue
        else
          { s.cue with
            inFlight := none, queued := none, standby := back, warned := back
            barMark := s.cue.book.isAtBar back }
      let record : StopRecord :=
        { causes := ⟨false, false, true⟩, firstCause := .md, stopSample := s.time.S
          before := s.ctl.state, running := s.cue.running.map RunningCue.number
          sounded := ((s.click.kept.filter fun b => decide (b.onset ≤ s.time.S)).getLast?).map fun b =>
            ⟨b.bar, b.beatInBar, b.pass⟩
          standby := s.cue.standby, resume := none }
      ∃ t, exec frame s = .next t ∧
        t.ctl =
          { s.ctl with
            state := .stopped, holdPending := none, continuePending := none
            stopRecord := some record } ∧
        t.click = s.click.stopped s.time.S ∧ (∀ m, t.patchOf m = (s.patchOf m).stopped s.time.S) ∧
        t.cue = (if applies then reverted.committed else reverted) ∧
        t.port.notices =
          (let p1 := s.port.offer (.showStop s.time.S (.new record))
          let p2 :=
            if empty then p1
            else
              p1.offer (.cueCancelled .stop s.time.S (s.cue.inFlight.map Flight.fired) s.cue.queued back)
          (if applies then p2.offer (reverted.committedNotice s.time.S) else p2).offer
            (.mdInput n i s.time.S .stopTaken)).notices ∧
        (∀ m, t.ch m =
          let d := ((if m = n then c else s.ch m).cancelled s.time.S).stopLampSet .stopped s.time.S
          let e :=
            if empty then d
            else d.warnSet (s.cue.book.warnList s.cue.warned) (s.cue.book.warnList back) m s.time.S
          let w :=
            if applies then
              e.warnSet (s.cue.book.warnList reverted.warned)
                (s.cue.buffer.warnList reverted.foundStandby) m s.time.S
            else e
          { w with link := { w.link with test := none } }) ∧
        t.emitted =
          (((List.finRange 24).filter fun m => decide ((s.ch m).link.state = .up)).map fun m =>
            Emission.link m s.time.S (.cancel s.time.S)) ∧
        t.time = s.time ∧ t.vin = s.vin ∧ t.vout = s.vout ∧ t.reports = s.reports ∧
        t.pending = s.pending) ∧
    (live → i.kind = .go → s.ctl.state ≠ .preshow → s.ctl.state ≠ .running → only .wrongState) ∧
    (live → i.kind = .go → s.ctl.state = .preshow ∨ s.ctl.state = .running →
      let locked := ∃ x, s.cue.lockoutEnd = some x ∧ s.time.S < x
      let target := s.cue.standby.bind s.cue.book.cue?
      (locked → only .debounced) ∧
      (¬ locked → target = none → only .notFound) ∧
      (¬ locked → target ≠ none → s.cue.inFlight ≠ none → s.cue.queued ≠ none → only .goQueueFull) ∧
      (∀ d, ¬ locked → target = some d → s.reports = [] →
        let next := s.cue.book.numberAfter d.number
        let fired : FiredCue := ⟨d.number, .md, s.time.S, none⟩
        let point := s.click.changePoint (s.time.S + 4800) d.changeKind
        let after : CueEngine :=
          { s.cue with
            standby := next, barMark := s.cue.book.isAtBar next
            lockoutEnd := some (s.time.S + 48 * s.cue.lockoutMs)
            localEntry :=
              if s.cue.mode = .local_ then s.cue.localEntry.map fun e => { e with mdGos := e.mdGos + 1 }
              else s.cue.localEntry }
        let begun : ControlPort :=
          if s.ctl.state = .preshow then
            s.port.offer (.showState .preshow .running .firstGo s.time.S none)
          else s.port
        let same : State → Prop := fun t =>
          t.time = s.time ∧ t.vin = s.vin ∧ t.vout = s.vout ∧ t.ctl.state = .running ∧
            (∀ m, (t.ch m).link.test = none) ∧ t.reports = [] ∧ t.pending = s.pending
        (s.cue.inFlight ≠ none → s.cue.queued = none →
          ∃ t, exec frame s = .next t ∧ same t ∧ t.cue = { after with queued := some fired } ∧
            t.click = s.click ∧ t.patches = s.patches ∧
            t.port.notices = (begun.offer (.mdInput n i s.time.S (.fired d.number .queued))).notices) ∧
        (s.cue.inFlight = none → s.time.S + 4800 < point →
          ∃ t, exec frame s = .next t ∧ same t ∧ t.cue = { after with inFlight := some ⟨fired, point⟩ } ∧
            t.click = { s.click with limit := some point } ∧ t.patches = s.patches ∧
            t.port.notices = (begun.offer (.mdInput n i s.time.S (.fired d.number .inFlight))).notices) ∧
        (s.cue.inFlight = none → s.cue.queued = none → point ≤ s.time.S + 4800 →
          s.cue.edit ≠ .pendingApply →
          (∀ x, next.bind s.cue.book.cue? = some x → x.goMode = .manual) →
          ∃ t, exec frame s = .next t ∧ same t ∧
            t.cue = { after with running := some ⟨d.number, d.label, d.text, point⟩, warned := next } ∧
            (s.port.mask.getLsbD 11 = true → s.port.notices.length < 28 →
              t.port.notices.getLast? = some (.mdInput n i s.time.S (.fired d.number .inFlight))))))

/-- R124, R125, R128. In SEEK a burst is sent at its sample and the next falls 4,800 samples on; an answer with no
seek hold end still to come starts an attempt at the present rate with the IDENT page and LINK_STATE ANSWERED, and
an earlier one is ignored; the hold end reached clears it and sends a burst. In TRAINING the page awaiting its reply
is repeated, unchanged, every 240 samples; 960 samples after its first sending the attempt fails with PAGE_TIMEOUT:
a new one starts at the same rate, or at REDUCED with DOWNSHIFT, or SEEK follows with EXHAUSTED. The patch record
stands, with the held state that a SETTINGS reply of the failed attempt may have set (the model's choice, log 77).
-/
def Obligations.SeekingAndRetrying : Prop :=
  ∀ (s : State) (n : Station),
    let c := s.ch n
    let l := c.link
    let S := s.time.S
    let goes : Instr → Link → ControlPort → List Emission → Prop := fun i l' port sent =>
      exec i s =
        .next { (s.quiet.setCh n { c with link := l' }) with port := port, emitted := sent }.done
    (∀ x, l.state = .seek → l.nextBurst = some x → x ≤ S →
      goes (.seekBurst n) { l with nextBurst := some (s.takenAt x + 4800) } s.port
        [.link n (s.takenAt x) .seekBurst]) ∧
    (∀ x, l.state = .seek → l.seekHoldEnd = some x → x ≤ S →
      goes (.seekHoldEnd n) { l with seekHoldEnd := none, nextBurst := some (s.takenAt x + 4800) } s.port
        [.link n (s.takenAt x) .seekBurst]) ∧
    (l.state = .seek → (∀ x, l.seekHoldEnd = some x → x ≤ S) →
      goes (.seekAnswer n) (l.attempting l.rate S)
        (s.port.offer (.linkState n .seek .training l.rate .answered S none))
        [l.pageFrame n .ident S none]) ∧
    (l.state ≠ .seek ∨ (∃ x, l.seekHoldEnd = some x ∧ S < x) →
      exec (.seekAnswer n) s = .next s.quiet.done) ∧
    (∀ p, l.state = .training → l.page = some p →
      (p.nextRepeat ≤ S →
        goes (.pageRepeat n) { l with page := some { p with nextRepeat := p.nextRepeat + 240 } } s.port
          [.link n (s.takenAt p.nextRepeat) (.page p)]) ∧
      (p.firstSent + 960 ≤ S →
        let y := s.takenAt (p.firstSent + 960)
        let failed : Link :=
          { l with tries := l.tries + 1, lastFailure := some (.pageTimeout, y), page := none }
        (l.tries + 1 < c.assigned.linkTries →
          goes (.pageTimeout n) (failed.attempting l.rate y) s.port [l.pageFrame n .ident y none]) ∧
        (c.assigned.linkTries ≤ l.tries + 1 → l.rate = .full →
          goes (.pageTimeout n) ({ failed with tries := 0 }.attempting .reduced y)
            (s.port.offer (.linkState n .training .training .reduced .downshift y none))
            [l.pageFrame n .ident y none]) ∧
        (c.assigned.linkTries ≤ l.tries + 1 → l.rate = .reduced →
          goes (.pageTimeout n) (failed.seeking y (some (y + 48000)))
            (s.port.offer (.linkState n .training .seek .full .exhausted y none))
            [.link n y .seekBurst])))

/-- R95, R125 to R127, R129. A reply is taken only in TRAINING with the kind and toggle of the page awaiting its
reply. IDENT keeps the serial and kind and sends ABILITY; ABILITY keeps the rates and the rig and sends DELAY_PROBE,
an attempt at a rate not offered failing; the DELAY_PROBE echo gives half the round trip, rounded up, stored and
followed by SETTINGS unless above 1,200; SETTINGS sets the reported part and the patch record and sends READY; READY
brings the link UP with its windows, lamps and LINK_STATE TRAINED. -/
def Obligations.TrainingReplies : Prop :=
  ∀ (s : State) (n : Station) (toggle : Bool),
    let c := s.ch n
    let l := c.link
    let S := s.time.S
    let awaits : PageKind → Prop := fun k =>
      l.state = .training ∧ ∃ p, l.page = some p ∧ p.kind = k ∧ p.toggle = toggle
    let goes : Instr → Channel → List Emission → Prop := fun i c' sent =>
      exec i s = .next { (s.quiet.setCh n c') with emitted := sent }.done
    let same : Instr → Prop := fun i => exec i s = .next s.quiet.done
    let cleared : Link := { l with page := none }
    (∀ kind serial,
      (awaits .ident →
        goes (.identReply n toggle kind serial)
          { c with
            link := { cleared with stationSerial := some serial, reportedKind := some kind }.paged
              .ability S none }
          [l.pageFrame n .ability S none]) ∧
      (¬ awaits .ident → same (.identReply n toggle kind serial))) ∧
    (∀ full reduced rig,
      let known : Link := { cleared with ratesOffered := some (full, reduced), rigCapable := some rig }
      let offered := (l.rate = .full ∧ full = true) ∨ (l.rate = .reduced ∧ reduced = true)
      (awaits .ability → offered →
        goes (.abilityReply n toggle full reduced rig) { c with link := known.paged .delayProbe S none }
          [l.pageFrame n .delayProbe S none]) ∧
      (awaits .ability → ¬ offered → l.tries + 1 < c.assigned.linkTries →
        goes (.abilityReply n toggle full reduced rig)
          { c with
            link := { known with tries := l.tries + 1, lastFailure := some (.pageTimeout, S) }.attempting
              l.rate S }
          [l.pageFrame n .ident S none]) ∧
      (¬ awaits .ability → same (.abilityReply n toggle full reduced rig))) ∧
    (∀ stamp turnaround, stamp + turnaround ≤ S →
      let d := (S - stamp - turnaround + 1) / 2
      let page : SettingsPage := ⟨c.assigned, d, (s.patchOf n).expected, s.deferMark n⟩
      (awaits .delayProbe → d ≤ 1200 →
        goes (.delayProbeReply n toggle stamp turnaround)
          { c with link := { cleared with delay := some d }.paged .settings S (some page) }
          [l.pageFrame n .settings S (some page)]) ∧
      (awaits .delayProbe → 1200 < d → l.tries + 1 < c.assigned.linkTries →
        goes (.delayProbeReply n toggle stamp turnaround)
          { c with
            link := { cleared with tries := l.tries + 1, lastFailure := some (.tooFar, S) }.attempting
              l.rate S }
          [l.pageFrame n .ident S none]) ∧
      (¬ awaits .delayProbe → same (.delayProbeReply n toggle stamp turnaround))) ∧
    (∀ (r : StationReport) (patch : Option Patch) (h : HeldState),
      let p := s.patchOf n
      let q := { p with confirmed := patch, held := h }
      let c' : Channel :=
        { c with
          reported := ⟨some r.actual, r.heldMask, r.lamps⟩, link := cleared.paged .ready S none }
      let wrong : Notice := .patchMismatch n .training S patch p.expected
      let after : PatchRecord → ControlPort → Prop := fun q port =>
        exec (.settingsReply n toggle r patch h) s =
          .next
            { ((s.quiet.setCh n c').setPatch n q) with
              port := port, emitted := [l.pageFrame n .ready S none] }.done
      (awaits .settings → p.entry = none →
        after q (if p.expected ≠ none ∧ p.expected ≠ patch then s.port.offer wrong else s.port)) ∧
      (∀ e due serial, awaits .settings → p.entry = some e → e.phase.sentAs = some (due, serial) →
        after { q with entry := none }
          (let t := s.port.offer (.patchState n .trained S .none_ e.patch (some (due, serial)))
          if patch = p.expected then t else t.offer wrong)) ∧
      (∀ e, awaits .settings → p.entry = some e → e.phase.sentAs = none →
        after (if patch = p.expected then { q with entry := none } else q) s.port) ∧
      (¬ awaits .settings → same (.settingsReply n toggle r patch h))) ∧
    (awaits .ready → (∀ e, (s.patchOf n).entry = some e → e.phase.notWaiting) →
      let up : Channel :=
        { c with
          link :=
            { cleared with
              state := .up, tries := 0, silenceEnd := some (S + 12000), errorCount := 0
              windowEnd := some (S + 48000), refreshAt := some (S + 48000) } }
      let lit := (up.cueLampSet
        (if n ∈ s.cue.book.warnList s.cue.warned then warnPattern else offPattern) S).stopLampSet s.ctl.state S
      let delay := l.delay.getD 0
      let serial := l.stationSerial.getD 0
      exec (.readyReply n toggle) s =
        .next
          { (s.quiet.setCh n { lit with link := { lit.link with serialLastUp := l.stationSerial } }) with
            port := s.port.offer
              (.linkState n .training .up l.rate .trained S
                (some (delay, delay + 96, serial, decide (l.serialLastUp ≠ some serial)))) }.done) ∧
    (∀ patch cp k im dl, awaits .ready →
      (s.patchOf n).entry = some ⟨patch, cp, .waitingRelease k im dl⟩ → (s.patchOf n).held = .held →
      (∀ x, dl = some x → S < x) →
      ∃ t, exec (.readyReply n toggle) s = .next t ∧ (t.ch n).link.state = .up ∧ t.patches = s.patches) ∧
    (∀ patch cp k im dl, awaits .ready →
      (s.patchOf n).entry = some ⟨patch, cp, .waitingRelease k im dl⟩ →
      (s.patchOf n).held = .clear ∨ (∃ x, dl = some x ∧ x ≤ S) →
      let lead := l.delay.getD 0 + 96
      ∃ t, exec (.readyReply n toggle) s = .next t ∧ (t.ch n).link.state = .up ∧
        t.patchOf n =
          (s.patchOf n).sent patch (max (S + lead) cp) (reached dl S) cp lead) ∧
    (¬ awaits .ready → same (.readyReply n toggle))

/-- R94, R130 to R133. An UP link is lost at its silence end, or at the check error that brings the count to the
error limit (any error with a limit of 0), in the one act of R132: the queue emptied, a link test and a relay ended
with their deferred replies, the reported part, the lamps (log 38) and the windows cleared, the tracker told, SEEK
entered with a burst and LINK_STATE sent; a lesser count only rises, and the window end sets it to 0 and begins the
next window. RETRAIN of one station does the same into a new attempt at FULL; in TRAINING it starts over, with the
held state that a SETTINGS reply has set standing (the model's choice, log 77); in SEEK it sends a burst, from which
the spacing of the bursts starts afresh (the model's choice, log 63); for station 0 it retrains every station in
use, station 1 first (the model's choice, log 64), and the reply counts them. -/
def Obligations.LinksKeptAndLost : Prop :=
  ∀ (s : State) (n : Station),
    let c := s.ch n
    let l := c.link
    let S := s.time.S
    let p := s.patchOf n
    let lost : LinkCause → Sample → State := fun cause y =>
      { ((s.quiet.setCh n { c.down with link := c.down.link.seeking y none }).setPatch n p.linkLost) with
        port := s.port.linkLost n c p .seek cause y
        emitted := [.link n y .seekBurst] }
    (∀ x, l.state = .up → l.silenceEnd = some x → x ≤ S →
      exec (.linkSilence n) s = .next (lost .silence (s.takenAt x)).done) ∧
    (l.state = .up → c.assigned.errorLimit ≤ l.errorCount + 1 →
      exec (.backChannelCheckError n) s = .next (lost .errors S).done) ∧
    (l.state = .up → l.errorCount + 1 < c.assigned.errorLimit →
      exec (.backChannelCheckError n) s =
        .next (s.quiet.setCh n { c with link := { l with errorCount := l.errorCount + 1 } }).done) ∧
    (l.state ≠ .up → exec (.backChannelCheckError n) s = .next s.quiet.done) ∧
    (∀ x, l.windowEnd = some x → x ≤ S →
      exec (.errorWindowEnd n) s =
        .next (s.quiet.setCh n
          { c with link := { l with errorCount := 0, windowEnd := some (x + 48000) } }).done) ∧
    (∀ tag number, s.admits tag →
      let one : State → Host.Outcome State Fault Refusal := fun t =>
        .next (t.replied 0x33 tag (.ok false (.retrained 1)))
      let call := exec (.retrain tag number) s
      (24 < number → call = .next (s.refusedWith 0x33 tag .badValue)) ∧
      (number = n.val + 1 →
        (c.assigned.role = .unused → call = .next (s.refusedWith 0x33 tag .wrongState)) ∧
        (c.assigned.role ≠ .unused → l.state = .up →
          call = one
            { ((s.taken.setCh n
                { c.down with link := { c.down.link with tries := 0 }.attempting .full S }).setPatch n
                p.linkLost) with
              port := s.taken.port.linkLost n c p .training .retrain S
              emitted := [l.pageFrame n .ident S none] }) ∧
        (c.assigned.role ≠ .unused → l.state = .training →
          call = one
            { (s.taken.setCh n
                { c with link := { l with tries := 0 }.attempting .full S }) with
              port :=
                if l.rate = .reduced then
                  s.taken.port.offer (.linkState n .training .training .full .retrain S none)
                else s.taken.port
              emitted := [l.pageFrame n .ident S none] }) ∧
        (c.assigned.role ≠ .unused → l.state = .seek →
          call = one
            { (s.taken.setCh n
                { c with link := { l with seekHoldEnd := none, nextBurst := some (S + 4800) } }) with
              emitted := [.link n S .seekBurst] })) ∧
      (number = 0 →
        let inUse : Station → Prop := fun m => (s.ch m).assigned.role ≠ .unused
        ∃ t, call = .next t ∧
          (∀ m, t.ch m =
            let d := s.ch m
            if inUse m then
              match d.link.state with
              | .up => { d.down with link := { d.down.link with tries := 0 }.attempting .full S }
              | .training => { d with link := { d.link with tries := 0 }.attempting .full S }
              | .seek => { d with link := { d.link with seekHoldEnd := none, nextBurst := some (S + 4800) } }
              | .off => d
            else d) ∧
          (∀ m, t.patchOf m =
            if inUse m ∧ (s.ch m).link.state = .up then (s.patchOf m).linkLost else s.patchOf m) ∧
          t.emitted =
            ((List.finRange 24).filter fun m => decide (inUse m)).flatMap (fun m =>
              match (s.ch m).link.state with
              | .up | .training => [(s.ch m).link.pageFrame m .ident S none]
              | .seek => [Emission.link m S .seekBurst]
              | .off => []) ∧
          t.port.replies.getLast? =
            some ⟨0x33, tag,
              .ok false (.retrained ((List.finRange 24).filter fun m => decide (inUse m)).length), true⟩ ∧
          t.time = s.time ∧ t.click = s.click ∧ t.cue = s.taken.cue ∧ t.ctl = s.taken.ctl ∧
          t.vin = s.vin ∧ t.vout = s.vout ∧ t.reports = s.reports ∧ t.pending = s.pending))

/-- R134, R136. An event handed to a link that is not UP is not placed. A PATCH replaces a queued PATCH. With fewer
than 32 events queued an event goes after every queued event due at or before it. With 32: a CLICK is dropped and
counted; a PATCH or LAMP takes the place of the CLICK nearest the head, which is counted; with no CLICK a PATCH
takes that of the LAMP nearest the head and a LAMP is dropped. -/
def Obligations.EventsPlaced : Prop :=
  ∀ (l : Link) (e : Event),
    let after : List Event → List Event := fun q =>
      (q.takeWhile fun x => decide (x.due ≤ e.due)) ++ e :: q.dropWhile fun x => decide (x.due ≤ e.due)
    let counted := min 65535 (l.lateCount + 1)
    let full := 32 ≤ l.queue.length
    (l.state ≠ .up → l.hand e = (l, false)) ∧
    (l.state = .up → e.isPatch = true → (∃ x ∈ l.queue, x.isPatch = true) →
      l.hand e = ({ l with queue := after (l.queue.filter fun x => !x.isPatch) }, true)) ∧
    (l.state = .up → (e.isPatch = true → ∀ x ∈ l.queue, x.isPatch = false) →
      (¬ full → l.hand e = ({ l with queue := after l.queue }, true)) ∧
      (full → e.isClick = true → l.hand e = ({ l with lateCount := counted }, false)) ∧
      (∀ pre x post, full → e.isClick = false → l.queue = pre ++ x :: post → x.isClick = true →
        (∀ y ∈ pre, y.isClick = false) →
        l.hand e = ({ l with queue := after (pre ++ post), lateCount := counted }, true)) ∧
      (∀ pre x post, full → e.isPatch = true → (∀ y ∈ l.queue, y.isClick = false) →
        l.queue = pre ++ x :: post → x.isLamp = true → (∀ y ∈ pre, y.isLamp = false) →
        l.hand e = ({ l with queue := after (pre ++ post) }, true)) ∧
      (full → e.isLamp = true → (∀ y ∈ l.queue, y.isClick = false) → l.hand e = (l, false)))

/-- R135, R138, R140. At EVENT_SEND_POINT an UP link that no test holds sends, in queue order, the events at the
head whose due is within the lead, but drops and counts a CLICK whose due is before S + lead; another link sends
nothing. LAMP is refused BAD_VALUE by R140's tests. Taken for one station it sets the lamp on an UP link, due S: the
later events of that lamp leave the queue; a TIME pattern is handed and answered QUEUED or DROPPED, a BEAT pattern
starts a runner and is answered RUNNING. A link that is not UP is answered NOT_UP. For station 0 the lamp is set at
every station in use, and the reply counts each outcome. The lamp numbers CUE = 0 and STOP = 1 are the model's (log
31). -/
def Obligations.EventsSentAndLamps : Prop :=
  ∀ (s : State) (n : Station),
    let c := s.ch n
    let l := c.link
    let reach := s.time.S + (l.delay.getD 0 + 96)
    let head := l.queue.takeWhile fun e => decide (e.due ≤ reach)
    let late : Event → Bool := fun e => e.isClick && decide (e.due < reach)
    (l.state = .up → l.test = none →
      exec (.eventSendPoint n) s =
        .next
          { (s.quiet.setCh n
              { c with
                link :=
                  { l with
                    queue := l.queue.dropWhile fun e => decide (e.due ≤ reach)
                    lateCount :=
                      if head.filter late = [] then l.lateCount
                      else min 65535 (l.lateCount + (head.filter late).length) } }) with
            emitted := (head.filter fun e => !late e).map fun e => .link n s.time.S (.event e) }.done) ∧
    (l.state ≠ .up ∨ l.test ≠ none → exec (.eventSendPoint n) s = .next s.quiet.done) ∧
    (∀ (tag number : Nat) (raw : RawLamp), s.admits tag →
      let call := exec (.lamp tag number raw) s
      let answer : Bool → LampOutcome → Answer := fun clamped o => .ok clamped (.lampOutcome o)
      let bad := 24 < number ∨ 1 < raw.lamp ∨ 1 < raw.tick ∨
        (raw.tick = 1 ∧ raw.tickValue ≠ 1 ∧ raw.tickValue ≠ 2 ∧ raw.tickValue ≠ 4)
      let ms := min 630 (max 10 raw.tickValue) / 10 * 10
      let pause := min 15 raw.pause
      (bad → call = .next (s.refusedWith 0x32 tag .badValue)) ∧
      (∀ k, ¬ bad → number = n.val + 1 → (raw.lamp = 0 ∧ k = .cue) ∨ (raw.lamp = 1 ∧ k = .stop) →
        let cleared : Link :=
          { l with
            queue := l.queue.filter fun e => !(e.isFor k && decide (s.time.S ≤ e.due)) }
        let timed := decide (15 < raw.pause ∨ ms ≠ raw.tickValue)
        (l.state = .up → raw.tick = 0 →
          let x : LampPattern := ⟨.time ms, raw.bits, pause⟩
          let r := (cleared.setLampState k (some ⟨x, .host, none⟩)).hand (.lamp s.time.S k (.pattern x))
          call =
            .next ((s.taken.setCh n { c with link := r.1 }).replied 0x32 tag
              (answer timed (if r.2 = true then .queued else .dropped)))) ∧
        (l.state = .up → raw.tick = 1 →
          call =
            .next ((s.taken.setCh n
              { c with
                link := cleared.setLampState k
                  (some
                    ⟨⟨.beat raw.tickValue, raw.bits, pause⟩, .host,
                      some ⟨raw.tickValue, 0, 0, none⟩⟩) }).replied 0x32 tag
              (answer (decide (15 < raw.pause)) .running))) ∧
        (l.state ≠ .up →
          call =
            .next (s.taken.replied 0x32 tag
              (answer (if raw.tick = 0 then timed else decide (15 < raw.pause)) .notUp)))) ∧
      (∀ k, ¬ bad → number = 0 → (raw.lamp = 0 ∧ k = .cue) ∨ (raw.lamp = 1 ∧ k = .stop) →
        let pattern : LampPattern :=
          if raw.tick = 0 then ⟨.time ms, raw.bits, pause⟩ else ⟨.beat raw.tickValue, raw.bits, pause⟩
        let set : Station → Link × Bool := fun m =>
          let d := (s.ch m).link
          let cleared : Link :=
            { d with queue := d.queue.filter fun e => !(e.isFor k && decide (s.time.S ≤ e.due)) }
          if raw.tick = 0 then
            (cleared.setLampState k (some ⟨pattern, .host, none⟩)).hand (.lamp s.time.S k (.pattern pattern))
          else
            (cleared.setLampState k (some ⟨pattern, .host, some ⟨raw.tickValue, 0, 0, none⟩⟩), true)
        let named := (List.finRange 24).filter fun m => decide ((s.ch m).assigned.role ≠ .unused)
        let up : Station → Bool := fun m => decide ((s.ch m).link.state = .up)
        let placed := (named.filter fun m => up m && (set m).2).length
        let dropped := (named.filter fun m => up m && !(set m).2).length
        let clamped := decide (15 < raw.pause ∨ (raw.tick = 0 ∧ ms ≠ raw.tickValue))
        ∃ t, call = .next t ∧
          (∀ m, t.ch m = if m ∈ named ∧ up m = true then { s.ch m with link := (set m).1 } else s.ch m) ∧
          t.port =
            (s.taken.port.answer
              ⟨0x32, tag,
                .ok clamped (.lampCounts (if raw.tick = 0 then placed else 0)
                  (if raw.tick = 1 then placed else 0) dropped
                  (named.filter fun m => !up m).length), true⟩).arbitrate ∧
          t.time = s.time ∧ t.click = s.click ∧ t.cue = s.taken.cue ∧ t.ctl = s.taken.ctl ∧
          t.patches = s.patches ∧ t.vin = s.vin ∧ t.vout = s.vout ∧ t.reports = s.reports ∧
          t.emitted = [] ∧ t.pending = s.pending))

/-- R142. LINK_TEST is refused BAD_VALUE for a station outside 1..24, WRONG_STATE outside DARK and PRESHOW or with
the link not UP, BUSY during a test; taken it sends frame 0 and defers its reply. The next frame goes 48 samples on.
An echo within 2 lead of its frame, correct and equal, is good and any other counts a mismatch, as does none by
then; judging frame 255, by its echo or by its time-out, ends the test with its deferred reply, PASS or FAIL with
the count (a frame then still without an echo counts, log 21), and releases the queue, whose head is judged by R135
at S. -/
def Obligations.LinkTests : Prop :=
  ∀ (s : State) (n : Station),
    let c := s.ch n
    let l := c.link
    let S := s.time.S
    let window := 2 * (l.delay.getD 0 + 96)
    (∀ tag number, s.admits tag →
      let call := exec (.linkTest tag number) s
      let open_ := s.ctl.state = .dark ∨ s.ctl.state = .preshow
      (number = 0 ∨ 24 < number → call = .next (s.refusedWith 0x34 tag .badValue)) ∧
      (number = n.val + 1 →
        (¬ open_ ∨ l.state ≠ .up → call = .next (s.refusedWith 0x34 tag .wrongState)) ∧
        (open_ → l.state = .up → l.test ≠ none → call = .next (s.refusedWith 0x34 tag .busy)) ∧
        (open_ → l.state = .up → l.test = none →
          call =
            .next
              { (s.taken.setCh n
                  { c with link := { l with test := some ⟨tag, S, 1, [⟨0, S⟩], 0⟩ } }) with
                emitted := [.link n S (.test 0)] }.done))) ∧
    (∀ t, l.test = some t →
      (t.nextFrame ≤ 255 → t.began + t.nextFrame * 48 ≤ S →
        let y := s.takenAt (t.began + t.nextFrame * 48)
        exec (.testFrameSend n) s =
          .next
            { (s.quiet.setCh n
                { c with
                  link :=
                    { l with
                      test := some
                        { t with
                          nextFrame := t.nextFrame + 1
                          outstanding := t.outstanding ++ [TestFrame.mk t.nextFrame y] } } }) with
              emitted := [.link n y (.test t.nextFrame)] }.done) ∧
      (∀ frame sent, t.outstanding.find? (fun f => decide (f.number = frame)) = some ⟨frame, sent⟩ →
        let left := t.outstanding.filter fun f => decide (f.number ≠ frame)
        let judged : Bool → LinkTest := fun good =>
          { t with outstanding := left, mismatches := if good then t.mismatches else t.mismatches + 1 }
        let goes : Instr → Bool → Prop := fun i good =>
          exec i s =
            .next (s.quiet.setCh n { c with link := { l with test := some (judged good) } }).done
        (∀ correct, frame ≠ 255 →
          goes (.testEcho n frame correct) (correct && decide (S ≤ sent + window))) ∧
        (frame ≠ 255 → sent + window ≤ S → goes (.testEchoTimeout n frame) false) ∧
        (let reach := S + (l.delay.getD 0 + 96)
         let head := l.queue.takeWhile fun e => decide (e.due ≤ reach)
         let late : Event → Bool := fun e => e.isClick && decide (e.due < reach)
         let ends : Instr → Bool → Sample → Prop := fun i good y =>
          let wrong := (judged good).mismatches + left.length
          exec i s =
            .next
              { (s.quiet.setCh n
                  { c with
                    link :=
                      { l with
                        test := none
                        queue := l.queue.dropWhile fun e => decide (e.due ≤ reach)
                        lateCount :=
                          if head.filter late = [] then l.lateCount
                          else min 65535 (l.lateCount + (head.filter late).length) } }) with
                port :=
                  { s.port with
                    replies := s.port.replies ++
                      [Reply.mk 0x34 t.tag
                        (.ok false (.testResult (if wrong = 0 then .pass else .fail wrong) t.began y))
                        false] }
                emitted := (head.filter fun e => !late e).map fun e => .link n S (.event e) }.done
         frame = 255 → l.state = .up →
          (∀ correct, ends (.testEcho n frame correct) (correct && decide (S ≤ sent + window)) S) ∧
          (sent + window ≤ S →
            ends (.testEchoTimeout n frame) false (s.takenAt (sent + window))))))

/-- R143, R144. STATION_PARAM is refused BAD_VALUE for a station outside 1..24, WRONG_STATE with the link not UP,
BUSY with a relay in flight; taken it sends a relay frame at once with the next serial and defers its reply. The
answer with that serial gives OK with the value it carries, for a WRITE too (the model's choice, log 70), or REFUSED
BAD_VALUE; another is discarded; 2,400 samples on the reply is REFUSED TIMEOUT. STATION_QUERY answers with the
station's records and queue counts and sets the late-click count to 0. -/
def Obligations.RelaysAndQueries : Prop :=
  ∀ (s : State) (n : Station),
    let c := s.ch n
    let l := c.link
    let S := s.time.S
    let ends : Instr → Nat → Answer → Prop := fun i tag a =>
      exec i s =
        .next
          { (s.quiet.setCh n { c with link := { l with relay := none } }) with
            port := { s.port with replies := s.port.replies ++ [Reply.mk 0x35 tag a false] } }.done
    (∀ tag number k value, s.admits tag →
      let call := exec (match value with
        | none => .stationParamRead tag number k
        | some v => .stationParamWrite tag number k v) s
      (number = 0 ∨ 24 < number → call = .next (s.refusedWith 0x35 tag .badValue)) ∧
      (number = n.val + 1 →
        (l.state ≠ .up → call = .next (s.refusedWith 0x35 tag .wrongState)) ∧
        (l.state = .up → l.relay ≠ none → call = .next (s.refusedWith 0x35 tag .busy)) ∧
        (l.state = .up → l.relay = none →
          let serial := (l.relaySerial + 1) % 256
          call =
            .next
              { (s.taken.setCh n
                  { c with
                    link :=
                      { l with
                        relaySerial := serial, relay := some ⟨tag, serial, S, value.isSome⟩ } }) with
                emitted := [.link n S (.relay serial k value)] }.done))) ∧
    (∀ r, l.relay = some r →
      (∀ v, ends (.relayAnswer n r.serial true v) r.tag (.ok false (.relayed v))) ∧
      (∀ v, ends (.relayAnswer n r.serial false v) r.tag (.refused .badValue .none_)) ∧
      (∀ k known v, k ≠ r.serial → exec (.relayAnswer n k known v) s = .next s.quiet.done) ∧
      (r.start + 2400 ≤ S → ends (.relayTimeout n) r.tag (.refused .timeout .none_))) ∧
    (l.relay = none → ∀ k known v, exec (.relayAnswer n k known v) s = .next s.quiet.done) ∧
    (∀ tag number, s.admits tag →
      (number = 0 ∨ 24 < number →
        exec (.stationQuery tag number) s = .next (s.refusedWith 0x31 tag .badValue)) ∧
      (number = n.val + 1 →
        exec (.stationQuery tag number) s =
          .next ((s.taken.setCh n { c with link := { l with lateCount := 0 } }).replied 0x31 tag
            (.ok false
              (.station c.assigned c.reported
                { state := l.state, rate := l.rate, tries := l.tries, lastFailure := l.lastFailure
                  delay := l.delay, lead := l.delay.map (· + 96), stationSerial := l.stationSerial
                  reportedKind := l.reportedKind, rigCapable := l.rigCapable
                  ratesOffered := l.ratesOffered, errorCount := l.errorCount, windowEnd := l.windowEnd
                  clicks := l.queue.countP Event.isClick, patches := l.queue.countP Event.isPatch
                  lampEvents := l.queue.countP Event.isLamp
                  cueLamp := l.cueLamp.map fun x => (x.pattern, x.source)
                  stopLamp := l.stopLamp.map fun x => (x.pattern, x.source)
                  testing := l.test.isSome, relaying := l.relay.isSome, lateCount := l.lateCount }
                (s.patchOf n))))))

/-! ## Video inputs (08) -/

/-- 08 section 8.1, R145, R146. A frame matches the lowest-numbered non-empty entry whose lines it has and whose
period it is within the tolerance of. FORMAT_PUT is refused BAD_VALUE above entry 15. READ answers with the entry. A
WRITE is refused, in order, for entries 0 to 9, for a scan outside its enumeration, and BUSY for a forced entry;
taken it clamps and stores the entry, lines of 0 emptying it (the other fields then not read, log 49; scan by value
in the listed order, log 31), and returns to SEARCHING, A before B (the model's choice, log 64), each input locked
to or searching with it (its lock start then none, log 57). -/
def Obligations.FormatEntries : Prop :=
  ∀ s : State,
    let agrees : EntryNo → Nat → Nat → Prop := fun e lines period =>
      ∃ f, s.format e = some f ∧ f.lines = lines ∧ f.period ≤ period + f.tolerance ∧
        period ≤ f.period + f.tolerance
    (∀ lines period e,
      s.matchEntry lines period = some e ↔
        agrees e lines period ∧ ∀ e' < e, ¬ agrees e' lines period) ∧
    (∀ lines period, s.matchEntry lines period = none ↔ ∀ e, ¬ agrees e lines period) ∧
    (∀ tag, s.admits tag →
      (∀ e : EntryNo,
        exec (.formatPutRead tag e.val) s =
          .next (s.taken.replied 0x41 tag (.ok false (.format (s.format e))))) ∧
      (∀ number raw, 15 < number →
        exec (.formatPutRead tag number) s = .next (s.refusedWith 0x41 tag .badValue) ∧
          exec (.formatPutWrite tag number raw) s = .next (s.refusedWith 0x41 tag .badValue)) ∧
      (∀ (e : EntryNo) (raw : RawFormat),
        let call := exec (.formatPutWrite tag e.val raw) s
        let forced := s.vin.inputA.mode = .forced e ∨ s.vin.inputB.mode = .forced e
        let scan : Scan := if raw.scan = 0 then .progressive else .interlaced
        let f : Format :=
          ⟨min 1250 (max 200 raw.lines), min 50000 (max 10000 raw.period), min 500 raw.tolerance, scan,
            min 240 (max 1 raw.width), min 135 (max 1 raw.rows)⟩
        let clamped : Bool :=
          decide (f.lines ≠ raw.lines ∨ f.period ≠ raw.period ∨ f.tolerance ≠ raw.tolerance ∨
            f.width ≠ raw.width ∨ f.rows ≠ raw.rows)
        let searches : Input → State → State := fun i t =>
          let r := t.input i
          if r.matched = some e ∧ (r.lock = .searching ∨ (r.lock = .locked ∧ r.mode = .autoDetect)) then
            (t.setInput i
              { r with
                lock := .searching, matched := none, matchCount := 0, missCount := 0, missEnd := none
                lockStart := none }).lockChanged i r.lock
          else t
        let stored : Option Format → Bool → Prop := fun x c =>
          call =
            .next ((searches .b (searches .a
                { s.taken with
                  vin := { s.vin with formats := s.vin.formats.set e.val x e.isLt } })).refreshOutputs.replied
              0x41 tag (.ok c (.format x)))
        (e.val < 10 → call = .next (s.refusedWith 0x41 tag .badValue)) ∧
        (raw.lines ≠ 0 → 1 < raw.scan → call = .next (s.refusedWith 0x41 tag .badValue)) ∧
        (10 ≤ e.val → raw.lines = 0 ∨ raw.scan ≤ 1 → forced →
          call = .next (s.refusedWith 0x41 tag .busy)) ∧
        (10 ≤ e.val → raw.lines = 0 → ¬ forced → stored none false) ∧
        (10 ≤ e.val → raw.lines ≠ 0 → raw.scan ≤ 1 → ¬ forced → stored (some f) clamped)))

/-- R148, R150 to R152, R157. A frame start of an input that has sync gives the record of the rules: an unmeasured
one judges nothing; a measured one moves the candidate and the counts, locks at the lock count and unlocks at the
unlock count in AUTO_DETECT (the frame that unlocks is the next candidate, and the input stays SEARCHING with a lock
count of 1 too: the model's choice, log 24); in NO_SIGNAL nothing changes (the model's choice, log 45); in FORCED
mode the first locks and the others move the counts alone (log 22). It starts the next interval and the missing
watch of the entry. The lock change, the pending change, the outputs in progress and the frame starts of the outputs
follow in this order. -/
def Obligations.FramesMeasured : Prop :=
  ∀ (s : State) (i : Input) (micros : Nat),
    let r := s.input i
    let S := s.time.S
    let lines := min 4095 r.edges
    let period := min 999999 micros
    let m := s.matchEntry lines period
    let span : Option EntryNo → Option Nat := fun x =>
      (x.bind s.format).map fun (f : Format) => (2 * f.period * 48 + 999) / 1000
    let q : InputRecord := if r.valid = true then { r with lines := some lines, period := some period } else r
    let count := if r.matched = m then min 31 (r.matchCount + 1) else 1
    let miss := min 7 (r.missCount + 1)
    let agrees := m ≠ none ∧ m = r.matched
    let after : InputRecord → Option EntryNo → Prop := fun x watched =>
      s.frameRecord i micros =
        { x with
          lastFrame := some S, valid := true, edges := 0, missEnd := (span watched).map (S + ·) }
    (r.lock = .noSignal → exec (.inputFrameStart i micros) s = .next s.quiet.done) ∧
    (r.lock ≠ .noSignal →
      exec (.inputFrameStart i micros) s =
        .next ((((s.quiet.setInput i (s.frameRecord i micros)).lockChanged i r.lock).takeEffect
          i).refreshOutputs.handFrame i).done) ∧
    (r.mode = .autoDetect →
      (r.valid = false → after r r.matched) ∧
      (r.valid = true → r.lock = .searching →
        (m = none → after { q with matched := none, matchCount := 0 } none) ∧
        (m ≠ none → count < r.lockCount → after { q with matched := m, matchCount := count } m) ∧
        (m ≠ none → r.lockCount ≤ count →
          after
            { q with
              matched := m, matchCount := count, lock := .locked, missCount := 0, lockStart := some S }
            m)) ∧
      (r.valid = true → r.lock = .locked →
        (agrees → after { q with missCount := 0 } r.matched) ∧
        (¬ agrees → miss < r.unlockCount → after { q with missCount := miss } r.matched) ∧
        (¬ agrees → r.unlockCount ≤ miss →
          after
            { q with
              lock := .searching, matched := m, matchCount := if m = none then 0 else 1, missCount := 0
              lockStart := none } m))) ∧
    (∀ f, r.mode = .forced f →
      (r.lock = .searching →
        after { q with lock := .locked, matched := some f, lockStart := some S, missCount := 0 }
          (some f)) ∧
      (r.lock = .locked → r.valid = false → after r (some f)) ∧
      (r.lock = .locked → r.valid = true → r.matched = some f →
        (m = some f → after { q with missCount := 0, matchCount := min 31 (r.matchCount + 1) } (some f)) ∧
        (m ≠ some f → after { q with missCount := miss, matchCount := 0 } (some f))))

/-- R149 to R152. A sync edge sets sync present, the watch end to S + 4,800 and counts; in NO_SIGNAL it starts the
search, with its LOCK notice. The sync watch end loses sync in any lock state. The missing watch end takes a
SEARCHING input's candidate, and counts one miss of a LOCKED one, which unlocks it in AUTO_DETECT at the unlock
count and else sets the watch afresh, its match count standing in FORCED mode too (log 22). Each is taken at the
sample it waited for (R2 as log 4 reads it), and what follows a change of the lock state is judged there. -/
def Obligations.SyncAndMissingFrames : Prop :=
  ∀ (s : State) (i : Input),
    let r := s.input i
    let S := s.time.S
    let edge : InputRecord :=
      { r with syncPresent := true, syncWatchEnd := some (S + 4800), edges := min 4095 (r.edges + 1) }
    (r.lock ≠ .noSignal → exec (.syncEdge i) s = .next (s.quiet.setInput i edge).done) ∧
    (r.lock = .noSignal →
      exec (.syncEdge i) s =
        .next
          { s.quiet.setInput i
              { edge with
                lock := .searching, matched := none, matchCount := 0, missCount := 0, lastFrame := none
                valid := false } with
            port := s.port.offer
              (.videoState .lock (some i) (some .noSignal) (some .searching) none r.lines r.period
                (some r.mode) s.vin.selection S) }.done) ∧
    (∀ x, x ≤ S →
      let y := s.takenAt x
      let span : Option Nat :=
        ((match r.mode with
          | .forced f => some f
          | .autoDetect => r.matched).bind s.format).map fun (f : Format) => (2 * f.period * 48 + 999) / 1000
      let miss := min 7 (r.missCount + 1)
      let missed : InputRecord :=
        { r with missCount := miss, valid := false, missEnd := span.map (y + ·) }
      let becomes : Instr → InputRecord → Prop := fun c q =>
        exec c s =
          .next (((((s.quiet.atS y).setInput i q).lockChanged i r.lock).refreshOutputs).atS S).done
      (r.syncWatchEnd = some x →
        becomes (.syncWatchExpiry i)
          { r with
            syncPresent := false, syncWatchEnd := none, lock := .noSignal, matched := none
            lastFrame := none, lockStart := none, missEnd := none, matchCount := 0, missCount := 0 }) ∧
      (r.missEnd = some x →
        (r.lock = .searching →
          becomes (.missingWatchExpiry i)
            { r with matched := none, matchCount := 0, valid := false, missEnd := none }) ∧
        (r.lock = .locked → (∃ f, r.mode = .forced f) ∨ miss < r.unlockCount →
          becomes (.missingWatchExpiry i) missed) ∧
        (r.lock = .locked → r.mode = .autoDetect → r.unlockCount ≤ miss →
          becomes (.missingWatchExpiry i)
            { missed with
              lock := .searching, matched := none, matchCount := 0, missCount := 0, missEnd := none
              lockStart := none })))

/-- R154, R156, R157. What a change of an input's lock state does. Its LOCK notice comes first, with the selection
record as it stood before the choice (the model's choice, log 75; the notices of the choice carry the record after
it) and the matched entry as it stands after the change (log 76). In AUTO, B locking is chosen from none, from an A
that is not LOCKED, or from an A that its return time chose from none at this very sample (R154's last sentence
taken before its table, log 55); A locking gets its return time, reached at once at a hold of 0 (log 28; one that is
reached does not act again, log 46); the chosen input leaving LOCKED gives the other one if LOCKED and else none; A
leaving LOCKED clears its return time, and in FORCE_A and FORCE_B the lock changes move neither the choice nor the
return time (R155). A new choice is in effect at once when it is none or not LOCKED, is no change pending when it is
already in effect, and else is pending; SELECT and EFFECT notices report it (their fields by log 48). A pending
input takes effect at its frame start or its loss of lock (log 47). -/
def Obligations.LocksAndChoice : Prop :=
  ∀ (s : State) (i : Input),
    let x := s.vin.selection
    let locked : Option Input → Prop := fun c => ∃ k, c = some k ∧ (s.input k).lock = .locked
    let note : VideoEvent → Option Input → Selection → Notice := fun ev c y =>
      let q := c.map s.input
      .videoState ev c (q.map InputRecord.lock) (q.map InputRecord.lock) (q.bind InputRecord.matched)
        (q.bind InputRecord.lines) (q.bind InputRecord.period) (q.map InputRecord.mode) y s.time.S
    let chooses : Option Input → Selection → Prop := fun c y =>
      s.choose c =
        { s with
          vin := { s.vin with selection := y }
          port :=
            if y.inEffect = x.inEffect then s.port.offer (note .select c y)
            else (s.port.offer (note .select c y)).offer (note .effect y.inEffect y) }
    (∀ c, c ≠ x.chosen →
      (c = x.inEffect → chooses c { x with chosen := c, pendingChange := none }) ∧
      (c ≠ x.inEffect → locked c → chooses c { x with chosen := c, pendingChange := c }) ∧
      (c ≠ x.inEffect → ¬ locked c →
        chooses c { x with chosen := c, inEffect := c, pendingChange := none })) ∧
    s.choose x.chosen = s ∧
    (x.pendingChange ≠ some i → s.takeEffect i = s) ∧
    (x.pendingChange = some i →
      let y : Selection := { x with inEffect := some i, pendingChange := none }
      s.takeEffect i =
        { s with
          vin := { s.vin with selection := y }
          port := s.port.offer (note .effect (some i) y) }) ∧
    (let r := s.input i
     ∀ before,
      let t : State :=
        { s with
          port := s.port.offer
            (.videoState .lock (some i) (some before) (some r.lock) r.matched r.lines r.period
              (some r.mode) x s.time.S) }
      let returning : Option Sample → Bool → State := fun back spent =>
        { t with
          vin :=
            { s.vin with
              selection := { x with returnTime := back }, returnReached := none, returnSpent := spent } }
      let back := s.vin.inputA.lockStart.map (· + 48000 * x.hold)
      let late : Bool := decide (∃ v ∈ back, v ≤ s.time.S)
      let other : Input := match i with | .a => .b | .b => .a
      (before = r.lock → s.lockChanged i before = s) ∧
      (before ≠ r.lock → before ≠ .locked → r.lock ≠ .locked → s.lockChanged i before = t) ∧
      (before ≠ .locked → r.lock = .locked →
        (i = .b → s.lockChanged i before =
          if x.mode = .auto ∧ x.chosen ≠ some .b ∧
              (¬ locked x.chosen ∨ (x.chosen = some .a ∧ s.vin.returnReached = some s.time.S)) then
            t.choose (some .b)
          else t) ∧
        (i = .a → x.mode ≠ .auto → s.lockChanged i before = t) ∧
        (i = .a → x.mode = .auto → s.lockChanged i before =
          if x.chosen ≠ some .a ∧ late = true then
            let u := (returning back late).choose (some .a)
            if x.chosen = none then { u with vin := { u.vin with returnReached := some s.time.S } } else u
          else returning back late)) ∧
      (before = .locked → r.lock ≠ .locked →
        let u := if i = .a ∧ x.mode = .auto then returning none false else t
        s.lockChanged i before =
          (if x.mode = .auto ∧ x.chosen = some i then
            u.choose (if (s.input other).lock = .locked then some other else none)
          else u).takeEffect i))

/-- R153 to R155. RETURN_TIME chooses A in AUTO when another choice stands, once (log 55: it keeps in mind that it
did so from none), and does nothing else; reached in any mode or with A chosen, it does not act later (the model's
choice, log 46). SELECT is refused BAD_VALUE above mode 2; it stores the hold, at most 60, and finds a return time
that is set again from A's lock start; one kept in FORCE_A or FORCE_B while A has no lock start stands, also in AUTO
after it (the model's choice, log 46); a new mode chooses A for FORCE_A, B for FORCE_B, and for AUTO B only when B
alone is LOCKED, with the return time of a LOCKED A; the same mode leaves the choice but for a return time now
reached, and a new mode takes its place (log 56). The INPUT_SET addresses A, B, BOTH as 0, 1, 2 are the model's (log
31). INPUT_SET answers READ with the record, A's for BOTH; a WRITE is refused BAD_VALUE for an address above 2, a
mode above 1, or a forced entry above 15 or empty; taken it stores the clamped settings and acts by the table of
R153 on each addressed input, A before B (the model's choice, log 64; FORCED to FORCED, to the entry already forced
too, and back by log 23, the lock start by log 57). -/
def Obligations.SelectionAndInputSettings : Prop :=
  ∀ s : State,
    let x := s.vin.selection
    let S := s.time.S
    let toA : State → Sample → State := fun t y =>
      let u := t.choose (some .a)
      if x.chosen = none then { u with vin := { u.vin with returnReached := some y } } else u
    let spent : State → State := fun t => { t with vin := { t.vin with returnSpent := true } }
    (∀ v, x.returnTime = some v → v ≤ S →
      exec .returnTime s =
        .next
          (if x.mode = .auto ∧ x.chosen ≠ some .a ∧ s.vin.returnSpent = false then
            ((toA (spent (s.quiet.atS (s.takenAt v))) (s.takenAt v)).refreshOutputs.atS S).done
          else (spent s.quiet).refreshOutputs.done)) ∧
    (∀ tag, s.admits tag →
      (∀ mode hold,
        let h := min 60 hold
        let back := s.vin.inputA.lockStart.map (· + 48000 * h)
        let late : Bool := decide (∃ v ∈ back, v ≤ S)
        let finds := x.returnTime ≠ none ∧ s.vin.inputA.lockStart ≠ none
        let kept : SelectionMode → State := fun m =>
          { s.taken with vin := { s.vin with selection := { x with mode := m, hold := h } } }
        let found : SelectionMode → State := fun m =>
          { s.taken with
            vin :=
              { s.vin with
                selection := { x with mode := m, hold := h, returnTime := back }
                returnReached := none, returnSpent := late } }
        let goes : State → Prop := fun t =>
          exec (.select tag mode hold) s =
            .next (t.refreshOutputs.replied 0x42 tag
              (.ok (decide (60 < hold)) (.selection t.vin.selection)))
        let aLocked := s.vin.inputA.lock = .locked
        let bLocked := s.vin.inputB.lock = .locked
        (2 < mode → exec (.select tag mode hold) s = .next (s.refusedWith 0x42 tag .badValue)) ∧
        (∀ m, (mode, m) ∈ [(0, SelectionMode.auto), (1, .forceA), (2, .forceB)] → m = x.mode →
          goes
            (if finds then
              if x.mode = .auto ∧ x.chosen ≠ some .a ∧ late = true then toA (found m) S else found m
            else kept m)) ∧
        (mode = 0 → x.mode ≠ .auto →
          goes ((if finds ∨ aLocked then found .auto else kept .auto).choose
            (if aLocked ∨ ¬ bLocked then some .a else some .b))) ∧
        (mode = 1 → x.mode ≠ .forceA →
          goes ((if finds then found .forceA else kept .forceA).choose (some .a))) ∧
        (mode = 2 → x.mode ≠ .forceB →
          goes ((if finds then found .forceB else kept .forceB).choose (some .b)))) ∧
      exec (.inputSetRead tag 0) s =
        .next (s.taken.replied 0x40 tag (.ok false (.input s.vin.inputA))) ∧
      exec (.inputSetRead tag 1) s =
        .next (s.taken.replied 0x40 tag (.ok false (.input s.vin.inputB))) ∧
      exec (.inputSetRead tag 2) s =
        .next (s.taken.replied 0x40 tag (.ok false (.input s.vin.inputA))) ∧
      (∀ address, 2 < address →
        exec (.inputSetRead tag address) s = .next (s.refusedWith 0x40 tag .badValue)) ∧
      (∀ address mode entry lock unlock,
        let call := exec (.inputSetWrite tag address mode entry lock unlock) s
        let named := ∃ e : EntryNo, e.val = entry ∧ s.format e ≠ none
        let l := min 31 (max 1 lock)
        let u := min 7 (max 1 unlock)
        let clamped : Bool := decide (l ≠ lock) || decide (u ≠ unlock)
        let watch : InputRecord → EntryNo → InputRecord := fun q e =>
          { q with
            missEnd :=
              match q.lastFrame, s.format e with
              | some f, some g => some (f + (2 * g.period * 48 + 999) / 1000)
              | _, _ => none }
        let written : InputMode → InputRecord → InputRecord := fun m r =>
          let q : InputRecord := { r with mode := m, lockCount := l, unlockCount := u }
          match r.mode, m with
          | .autoDetect, .autoDetect => q
          | .autoDetect, .forced f =>
            if r.lastFrame = none then q
            else
              watch
                { q with
                  lock := .locked, matched := some f
                  lockStart := if r.lock = .locked then r.lockStart else some S } f
          | .forced _, .forced f => if r.lock = .locked then watch { q with matched := some f } f else q
          | .forced _, .autoDetect =>
            if r.lock = .noSignal then q
            else
              { q with
                lock := .searching, matched := none, matchCount := 0, missCount := 0, missEnd := none
                lockStart := none }
        let one : InputMode → Input → State → State := fun m i t =>
          (t.setInput i (written m (t.input i))).lockChanged i (t.input i).lock
        let goes : State → Input → Prop := fun t i =>
          call = .next (t.refreshOutputs.replied 0x40 tag (.ok clamped (.input (t.input i))))
        (2 < address ∨ 1 < mode ∨ (mode = 1 ∧ ¬ named) →
          call = .next (s.refusedWith 0x40 tag .badValue)) ∧
        (∀ m : InputMode,
          (mode = 0 ∧ m = .autoDetect) ∨
            (mode = 1 ∧ named ∧ ∃ e : EntryNo, e.val = entry ∧ m = .forced e) →
          (address = 0 → goes (one m .a s.taken) .a) ∧
          (address = 1 → goes (one m .b s.taken) .b) ∧
          (address = 2 → goes (one m .b (one m .a s.taken)) .a))))

/-! ## Video outputs and overlay (09) -/

/-- R158, R161, R164, R165. OUTPUT_SET is refused BAD_VALUE for an output outside 1..4, a source or a fallback above
2; READ answers with the record; a WRITE clamps and stores the settings, gives an output it enables the committed
layout (and adoption due while one is staged), ends the frame of one it disables and clears its mark, and draws the
frame in progress against the new source. PALETTE is refused for an entry above 7 and sets the entry. OVERLAY_PUT
replaces the pending record of a field, clamped, or the banner text, and is refused BAD_VALUE for a field above 5, a
colour above 7 or an unprintable character, and BAD_LENGTH for a text above 16 characters (log 26). OVERLAY_COMMIT
stages the pending layout for every enabled output; with no adoption due a staged layout is the committed one. R171
has a reply carry the contents its owner names; for PALETTE and OVERLAY_PUT none are named, and that their OK
replies carry nothing is the model's reading (log 44). -/
def Obligations.OutputAndOverlayRequests : Prop :=
  ∀ (s : State) (tag : Nat), s.admits tag →
    let settled : VideoOut → VideoOut := fun v =>
      match v.staged with
      | some l =>
        if v.outputs.toList.any OutputRecord.adoptionDue = true then v
        else { v with committed := l, staged := none }
      | none => v
    let bad : Instr → Nat → Prop := fun c kind => exec c s = .next (s.refusedWith kind tag .badValue)
    (∀ number raw, number = 0 ∨ 4 < number →
      bad (.outputSetRead tag number) 0x48 ∧ bad (.outputSetWrite tag number raw) 0x48) ∧
    (∀ o : OutputNo,
      exec (.outputSetRead tag (o.val + 1)) s =
        .next (s.taken.replied 0x48 tag (.ok false (.output (s.output o)))) ∧
      ∀ raw : RawOutput,
        (2 < raw.source ∨ 2 < raw.fallback → bad (.outputSetWrite tag (o.val + 1) raw) 0x48) ∧
        (∀ source fallback,
          (raw.source, source) ∈ [(0, OutputSource.selected), (1, .a), (2, .b)] →
          (raw.fallback, fallback) ∈ [(0, Fallback.black), (1, .bars), (2, .card)] →
          let frames := min 4 (max 1 raw.flashFrames)
          let q : OutputRecord :=
            { s.output o with
              source := source, mask := raw.mask, fallback := fallback
              flashAdvance := min 9600 raw.flashAdvance, flashFrames := frames }
          let r : OutputRecord :=
            if raw.enabled = q.enabled then q
            else if raw.enabled = true then
              { q with
                enabled := true, layout := s.vout.committed, adoptionDue := s.vout.staged.isSome
                shownPicture := false }
            else { q with enabled := false, frame := none, adoptionDue := false }
          let t : State :=
            { s.taken with
              vout := settled { s.vout with outputs := s.vout.outputs.set o.val r o.isLt } }
          exec (.outputSetWrite tag (o.val + 1) raw) s =
            .next ((t.refreshOutput o).replied 0x48 tag
              (.ok (decide (9600 < raw.flashAdvance) || decide (frames ≠ raw.flashFrames))
                (.output ((t.refreshOutput o).output o)))))) ∧
    (∀ entry red green blue,
      (7 < entry → bad (.palette tag entry red green blue) 0x4B) ∧
      (∀ e : Fin 8, e.val = entry →
        exec (.palette tag entry red green blue) s =
          .next ({ s.taken with
            vout := { s.vout with palette := s.vout.palette.set e.val ⟨red, green, blue⟩ e.isLt } }.replied
              0x4B tag (.ok false .empty)))) ∧
    (∀ field (raw : RawField),
      (5 < field ∨ 7 < raw.foreground ∨ 7 < raw.background ∨ (field = 2 ∧ 7 < raw.downbeat) →
        bad (.overlayPutField tag field raw) 0x49) ∧
      (∀ fg bg down : Fin 8, fg.val = raw.foreground → bg.val = raw.background → field ≤ 5 →
        (field = 2 → down.val = raw.downbeat) →
        let r : FieldRecord := ⟨min 239 raw.column, min 134 raw.row, fg, bg, raw.enabled⟩
        let l := s.vout.pendingLayout
        let after : Layout :=
          match field with
          | 0 => { l with cue := r }
          | 1 => { l with position := r }
          | 2 => { l with flash := r, downbeat := down }
          | 3 => { l with banner := r }
          | 4 => { l with countdown := r }
          | _ => { l with text := r }
        exec (.overlayPutField tag field raw) s =
          .next ({ s.taken with vout := { s.vout with pendingLayout := after } }.replied 0x49 tag
            (.ok (decide (239 < raw.column) || decide (134 < raw.row)) .empty)))) ∧
    (∀ text : Text,
      (16 < text.length →
        exec (.overlayPutBannerText tag text) s = .next (s.refusedWith 0x49 tag .badLength)) ∧
      (text.length ≤ 16 → (∃ c ∈ text, c < 32 ∨ 126 < c) → bad (.overlayPutBannerText tag text) 0x49) ∧
      (text.length ≤ 16 → (∀ c ∈ text, 32 ≤ c ∧ c ≤ 126) →
        exec (.overlayPutBannerText tag text) s =
          .next ({ s.taken with vout := { s.vout with bannerText := text } }.replied 0x49 tag
            (.ok false .empty)))) ∧
    exec (.overlayCommit tag) s =
      .next ({ s.taken with
        vout := settled
          { s.vout with
            staged := some s.vout.pendingLayout
            outputs :=
              s.vout.outputs.map fun (r : OutputRecord) => { r with adoptionDue := r.enabled } } }.replied 0x4A
        tag (.ok false (.adoptions (s.vout.outputs.toList.filter OutputRecord.enabled).length)))

/-- R159, R160, R162, R165 to R167. An output's own frame starts when the period of its hold format (as the frame in
progress took it; with a last frame start but no frame in progress, as the entry or else entry 2 holds it now, by
log 71) has passed or there is no last frame start, FILL with a LOCKED source and FALLBACK without. A frame start of
an input starts a PICTURE frame on each enabled output it is the LOCKED source of, Output 1 first (the model's
choice, log 64). A frame start makes the adoption due, latches the palette, the running cue, the sounded record at
the stamp plus the flash advance, its countdown and the banner, settles the flash, and puts the composed frame on
the output's port (log 10) with the fields that are enabled, in the mask and wholly inside the active area, each
cell of their extents laid out: a character in its cell from the first on, in the foreground on the background, and
the rest background (log 61). A frame in progress whose source has left LOCKED or become another is drawn from the
fallback pattern, and its state is FALLBACK (the model's choice where the new source is LOCKED, log 58). -/
def Obligations.OutputFrames : Prop :=
  ∀ (s : State) (o : OutputNo),
    let r := s.output o
    let S := s.time.S
    let source : OutputRecord → Option Input := fun q =>
      let i : Option Input :=
        match q.source with
        | .selected => s.vin.selection.inEffect
        | .a => some .a
        | .b => some .b
      i.filter fun k => decide ((s.input k).lock = .locked)
    let usable : EntryNo → EntryNo := fun e => if s.format e = none then 2 else e
    let elapsed : Nat → Prop := fun micros =>
      match r.lastFrame, r.frame with
      | none, _ => True
      | some _, some f => f.format.period ≤ micros
      | some _, none => (s.fieldsOf (usable r.holdFormat)).period ≤ micros
    (∀ micros,
      (r.enabled = true → elapsed micros →
        exec (.outputOwnFrameStart o micros) s =
          .next (s.quiet.startFrame o (if source r = none then .fallback else .fill)
            (usable r.holdFormat)).done) ∧
      (r.enabled = false ∨ ¬ elapsed micros →
        exec (.outputOwnFrameStart o micros) s = .next s.quiet.done)) ∧
    (∀ i,
      s.handFrame i = [0, 1, 2, 3].foldl (State.takePicture i) s ∧
      (r.enabled = true → source r = some i →
        s.takePicture i o = s.startFrame o .picture (usable ((s.input i).matched.getD 2))) ∧
      (r.enabled = false ∨ source r ≠ some i → s.takePicture i o = s)) ∧
    (∀ st e,
      let settled : VideoOut → VideoOut := fun v =>
        match v.staged with
        | some l =>
          if v.outputs.toList.any OutputRecord.adoptionDue = true then v
          else { v with committed := l, staged := none }
        | none => v
      let a : OutputRecord :=
        if r.adoptionDue = true then
          { r with layout := s.vout.staged.getD r.layout, adoptionDue := false }
        else r
      let v : VideoOut :=
        if r.adoptionDue = true then
          settled { s.vout with outputs := s.vout.outputs.set o.val a o.isLt }
        else s.vout
      let sounded := (s.click.kept.filter fun b => decide (b.onset ≤ S + a.flashAdvance)).getLast?
      let latched : Latched :=
        { palette := s.vout.palette
          cue := s.cue.running
          sounded := sounded
          countdown := sounded.bind BeatRecord.countdown
          banner :=
            if s.ctl.state = .stopped then some .stop
            else if s.ctl.offersHold = true then some .hold
            else if s.cue.mode = .local_ then some .localControl
            else if s.vout.bannerText = [] then none
            else some (.host s.vout.bannerText) }
      let lit : BeatRecord → OutputRecord := fun b =>
        { a with
          litOnset := some b.onset, framesLeft := a.flashFrames
          litColour := if b.level = .down then a.layout.downbeat else a.layout.flash.foreground }
      let f : OutputRecord :=
        match sounded, a.litOnset with
        | none, _ => { a with litOnset := none, framesLeft := 0 }
        | some b, none => lit b
        | some b, some x =>
          if x < b.onset then lit b
          else if x = b.onset then a
          else { a with litOnset := some b.onset, framesLeft := 0 }
      let g := (s.format e).getD ⟨750, 16683, 7, .progressive, 160, 90⟩
      let fields := [OverlayField.cue, .position, .flash, .banner, .countdown, .text].filter fun x =>
        (a.layout.field x).enabled && drawnIn a.mask x &&
          decide ((a.layout.field x).column + x.extent.1 ≤ g.width ∧
            (a.layout.field x).row + x.extent.2 ≤ g.rows)
      let picture : Picture :=
        match st, source a with
        | .picture, some i => .input i
        | .fill, _ => if a.shownPicture = true then .lastPicture else .pattern a.fallback
        | _, _ => .pattern a.fallback
      s.startFrame o st e =
        { s with
          vout :=
            { v with
              outputs := v.outputs.set o.val
                { f with
                  framesLeft := f.framesLeft - 1, holdFormat := e, lastFrame := some S
                  frame := some ⟨st, source a, g⟩, latched := some latched
                  shownPicture := a.shownPicture || decide (st = .picture) } o.isLt }
          emitted := s.emitted ++
            [.output o
              { stamp := S
                state := st
                format := e
                scan := g.scan
                picture := picture
                palette := s.vout.palette
                fields := fields.map fun x =>
                  let q := a.layout.field x
                  let content := fieldContent f latched x
                  ⟨x, q, content,
                    (List.range x.extent.2).map fun i => (List.range x.extent.1).map fun j =>
                      match content with
                      | .text t => ⟨t[i * x.extent.1 + j]?, q.foreground, q.background⟩
                      | .box colour => ⟨none, q.foreground, colour⟩⟩ }] }) ∧
    ((s.refreshOutputs).output o =
      { r with
        frame := r.frame.map fun f =>
          if f.state ≠ .fallback ∧ f.input ≠ source r then { f with state := .fallback } else f }) ∧
    s.refreshOutputs =
      { s with vout := { s.vout with outputs := s.refreshOutputs.vout.outputs } }

/-! ## Control Port (10) -/

/-- R169, R170, R175. A byte received is taken by the assembler's phase, as the table of R169 lays down, and is
discarded once a RESTART has been decoded; in HUNT its stop bit is not judged (log 29). A complete frame with a
wrong check is answered REJECT BAD_FRAME with tag 0; one with a right check does what the row of the request it
carries does, where its payload reads as one (the layouts of 10 section 10.7 and the empty ones; the others are
free, log 8), and is refused BAD_KIND, BAD_LENGTH, or, for an action, subject or item outside the request's own,
BAD_VALUE otherwise (log 50). 241 samples after its last byte a frame in progress is abandoned without an answer.
The check of the nine characters is 0x29B1. -/
def Obligations.FrameBytes : Prop :=
  (∀ (s : State) (b : Byte) (stop : Bool),
    let p := s.port
    let goes : ControlPort → Prop := fun q =>
      exec (.byteReceived b stop) s = .next { s.quiet with port := q }.done
    let stored : Phase → Nat → ControlPort := fun ph left =>
      { p with phase := ph, bytes := p.bytes ++ [b], expected := left, lastByteAt := some s.time.S }
    let hunting : ControlPort := { p with phase := .hunt, bytes := [], expected := 0, lastByteAt := none }
    let badFrame : ControlPort :=
      { hunting with
        rejects := if p.rejects.length < 4 then p.rejects ++ [Reject.mk .badFrame 0] else p.rejects }
    (p.restarting = true → goes p) ∧
    (p.restarting = false →
      (p.phase = .hunt →
        goes (if b = 0xA5#8 then
            { p with phase := .header, bytes := [], expected := 3, lastByteAt := some s.time.S }
          else p)) ∧
      (p.phase ≠ .hunt → stop = false → goes badFrame) ∧
      (p.phase = .header → stop = true →
        (p.expected = 3 → goes (if 250 < b.toNat then badFrame else stored .header 2)) ∧
        (p.expected = 2 → goes (stored .header 1)) ∧
        (∀ length rest, p.expected = 1 → p.bytes = length :: rest →
          goes (if length.toNat = 0 then stored .check 2 else stored .body length.toNat))) ∧
      (p.phase = .body → stop = true →
        (∀ k, p.expected = k + 2 → goes (stored .body (k + 1))) ∧
        (p.expected = 1 → goes (stored .check 2))) ∧
      (p.phase = .check → stop = true →
        (p.expected = 2 → goes (stored .check 1)) ∧
        (∀ length kind tag payload first, p.expected = 1 →
          p.bytes = length :: kind :: tag :: payload ++ [first] →
          let body : List Byte := length :: kind :: tag :: payload
          let k := kind.toNat
          let t := tag.toNat
          let s0 : State := { s with port := hunting }
          (checkBytes body ≠ [first, b] → goes badFrame) ∧
          (checkBytes body = [first, b] →
            (∀ i r, requestOf i = some r → readPayload k t payload = .request i → r.kind = k →
              r.tag = t → r.lengthOk = true → exec (.byteReceived b stop) s = exec i s0) ∧
            (p.placesHeld < 4 → isRequestKind k = false →
              exec (.byteReceived b stop) s = .next (s0.refusedWith k t .badKind)) ∧
            (p.placesHeld < 4 → isRequestKind k = true → t ≠ 0 →
              readPayload k t payload = .badLength →
              exec (.byteReceived b stop) s = .next (s0.refusedWith k t .badLength)) ∧
            (p.placesHeld < 4 → isRequestKind k = true → t ≠ 0 →
              readPayload k t payload = .badValue →
              exec (.byteReceived b stop) s = .next (s0.refusedWith k t .badValue)))))) ∧
    (∀ x, p.phase ≠ .hunt → p.lastByteAt = some x → x + 241 ≤ s.time.S →
      exec .byteGapExpiry s = .next { s.quiet with port := hunting }.done)) ∧
  (∀ (t : Nat) (x y z : Byte),
    let number := (x.toNat * 256 + y.toNat) * 256 + z.toNat
    readPayload 0x01 t [] = .request (.status t) ∧ readPayload 0x01 t [x] = .badLength ∧
      readPayload 0x03 t [] = .request (.restart t) ∧ readPayload 0x03 t [x] = .badLength ∧
      readPayload 0x18 t [x, y, z] = .request (.go t number) ∧ readPayload 0x18 t [x, y] = .badLength ∧
      readPayload 0x19 t [x, y, z] = .request (.goto t number) ∧
      readPayload 0x02 t [0#8] = .request (.noticeMaskRead t) ∧
      readPayload 0x02 t [1#8, y, z] = .request (.noticeMaskWrite t (y ++ z)) ∧
      (1 < x.toNat → readPayload 0x02 t [x, y, z] = .badValue)) ∧
  (∀ (t kind values : Nat) (payload : List Byte),
    (kind, values) ∈ [(0x08, 3), (0x1B, 5), (0x35, 2), (0x40, 2), (0x41, 2), (0x48, 2), (0x49, 2)] →
    readPayload kind t payload =
      match Config.requestCode kind payload with
      | none => .badLength
      | some code => if code < values then layoutPayload kind t (some code) payload else .badValue) ∧
  (∀ (t : Nat) (x : Byte) (rest : List Byte), 1 < x.toNat →
    readPayload 0x02 t (x :: rest) = .badValue) ∧
  checkBytes [0x31#8, 0x32#8, 0x33#8, 0x34#8, 0x35#8, 0x36#8, 0x37#8, 0x38#8, 0x39#8] = [0x29#8, 0xB1#8]

/-- R80, R82, R169, R170, R175. Every request row is the taking of a valid frame (log 6): with a RESTART decoded it
is discarded; else it restarts the host-silence timer and returns LOCAL to REMOTE with its CONTROL_MODE notice, and
is then answered REJECT BUSY with its own tag while 4 places are held, refused BAD_VALUE for tag 0, refused
BAD_LENGTH for a wrong length, or judged by its owner, whose answer becomes its reply; a deferred answer gives none.
-/
def Obligations.RequestsTaken : Prop :=
  (∀ (i : Instr) (r : Request), requestOf i = some r → ∀ s : State,
    (s.port.restarting = true → exec i s = .next s.quiet.done) ∧
    (s.port.restarting = false →
      (4 ≤ s.port.placesHeld →
        exec i s =
          .next
            { s.taken with
              port :=
                { s.taken.port with
                  rejects :=
                    if s.port.rejects.length < 4 then s.port.rejects ++ [Reject.mk .busy r.tag]
                    else s.port.rejects } }.done) ∧
      (s.port.placesHeld < 4 → r.tag = 0 → exec i s = .next (s.refusedWith r.kind 0 .badValue)) ∧
      (s.port.placesHeld < 4 → r.tag ≠ 0 → r.lengthOk = false →
        exec i s = .next (s.refusedWith r.kind r.tag .badLength)) ∧
      (s.port.placesHeld < 4 → r.tag ≠ 0 → r.lengthOk = true → ∀ t a, r.owner s.taken = (t, a) →
        exec i s = .next (if a = .deferred then t.done else t.replied r.kind r.tag a)))) ∧
  (∀ s : State,
    let ctl : ShowControl :=
      { s.ctl with
        silenceEnd :=
          if s.ctl.silenceLimit = 0 then none else some (s.time.S + s.ctl.silenceLimit * 4800) }
    (s.cue.mode = .remote → s.taken = { s.quiet with ctl := ctl }) ∧
    (∀ x gos, s.cue.mode = .local_ → s.cue.localEntry = some ⟨x, gos⟩ →
      s.taken =
        { s.quiet with
          ctl := ctl
          cue := { s.cue with mode := .remote, localEntry := none }
          port := s.port.offer (.controlMode .remote x (some (s.time.S, gos))) }))

/-- R173 to R175, Table 10.7. NOTICE_MASK READ answers with the mask, WRITE stores bits 0 to 12 and answers with
them; the reply's contents are the mask in two bytes, the enable of kind 0xC0 + k in bit k (bits 13 to 15 clear, the
model's choice, log 65). STATUS answers with the state of the part as it stands once its frame has been taken, its
own place counted as held, and clears the lost flag. RESTART is answered OK and stops decoding; R171 has a reply
carry the contents its owner names, and that this one carries nothing is the model's reading (log 44). -/
def Obligations.PortRequests : Prop :=
  ∀ (s : State) (tag : Nat), s.admits tag →
    let up : (Link → Bool) → Nat := fun f =>
      allStations.countP fun n => decide ((s.ch n).link.state = .up) && f (s.ch n).link
    exec (.noticeMaskRead tag) s =
      .next (s.taken.replied 0x02 tag (.ok false (.noticeMask s.port.mask))) ∧
    (∀ (wide : BitVec 16) (mask : BitVec 13), (∀ k, k < 13 → mask.getLsbD k = wide.getLsbD k) →
      exec (.noticeMaskWrite tag wide) s =
        .next ({ s.taken with port := { s.taken.port with mask := mask } }.replied 0x02 tag
          (.ok false (.noticeMask mask)))) ∧
    (∀ (mask : BitVec 13) (place : Bool),
      ∃ high low, (Reply.mk 0x02 tag (.ok false (.noticeMask mask)) place).contents = [high, low] ∧
        ∀ k, k < 8 →
          low.getLsbD k = mask.getLsbD k ∧ high.getLsbD k = mask.getLsbD (k + 8)) ∧
    exec (.status tag) s =
      .next ({ s.taken with port := { s.taken.port with lost := false } }.replied 0x01 tag
        (.ok false
          (.status
            { S := s.time.S
              lastReset := s.port.lastReset
              showState := s.ctl.state
              mode := .remote
              clockState := s.time.clockState
              edit := s.cue.edit
              serial := s.cue.serial
              standby := s.cue.standby
              running := s.cue.running.map RunningCue.number
              lost := s.taken.port.lost
              noticesQueued := s.taken.port.notices.length
              placesFree := 3 - s.port.placesHeld
              lineRate := s.port.lineRate
              linksUp := up fun _ => true
              linksReduced := up fun (l : Link) => decide (l.rate = LinkRate.reduced)
              inEffect := s.vin.selection.inEffect
              stopRecord := s.ctl.stopRecord.isSome }))) ∧
    exec (.restart tag) s =
      .next ({ s.taken with port := { s.taken.port with restarting := true } }.replied 0x03 tag
        (.ok false .empty))

/-- R171 to R173, R175. A free transmitter takes the oldest waiting REJECT, else the oldest reply, else the oldest
notice unless a RESTART has been decoded, and never gives up the frame it has begun. The last byte of a frame frees
it, with its place or its position in the notice queue. A notice is lost with its enable clear, placed while fewer
than 32 wait, and dropped with the lost flag set otherwise. Frames have the lengths of Tables 10.6 to 10.8. With the
last byte of the OK reply to a RESTART the RESTART takes place, every block at the values of its chapter; the fields
whose value no chapter states are those of log 11, the SEEK bursts of the stations in use go out station 1 first
(the model's choice, log 64), and the commands that wait stay (the model's choice, log 37). -/
def Obligations.FramesSent : Prop :=
  (∀ p : ControlPort,
    (p.sending ≠ none → p.arbitrate = p) ∧
    (p.sending = none →
      (∀ r rs, p.rejects = r :: rs →
        p.arbitrate = { p with sending := some (.reject r), rejects := rs }) ∧
      (p.rejects = [] → p.replies ≠ [] → p.arbitrate = { p with sending := some .reply }) ∧
      (p.rejects = [] → p.replies = [] → p.notices ≠ [] → p.restarting = false →
        p.arbitrate = { p with sending := some .notice }) ∧
      (p.rejects = [] → p.replies = [] → p.notices = [] ∨ p.restarting = true → p.arbitrate = p)) ∧
    ∀ x : Notice,
      (p.mask.getLsbD x.kind = false → p.offer x = p) ∧
      (p.mask.getLsbD x.kind = true → p.notices.length < 32 →
        p.offer x = { p with notices := p.notices ++ [x] }) ∧
      (p.mask.getLsbD x.kind = true → 32 ≤ p.notices.length → p.offer x = { p with lost := true })) ∧
  (∀ (tag : Nat) (c place : Bool) (r : StatusRecord) (cue : Nat) (slot : SlotName)
      (point standby : Option Nat) (at_ x : Sample) (f : FiredCue) (m : MapRef) (promoted : Bool),
    (SerialFrame.reject ⟨.busy, tag⟩).bytes.length = 7 ∧
      (SerialFrame.reply ⟨0x18, tag, .refused .debounced .none_, place⟩).bytes.length = 8 ∧
      (SerialFrame.reply ⟨0x01, tag, .ok c (.status r), place⟩).bytes.length = 35 ∧
      (SerialFrame.reply ⟨0x18, tag, .ok c (.fired cue slot point standby), place⟩).bytes.length = 21 ∧
      (SerialFrame.notice (.cueFired at_ f x m standby promoted)).bytes.length = 36) ∧
  ∀ s : State,
    let p := s.port
    let sent : SerialFrame → List Reply → List Notice → Prop := fun f rs ns =>
      exec .frameSent s =
        .next
          { s.quiet with
            port := { p with sending := none, replies := rs, notices := ns }
            emitted := [.serial f] }.done
    (p.sending = none → exec .frameSent s = .next s.quiet.done) ∧
    (∀ r, p.sending = some (.reject r) → sent (.reject r) p.replies p.notices) ∧
    (∀ r rs, p.sending = some .reply → p.replies = r :: rs →
      r.kind ≠ 0x03 ∨ (∀ c b, r.answer ≠ .ok c b) → sent (.reply r) rs p.notices) ∧
    (∀ x xs, p.sending = some .notice → p.notices = x :: xs → sent (.notice x) p.replies xs) ∧
    (∀ r rs c b, p.sending = some .reply → p.replies = r :: rs → r.kind = 0x03 → r.answer = .ok c b →
      let S := s.time.S
      let search : InputRecord → InputRecord := fun i =>
        { InputRecord.powerUp with
          mode := i.mode, lockCount := i.lockCount, unlockCount := i.unlockCount }
      let chosen := some (if s.vin.selection.mode = .forceB then Input.b else .a)
      ∃ t, exec .frameSent s = .next t ∧ t.pending = s.pending ∧ t.reports = [] ∧
        t.time = { s.time with pendingSwitch := none } ∧
        t.click = ClickEngine.powerUp ∧
        t.cue = { CueEngine.powerUp with book := s.cue.book, serial := s.cue.serial } ∧
        (∀ n, t.patchOf n = PatchRecord.powerUp) ∧
        t.ctl =
          { ShowControl.powerUp s.ctl.activeOpen s.ctl.lineActive with
            stopRecord := s.ctl.stopRecord
            timerEnd := if s.ctl.lineActive = true then some (S + 960) else none
            silenceEnd := some (S + 144000) } ∧
        (∀ n,
          let link : Link := { Link.powerUp with serialLastUp := (s.ch n).link.serialLastUp }
          t.ch n =
            ⟨(s.ch n).assigned, Reported.cleared,
              if (s.ch n).assigned.role = .unused then link else link.seeking S none⟩) ∧
        t.vin.formats = s.vin.formats ∧
        t.vin.inputA = search s.vin.inputA ∧ t.vin.inputB = search s.vin.inputB ∧
        t.vin.selection =
          { s.vin.selection with
            chosen := chosen, inEffect := chosen, pendingChange := none, returnTime := none } ∧
        t.vin.returnReached = none ∧ t.vin.returnSpent = false ∧
        t.vout = VideoOut.afterReset s.vout.committed ∧
        t.port = ControlPort.afterReset p.lineRate .restart ∧
        t.emitted =
          .serial (.reply r) ::
            (allStations.filter fun n => decide ((s.ch n).assigned.role ≠ .unused)).map fun n =>
              .link n S .seekBurst)

/-! ## The machine -/

/-- A step takes the command at the front of the queue and runs it on the state with the queue's rest; with no
command waiting the block idles (the model's choice, log 5). No command stops the block. -/
def Obligations.StepRunsTheFrontCommand : Prop :=
  (∀ (c : Instr) (cs : List Instr) (s : State), s.pending = c :: cs →
    step s = exec c { s with pending := cs }) ∧
  (∀ s : State, s.pending = [] → step s = .next s) ∧
  ∀ s : State, ∃ t, step s = .next t

/-- POWER_UP and the reset values of every chapter (00 section 0.5). POWER_UP reads the straps and the stop line and
sets every value from any state; the commands that wait stay (the model's choice, log 37). `State.reset` is POWER_UP
with every strap at value 0 and an inactive line (the model's choice, log 7); values the manual does not state are
those of log 11. -/
def Obligations.PowerUpValues : Prop :=
  ∀ (straps : Straps) (closed : Bool) (s : State),
    let active : Bool := decide (closed ≠ straps.activeOpen)
    let input : InputRecord :=
      { mode := .autoDetect, lockCount := 8, unlockCount := 3, syncPresent := false
        syncWatchEnd := none, lastFrame := none, valid := false, edges := 0, lines := none
        period := none, lock := .noSignal, matched := none, matchCount := 0, missCount := 0
        missEnd := none, lockStart := none }
    let layout : Layout :=
      { cue := ⟨1, 1, 1, 0, true⟩, position := ⟨1, 3, 1, 0, true⟩, flash := ⟨1, 5, 5, 0, false⟩
        banner := ⟨1, 8, 1, 2, false⟩, countdown := ⟨15, 3, 5, 0, false⟩, text := ⟨1, 10, 1, 0, false⟩
        downbeat := 2 }
    (∃ t, exec (.powerUp straps closed) s = .next t ∧
      t.pending = s.pending ∧ t.emitted = [] ∧ t.reports = [] ∧
      t.time =
        { S := 0, advance := 0, clockState := .internal, pendingSwitch := none
          wordPreferred := straps.wordPreferred, autoSwitch := straps.wordPreferred, watch := 0
          edgesAbsent := false, windowPosition := 0, windowEdges := 0, windowSpoiled := false
          lastWindowEdges := 0, goodRun := 0 } ∧
      t.click =
        { context := none, held := false, limit := none, holdPoint := none, release := false
          taps := [], kept := [], reach := none } ∧
      t.cue =
        { book := ⟨[], []⟩, serial := 0, edit := .closed, buffer := ⟨[], []⟩, copiedFrom := 0
          standby := none, running := none, warned := none, inFlight := none, queued := none
          lockoutMs := 300, lockoutEnd := none, barMark := false, mode := .remote
          localEntry := none } ∧
      (∀ n, t.patchOf n = ⟨none, none, .clear, 0, none⟩) ∧
      t.ctl =
        { state := .dark, holdPending := none, continuePending := none, stopRecord := none
          lineMode := .level, qualifyMs := 20, activeOpen := straps.activeOpen
          qualifier := if active = true then .qualifying else .idle
          timerEnd := if active = true then some 960 else none
          lineActive := active, silenceLimit := 30, silenceEnd := some 144000 } ∧
      (∀ n, t.ch n = Channel.powerUp ∧
        (t.ch n).assigned =
          ⟨.unused, .click, [], ⟨true, 1, true, false, 8⟩, ⟨false, false, false, false, false⟩, 3, 3⟩ ∧
        (t.ch n).link.state = .off ∧ (t.ch n).link.rate = .full ∧ (t.ch n).link.queue = []) ∧
      t.vin.formats = Format.table ∧ t.vin.inputA = input ∧ t.vin.inputB = input ∧
      t.vin.selection =
        { mode := .auto, hold := 5, chosen := some .a, inEffect := some .a, pendingChange := none
          returnTime := none } ∧
      t.vin.returnReached = none ∧ t.vin.returnSpent = false ∧
      (∀ o : OutputNo,
        t.output o =
          { enabled := decide (o = 0), source := .selected
            mask := ⟨true, true, true, true, true, true⟩, fallback := .card, holdFormat := 2
            flashAdvance := 1920, flashFrames := 2, layout := layout, adoptionDue := false
            litOnset := none, framesLeft := 0, litColour := 0, lastFrame := none, frame := none
            shownPicture := false, latched := none }) ∧
      t.vout.palette =
        #v[⟨0, 0, 0⟩, ⟨255, 255, 255⟩, ⟨255, 0, 0⟩, ⟨0, 255, 0⟩, ⟨0, 0, 255⟩, ⟨255, 255, 0⟩,
          ⟨0, 255, 255⟩, ⟨128, 128, 128⟩] ∧
      t.vout.pendingLayout = layout ∧ t.vout.committed = layout ∧ t.vout.staged = none ∧
      t.vout.bannerText = [] ∧
      t.port =
        { lineRate := straps.lineRate, phase := .hunt, bytes := [], expected := 0, lastByteAt := none
          rejects := [], replies := [], sending := none, restarting := false, notices := []
          lost := false, mask := 0x1FFF#13, lastReset := .powerUp }) ∧
    exec (.powerUp ⟨0, false, false⟩ false) State.reset = .next State.reset

/-! ## What every step keeps -/

/-- The state after reset meets every invariant, and has nothing waiting. -/
def Obligations.InvariantsAtReset : Prop :=
  State.reset.Inv ∧ State.reset.pending = [] ∧ State.reset.reports = []

/-- R134. Every step keeps each station's outbound queue in order of due, within 32 events, with at most one PATCH,
from any state. -/
def Obligations.StepKeepsQueues : Prop :=
  ∀ s t : State, s.QueueInv → step s = .next t → t.QueueInv

/-- R111, R112, R132. Every step keeps this: a link is OFF just where its role is UNUSED, only an UP link holds
events, and while the show is STOPPED the stop record names a cause, the engine is HELD, both slots are empty, no
patch waits for a release, and no CLICK or PATCH due at or after the stop sample is queued. -/
def Obligations.StepKeepsTheStop : Prop :=
  ∀ s t : State, s.StoppedInv → step s = .next t → t.StoppedInv

/-- R47, R48, R52, R54, R59. Every step keeps the show book and the edit buffer in number order and within their
capacities, the show book's maps complete, and those of a buffer that awaits its apply. -/
def Obligations.StepKeepsTheBook : Prop :=
  ∀ s t : State, s.BookInv → step s = .next t → t.BookInv

/-- R65, R84, R119, R170, R172, R173. Every step keeps, each from any state that has it: the bounds of the notices,
the waiting REJECTs and the held places; the queued slot empty while the in-flight slot is; a pending entry's patch
the expected one; and at most one station with role MD. -/
def Obligations.StepKeepsRecords : Prop :=
  ∀ s t : State, step s = .next t →
    (s.PortInv → t.PortInv) ∧ (s.SlotInv → t.SlotInv) ∧ (s.PatchInv → t.PatchInv) ∧
      (s.MdInv → t.MdInv)
end

