-- ==== Sys2Proof/Laws/State.lean ====
section
/-! SUPPORT. One lemma for each field of `State` under each named update, true by `rfl`, and what a
station's, an output's and an input's record reads as after a write to it. -/

namespace Sys2Proof.Machine

/-! ## setCh -/

@[simp] theorem State.setCh_time (s : State) (n : Station) (c : Channel) :
    (s.setCh n c).time = s.time := rfl
@[simp] theorem State.setCh_click (s : State) (n : Station) (c : Channel) :
    (s.setCh n c).click = s.click := rfl
@[simp] theorem State.setCh_cue (s : State) (n : Station) (c : Channel) :
    (s.setCh n c).cue = s.cue := rfl
@[simp] theorem State.setCh_patches (s : State) (n : Station) (c : Channel) :
    (s.setCh n c).patches = s.patches := rfl
@[simp] theorem State.setCh_ctl (s : State) (n : Station) (c : Channel) :
    (s.setCh n c).ctl = s.ctl := rfl
@[simp] theorem State.setCh_chan (s : State) (n : Station) (c : Channel) :
    (s.setCh n c).chan = s.chan.set n.val c n.isLt := rfl
@[simp] theorem State.setCh_vin (s : State) (n : Station) (c : Channel) :
    (s.setCh n c).vin = s.vin := rfl
@[simp] theorem State.setCh_vout (s : State) (n : Station) (c : Channel) :
    (s.setCh n c).vout = s.vout := rfl
@[simp] theorem State.setCh_port (s : State) (n : Station) (c : Channel) :
    (s.setCh n c).port = s.port := rfl
@[simp] theorem State.setCh_reports (s : State) (n : Station) (c : Channel) :
    (s.setCh n c).reports = s.reports := rfl
@[simp] theorem State.setCh_emitted (s : State) (n : Station) (c : Channel) :
    (s.setCh n c).emitted = s.emitted := rfl
@[simp] theorem State.setCh_pending (s : State) (n : Station) (c : Channel) :
    (s.setCh n c).pending = s.pending := rfl

/-! ## mapLink -/

@[simp] theorem State.mapLink_time (s : State) (n : Station) (f : Link → Link) :
    (s.mapLink n f).time = s.time := rfl
@[simp] theorem State.mapLink_click (s : State) (n : Station) (f : Link → Link) :
    (s.mapLink n f).click = s.click := rfl
@[simp] theorem State.mapLink_cue (s : State) (n : Station) (f : Link → Link) :
    (s.mapLink n f).cue = s.cue := rfl
@[simp] theorem State.mapLink_patches (s : State) (n : Station) (f : Link → Link) :
    (s.mapLink n f).patches = s.patches := rfl
@[simp] theorem State.mapLink_ctl (s : State) (n : Station) (f : Link → Link) :
    (s.mapLink n f).ctl = s.ctl := rfl
@[simp] theorem State.mapLink_chan (s : State) (n : Station) (f : Link → Link) :
    (s.mapLink n f).chan = s.chan.set n.val { s.ch n with link := f (s.ch n).link } n.isLt := rfl
@[simp] theorem State.mapLink_vin (s : State) (n : Station) (f : Link → Link) :
    (s.mapLink n f).vin = s.vin := rfl
@[simp] theorem State.mapLink_vout (s : State) (n : Station) (f : Link → Link) :
    (s.mapLink n f).vout = s.vout := rfl
@[simp] theorem State.mapLink_port (s : State) (n : Station) (f : Link → Link) :
    (s.mapLink n f).port = s.port := rfl
@[simp] theorem State.mapLink_reports (s : State) (n : Station) (f : Link → Link) :
    (s.mapLink n f).reports = s.reports := rfl
@[simp] theorem State.mapLink_emitted (s : State) (n : Station) (f : Link → Link) :
    (s.mapLink n f).emitted = s.emitted := rfl
@[simp] theorem State.mapLink_pending (s : State) (n : Station) (f : Link → Link) :
    (s.mapLink n f).pending = s.pending := rfl

/-! ## setPatch -/

@[simp] theorem State.setPatch_time (s : State) (n : Station) (p : PatchRecord) :
    (s.setPatch n p).time = s.time := rfl
@[simp] theorem State.setPatch_click (s : State) (n : Station) (p : PatchRecord) :
    (s.setPatch n p).click = s.click := rfl
@[simp] theorem State.setPatch_cue (s : State) (n : Station) (p : PatchRecord) :
    (s.setPatch n p).cue = s.cue := rfl
@[simp] theorem State.setPatch_patches (s : State) (n : Station) (p : PatchRecord) :
    (s.setPatch n p).patches = s.patches.set n.val p n.isLt := rfl
@[simp] theorem State.setPatch_ctl (s : State) (n : Station) (p : PatchRecord) :
    (s.setPatch n p).ctl = s.ctl := rfl
@[simp] theorem State.setPatch_chan (s : State) (n : Station) (p : PatchRecord) :
    (s.setPatch n p).chan = s.chan := rfl
@[simp] theorem State.setPatch_vin (s : State) (n : Station) (p : PatchRecord) :
    (s.setPatch n p).vin = s.vin := rfl
@[simp] theorem State.setPatch_vout (s : State) (n : Station) (p : PatchRecord) :
    (s.setPatch n p).vout = s.vout := rfl
@[simp] theorem State.setPatch_port (s : State) (n : Station) (p : PatchRecord) :
    (s.setPatch n p).port = s.port := rfl
@[simp] theorem State.setPatch_reports (s : State) (n : Station) (p : PatchRecord) :
    (s.setPatch n p).reports = s.reports := rfl
@[simp] theorem State.setPatch_emitted (s : State) (n : Station) (p : PatchRecord) :
    (s.setPatch n p).emitted = s.emitted := rfl
@[simp] theorem State.setPatch_pending (s : State) (n : Station) (p : PatchRecord) :
    (s.setPatch n p).pending = s.pending := rfl

/-! ## emit -/

@[simp] theorem State.emit_time (s : State) (e : Emission) : (s.emit e).time = s.time := rfl
@[simp] theorem State.emit_click (s : State) (e : Emission) : (s.emit e).click = s.click := rfl
@[simp] theorem State.emit_cue (s : State) (e : Emission) : (s.emit e).cue = s.cue := rfl
@[simp] theorem State.emit_patches (s : State) (e : Emission) :
    (s.emit e).patches = s.patches := rfl
@[simp] theorem State.emit_ctl (s : State) (e : Emission) : (s.emit e).ctl = s.ctl := rfl
@[simp] theorem State.emit_chan (s : State) (e : Emission) : (s.emit e).chan = s.chan := rfl
@[simp] theorem State.emit_vin (s : State) (e : Emission) : (s.emit e).vin = s.vin := rfl
@[simp] theorem State.emit_vout (s : State) (e : Emission) : (s.emit e).vout = s.vout := rfl
@[simp] theorem State.emit_port (s : State) (e : Emission) : (s.emit e).port = s.port := rfl
@[simp] theorem State.emit_reports (s : State) (e : Emission) :
    (s.emit e).reports = s.reports := rfl
@[simp] theorem State.emit_emitted (s : State) (e : Emission) :
    (s.emit e).emitted = s.emitted ++ [e] := rfl
@[simp] theorem State.emit_pending (s : State) (e : Emission) :
    (s.emit e).pending = s.pending := rfl

/-! ## send -/

@[simp] theorem State.send_time (s : State) (n : Station) (f : LinkFrame) :
    (s.send n f).time = s.time := rfl
@[simp] theorem State.send_click (s : State) (n : Station) (f : LinkFrame) :
    (s.send n f).click = s.click := rfl
@[simp] theorem State.send_cue (s : State) (n : Station) (f : LinkFrame) :
    (s.send n f).cue = s.cue := rfl
@[simp] theorem State.send_patches (s : State) (n : Station) (f : LinkFrame) :
    (s.send n f).patches = s.patches := rfl
@[simp] theorem State.send_ctl (s : State) (n : Station) (f : LinkFrame) :
    (s.send n f).ctl = s.ctl := rfl
@[simp] theorem State.send_chan (s : State) (n : Station) (f : LinkFrame) :
    (s.send n f).chan = s.chan := rfl
@[simp] theorem State.send_vin (s : State) (n : Station) (f : LinkFrame) :
    (s.send n f).vin = s.vin := rfl
@[simp] theorem State.send_vout (s : State) (n : Station) (f : LinkFrame) :
    (s.send n f).vout = s.vout := rfl
@[simp] theorem State.send_port (s : State) (n : Station) (f : LinkFrame) :
    (s.send n f).port = s.port := rfl
@[simp] theorem State.send_reports (s : State) (n : Station) (f : LinkFrame) :
    (s.send n f).reports = s.reports := rfl
@[simp] theorem State.send_emitted (s : State) (n : Station) (f : LinkFrame) :
    (s.send n f).emitted = s.emitted ++ [.link n s.time.S f] := rfl
@[simp] theorem State.send_pending (s : State) (n : Station) (f : LinkFrame) :
    (s.send n f).pending = s.pending := rfl

/-! ## report -/

@[simp] theorem State.report_time (s : State) (r : Report) : (s.report r).time = s.time := rfl
@[simp] theorem State.report_click (s : State) (r : Report) : (s.report r).click = s.click := rfl
@[simp] theorem State.report_cue (s : State) (r : Report) : (s.report r).cue = s.cue := rfl
@[simp] theorem State.report_patches (s : State) (r : Report) :
    (s.report r).patches = s.patches := rfl
@[simp] theorem State.report_ctl (s : State) (r : Report) : (s.report r).ctl = s.ctl := rfl
@[simp] theorem State.report_chan (s : State) (r : Report) : (s.report r).chan = s.chan := rfl
@[simp] theorem State.report_vin (s : State) (r : Report) : (s.report r).vin = s.vin := rfl
@[simp] theorem State.report_vout (s : State) (r : Report) : (s.report r).vout = s.vout := rfl
@[simp] theorem State.report_port (s : State) (r : Report) : (s.report r).port = s.port := rfl
@[simp] theorem State.report_reports (s : State) (r : Report) :
    (s.report r).reports = s.reports ++ [r] := rfl
@[simp] theorem State.report_emitted (s : State) (r : Report) :
    (s.report r).emitted = s.emitted := rfl
@[simp] theorem State.report_pending (s : State) (r : Report) :
    (s.report r).pending = s.pending := rfl

/-! ## offer -/

@[simp] theorem State.offer_time (s : State) (n : Notice) : (s.offer n).time = s.time := rfl
@[simp] theorem State.offer_click (s : State) (n : Notice) : (s.offer n).click = s.click := rfl
@[simp] theorem State.offer_cue (s : State) (n : Notice) : (s.offer n).cue = s.cue := rfl
@[simp] theorem State.offer_patches (s : State) (n : Notice) :
    (s.offer n).patches = s.patches := rfl
@[simp] theorem State.offer_ctl (s : State) (n : Notice) : (s.offer n).ctl = s.ctl := rfl
@[simp] theorem State.offer_chan (s : State) (n : Notice) : (s.offer n).chan = s.chan := rfl
@[simp] theorem State.offer_vin (s : State) (n : Notice) : (s.offer n).vin = s.vin := rfl
@[simp] theorem State.offer_vout (s : State) (n : Notice) : (s.offer n).vout = s.vout := rfl
@[simp] theorem State.offer_port (s : State) (n : Notice) : (s.offer n).port = s.port.offer n := rfl
@[simp] theorem State.offer_reports (s : State) (n : Notice) :
    (s.offer n).reports = s.reports := rfl
@[simp] theorem State.offer_emitted (s : State) (n : Notice) :
    (s.offer n).emitted = s.emitted := rfl
@[simp] theorem State.offer_pending (s : State) (n : Notice) :
    (s.offer n).pending = s.pending := rfl

/-! ## mapTime -/

@[simp] theorem State.mapTime_time (s : State) (f : Timebase → Timebase) :
    (s.mapTime f).time = f s.time := rfl
@[simp] theorem State.mapTime_click (s : State) (f : Timebase → Timebase) :
    (s.mapTime f).click = s.click := rfl
@[simp] theorem State.mapTime_cue (s : State) (f : Timebase → Timebase) :
    (s.mapTime f).cue = s.cue := rfl
@[simp] theorem State.mapTime_patches (s : State) (f : Timebase → Timebase) :
    (s.mapTime f).patches = s.patches := rfl
@[simp] theorem State.mapTime_ctl (s : State) (f : Timebase → Timebase) :
    (s.mapTime f).ctl = s.ctl := rfl
@[simp] theorem State.mapTime_chan (s : State) (f : Timebase → Timebase) :
    (s.mapTime f).chan = s.chan := rfl
@[simp] theorem State.mapTime_vin (s : State) (f : Timebase → Timebase) :
    (s.mapTime f).vin = s.vin := rfl
@[simp] theorem State.mapTime_vout (s : State) (f : Timebase → Timebase) :
    (s.mapTime f).vout = s.vout := rfl
@[simp] theorem State.mapTime_port (s : State) (f : Timebase → Timebase) :
    (s.mapTime f).port = s.port := rfl
@[simp] theorem State.mapTime_reports (s : State) (f : Timebase → Timebase) :
    (s.mapTime f).reports = s.reports := rfl
@[simp] theorem State.mapTime_emitted (s : State) (f : Timebase → Timebase) :
    (s.mapTime f).emitted = s.emitted := rfl
@[simp] theorem State.mapTime_pending (s : State) (f : Timebase → Timebase) :
    (s.mapTime f).pending = s.pending := rfl

/-! ## mapClick -/

@[simp] theorem State.mapClick_time (s : State) (f : ClickEngine → ClickEngine) :
    (s.mapClick f).time = s.time := rfl
@[simp] theorem State.mapClick_click (s : State) (f : ClickEngine → ClickEngine) :
    (s.mapClick f).click = f s.click := rfl
@[simp] theorem State.mapClick_cue (s : State) (f : ClickEngine → ClickEngine) :
    (s.mapClick f).cue = s.cue := rfl
@[simp] theorem State.mapClick_patches (s : State) (f : ClickEngine → ClickEngine) :
    (s.mapClick f).patches = s.patches := rfl
@[simp] theorem State.mapClick_ctl (s : State) (f : ClickEngine → ClickEngine) :
    (s.mapClick f).ctl = s.ctl := rfl
@[simp] theorem State.mapClick_chan (s : State) (f : ClickEngine → ClickEngine) :
    (s.mapClick f).chan = s.chan := rfl
@[simp] theorem State.mapClick_vin (s : State) (f : ClickEngine → ClickEngine) :
    (s.mapClick f).vin = s.vin := rfl
@[simp] theorem State.mapClick_vout (s : State) (f : ClickEngine → ClickEngine) :
    (s.mapClick f).vout = s.vout := rfl
@[simp] theorem State.mapClick_port (s : State) (f : ClickEngine → ClickEngine) :
    (s.mapClick f).port = s.port := rfl
@[simp] theorem State.mapClick_reports (s : State) (f : ClickEngine → ClickEngine) :
    (s.mapClick f).reports = s.reports := rfl
@[simp] theorem State.mapClick_emitted (s : State) (f : ClickEngine → ClickEngine) :
    (s.mapClick f).emitted = s.emitted := rfl
@[simp] theorem State.mapClick_pending (s : State) (f : ClickEngine → ClickEngine) :
    (s.mapClick f).pending = s.pending := rfl

/-! ## mapCue -/

@[simp] theorem State.mapCue_time (s : State) (f : CueEngine → CueEngine) :
    (s.mapCue f).time = s.time := rfl
@[simp] theorem State.mapCue_click (s : State) (f : CueEngine → CueEngine) :
    (s.mapCue f).click = s.click := rfl
@[simp] theorem State.mapCue_cue (s : State) (f : CueEngine → CueEngine) :
    (s.mapCue f).cue = f s.cue := rfl
@[simp] theorem State.mapCue_patches (s : State) (f : CueEngine → CueEngine) :
    (s.mapCue f).patches = s.patches := rfl
@[simp] theorem State.mapCue_ctl (s : State) (f : CueEngine → CueEngine) :
    (s.mapCue f).ctl = s.ctl := rfl
@[simp] theorem State.mapCue_chan (s : State) (f : CueEngine → CueEngine) :
    (s.mapCue f).chan = s.chan := rfl
@[simp] theorem State.mapCue_vin (s : State) (f : CueEngine → CueEngine) :
    (s.mapCue f).vin = s.vin := rfl
@[simp] theorem State.mapCue_vout (s : State) (f : CueEngine → CueEngine) :
    (s.mapCue f).vout = s.vout := rfl
@[simp] theorem State.mapCue_port (s : State) (f : CueEngine → CueEngine) :
    (s.mapCue f).port = s.port := rfl
@[simp] theorem State.mapCue_reports (s : State) (f : CueEngine → CueEngine) :
    (s.mapCue f).reports = s.reports := rfl
@[simp] theorem State.mapCue_emitted (s : State) (f : CueEngine → CueEngine) :
    (s.mapCue f).emitted = s.emitted := rfl
@[simp] theorem State.mapCue_pending (s : State) (f : CueEngine → CueEngine) :
    (s.mapCue f).pending = s.pending := rfl

/-! ## mapCtl -/

@[simp] theorem State.mapCtl_time (s : State) (f : ShowControl → ShowControl) :
    (s.mapCtl f).time = s.time := rfl
@[simp] theorem State.mapCtl_click (s : State) (f : ShowControl → ShowControl) :
    (s.mapCtl f).click = s.click := rfl
@[simp] theorem State.mapCtl_cue (s : State) (f : ShowControl → ShowControl) :
    (s.mapCtl f).cue = s.cue := rfl
@[simp] theorem State.mapCtl_patches (s : State) (f : ShowControl → ShowControl) :
    (s.mapCtl f).patches = s.patches := rfl
@[simp] theorem State.mapCtl_ctl (s : State) (f : ShowControl → ShowControl) :
    (s.mapCtl f).ctl = f s.ctl := rfl
@[simp] theorem State.mapCtl_chan (s : State) (f : ShowControl → ShowControl) :
    (s.mapCtl f).chan = s.chan := rfl
@[simp] theorem State.mapCtl_vin (s : State) (f : ShowControl → ShowControl) :
    (s.mapCtl f).vin = s.vin := rfl
@[simp] theorem State.mapCtl_vout (s : State) (f : ShowControl → ShowControl) :
    (s.mapCtl f).vout = s.vout := rfl
@[simp] theorem State.mapCtl_port (s : State) (f : ShowControl → ShowControl) :
    (s.mapCtl f).port = s.port := rfl
@[simp] theorem State.mapCtl_reports (s : State) (f : ShowControl → ShowControl) :
    (s.mapCtl f).reports = s.reports := rfl
@[simp] theorem State.mapCtl_emitted (s : State) (f : ShowControl → ShowControl) :
    (s.mapCtl f).emitted = s.emitted := rfl
@[simp] theorem State.mapCtl_pending (s : State) (f : ShowControl → ShowControl) :
    (s.mapCtl f).pending = s.pending := rfl

/-! ## atS -/

@[simp] theorem State.atS_time (s : State) (v : Sample) :
    (s.atS v).time = { s.time with S := v } := rfl
@[simp] theorem State.atS_click (s : State) (v : Sample) : (s.atS v).click = s.click := rfl
@[simp] theorem State.atS_cue (s : State) (v : Sample) : (s.atS v).cue = s.cue := rfl
@[simp] theorem State.atS_patches (s : State) (v : Sample) : (s.atS v).patches = s.patches := rfl
@[simp] theorem State.atS_ctl (s : State) (v : Sample) : (s.atS v).ctl = s.ctl := rfl
@[simp] theorem State.atS_chan (s : State) (v : Sample) : (s.atS v).chan = s.chan := rfl
@[simp] theorem State.atS_vin (s : State) (v : Sample) : (s.atS v).vin = s.vin := rfl
@[simp] theorem State.atS_vout (s : State) (v : Sample) : (s.atS v).vout = s.vout := rfl
@[simp] theorem State.atS_port (s : State) (v : Sample) : (s.atS v).port = s.port := rfl
@[simp] theorem State.atS_reports (s : State) (v : Sample) : (s.atS v).reports = s.reports := rfl
@[simp] theorem State.atS_emitted (s : State) (v : Sample) : (s.atS v).emitted = s.emitted := rfl
@[simp] theorem State.atS_pending (s : State) (v : Sample) : (s.atS v).pending = s.pending := rfl

/-! ## setSelection -/

@[simp] theorem State.setSelection_time (s : State) (x : Selection) :
    (s.setSelection x).time = s.time := rfl
@[simp] theorem State.setSelection_click (s : State) (x : Selection) :
    (s.setSelection x).click = s.click := rfl
@[simp] theorem State.setSelection_cue (s : State) (x : Selection) :
    (s.setSelection x).cue = s.cue := rfl
@[simp] theorem State.setSelection_patches (s : State) (x : Selection) :
    (s.setSelection x).patches = s.patches := rfl
@[simp] theorem State.setSelection_ctl (s : State) (x : Selection) :
    (s.setSelection x).ctl = s.ctl := rfl
@[simp] theorem State.setSelection_chan (s : State) (x : Selection) :
    (s.setSelection x).chan = s.chan := rfl
@[simp] theorem State.setSelection_vin (s : State) (x : Selection) :
    (s.setSelection x).vin = { s.vin with selection := x } := rfl
@[simp] theorem State.setSelection_vout (s : State) (x : Selection) :
    (s.setSelection x).vout = s.vout := rfl
@[simp] theorem State.setSelection_port (s : State) (x : Selection) :
    (s.setSelection x).port = s.port := rfl
@[simp] theorem State.setSelection_reports (s : State) (x : Selection) :
    (s.setSelection x).reports = s.reports := rfl
@[simp] theorem State.setSelection_emitted (s : State) (x : Selection) :
    (s.setSelection x).emitted = s.emitted := rfl
@[simp] theorem State.setSelection_pending (s : State) (x : Selection) :
    (s.setSelection x).pending = s.pending := rfl

/-! ## setReturnTime -/

@[simp] theorem State.setReturnTime_time (s : State) (v : Option Sample) :
    (s.setReturnTime v).time = s.time := rfl
@[simp] theorem State.setReturnTime_click (s : State) (v : Option Sample) :
    (s.setReturnTime v).click = s.click := rfl
@[simp] theorem State.setReturnTime_cue (s : State) (v : Option Sample) :
    (s.setReturnTime v).cue = s.cue := rfl
@[simp] theorem State.setReturnTime_patches (s : State) (v : Option Sample) :
    (s.setReturnTime v).patches = s.patches := rfl
@[simp] theorem State.setReturnTime_ctl (s : State) (v : Option Sample) :
    (s.setReturnTime v).ctl = s.ctl := rfl
@[simp] theorem State.setReturnTime_chan (s : State) (v : Option Sample) :
    (s.setReturnTime v).chan = s.chan := rfl
@[simp] theorem State.setReturnTime_vout (s : State) (v : Option Sample) :
    (s.setReturnTime v).vout = s.vout := rfl
@[simp] theorem State.setReturnTime_port (s : State) (v : Option Sample) :
    (s.setReturnTime v).port = s.port := rfl
@[simp] theorem State.setReturnTime_reports (s : State) (v : Option Sample) :
    (s.setReturnTime v).reports = s.reports := rfl
@[simp] theorem State.setReturnTime_emitted (s : State) (v : Option Sample) :
    (s.setReturnTime v).emitted = s.emitted := rfl
@[simp] theorem State.setReturnTime_pending (s : State) (v : Option Sample) :
    (s.setReturnTime v).pending = s.pending := rfl
@[simp] theorem State.setReturnTime_vin (s : State) (v : Option Sample) :
    (s.setReturnTime v).vin =
      { s.vin with
        selection := { s.vin.selection with returnTime := v }, returnReached := none
        returnSpent := false } := rfl

/-! ## spendReturn -/

@[simp] theorem State.spendReturn_time (s : State) : s.spendReturn.time = s.time := rfl
@[simp] theorem State.spendReturn_click (s : State) : s.spendReturn.click = s.click := rfl
@[simp] theorem State.spendReturn_cue (s : State) : s.spendReturn.cue = s.cue := rfl
@[simp] theorem State.spendReturn_patches (s : State) : s.spendReturn.patches = s.patches := rfl
@[simp] theorem State.spendReturn_ctl (s : State) : s.spendReturn.ctl = s.ctl := rfl
@[simp] theorem State.spendReturn_chan (s : State) : s.spendReturn.chan = s.chan := rfl
@[simp] theorem State.spendReturn_vout (s : State) : s.spendReturn.vout = s.vout := rfl
@[simp] theorem State.spendReturn_port (s : State) : s.spendReturn.port = s.port := rfl
@[simp] theorem State.spendReturn_reports (s : State) : s.spendReturn.reports = s.reports := rfl
@[simp] theorem State.spendReturn_emitted (s : State) : s.spendReturn.emitted = s.emitted := rfl
@[simp] theorem State.spendReturn_pending (s : State) : s.spendReturn.pending = s.pending := rfl
@[simp] theorem State.spendReturn_vin (s : State) :
    s.spendReturn.vin =
      { s.vin with returnSpent := s.vin.returnSpent || reached s.vin.selection.returnTime s.time.S } := rfl

/-! ## setOutput -/

@[simp] theorem State.setOutput_time (s : State) (o : OutputNo) (r : OutputRecord) :
    (s.setOutput o r).time = s.time := rfl
@[simp] theorem State.setOutput_click (s : State) (o : OutputNo) (r : OutputRecord) :
    (s.setOutput o r).click = s.click := rfl
@[simp] theorem State.setOutput_cue (s : State) (o : OutputNo) (r : OutputRecord) :
    (s.setOutput o r).cue = s.cue := rfl
@[simp] theorem State.setOutput_patches (s : State) (o : OutputNo) (r : OutputRecord) :
    (s.setOutput o r).patches = s.patches := rfl
@[simp] theorem State.setOutput_ctl (s : State) (o : OutputNo) (r : OutputRecord) :
    (s.setOutput o r).ctl = s.ctl := rfl
@[simp] theorem State.setOutput_chan (s : State) (o : OutputNo) (r : OutputRecord) :
    (s.setOutput o r).chan = s.chan := rfl
@[simp] theorem State.setOutput_vin (s : State) (o : OutputNo) (r : OutputRecord) :
    (s.setOutput o r).vin = s.vin := rfl
@[simp] theorem State.setOutput_vout (s : State) (o : OutputNo) (r : OutputRecord) :
    (s.setOutput o r).vout = { s.vout with outputs := s.vout.outputs.set o.val r o.isLt } := rfl
@[simp] theorem State.setOutput_port (s : State) (o : OutputNo) (r : OutputRecord) :
    (s.setOutput o r).port = s.port := rfl
@[simp] theorem State.setOutput_reports (s : State) (o : OutputNo) (r : OutputRecord) :
    (s.setOutput o r).reports = s.reports := rfl
@[simp] theorem State.setOutput_emitted (s : State) (o : OutputNo) (r : OutputRecord) :
    (s.setOutput o r).emitted = s.emitted := rfl
@[simp] theorem State.setOutput_pending (s : State) (o : OutputNo) (r : OutputRecord) :
    (s.setOutput o r).pending = s.pending := rfl

/-! ## mapVout -/

@[simp] theorem State.mapVout_time (s : State) (f : VideoOut → VideoOut) :
    (s.mapVout f).time = s.time := rfl
@[simp] theorem State.mapVout_click (s : State) (f : VideoOut → VideoOut) :
    (s.mapVout f).click = s.click := rfl
@[simp] theorem State.mapVout_cue (s : State) (f : VideoOut → VideoOut) :
    (s.mapVout f).cue = s.cue := rfl
@[simp] theorem State.mapVout_patches (s : State) (f : VideoOut → VideoOut) :
    (s.mapVout f).patches = s.patches := rfl
@[simp] theorem State.mapVout_ctl (s : State) (f : VideoOut → VideoOut) :
    (s.mapVout f).ctl = s.ctl := rfl
@[simp] theorem State.mapVout_chan (s : State) (f : VideoOut → VideoOut) :
    (s.mapVout f).chan = s.chan := rfl
@[simp] theorem State.mapVout_vin (s : State) (f : VideoOut → VideoOut) :
    (s.mapVout f).vin = s.vin := rfl
@[simp] theorem State.mapVout_vout (s : State) (f : VideoOut → VideoOut) :
    (s.mapVout f).vout = f s.vout := rfl
@[simp] theorem State.mapVout_port (s : State) (f : VideoOut → VideoOut) :
    (s.mapVout f).port = s.port := rfl
@[simp] theorem State.mapVout_reports (s : State) (f : VideoOut → VideoOut) :
    (s.mapVout f).reports = s.reports := rfl
@[simp] theorem State.mapVout_emitted (s : State) (f : VideoOut → VideoOut) :
    (s.mapVout f).emitted = s.emitted := rfl
@[simp] theorem State.mapVout_pending (s : State) (f : VideoOut → VideoOut) :
    (s.mapVout f).pending = s.pending := rfl

/-! ## setBuffer -/

@[simp] theorem State.setBuffer_time (s : State) (b : Book) : (s.setBuffer b).time = s.time := rfl
@[simp] theorem State.setBuffer_click (s : State) (b : Book) :
    (s.setBuffer b).click = s.click := rfl
@[simp] theorem State.setBuffer_cue (s : State) (b : Book) :
    (s.setBuffer b).cue = { s.cue with buffer := b } := rfl
@[simp] theorem State.setBuffer_patches (s : State) (b : Book) :
    (s.setBuffer b).patches = s.patches := rfl
@[simp] theorem State.setBuffer_ctl (s : State) (b : Book) : (s.setBuffer b).ctl = s.ctl := rfl
@[simp] theorem State.setBuffer_chan (s : State) (b : Book) : (s.setBuffer b).chan = s.chan := rfl
@[simp] theorem State.setBuffer_vin (s : State) (b : Book) : (s.setBuffer b).vin = s.vin := rfl
@[simp] theorem State.setBuffer_vout (s : State) (b : Book) : (s.setBuffer b).vout = s.vout := rfl
@[simp] theorem State.setBuffer_port (s : State) (b : Book) : (s.setBuffer b).port = s.port := rfl
@[simp] theorem State.setBuffer_reports (s : State) (b : Book) :
    (s.setBuffer b).reports = s.reports := rfl
@[simp] theorem State.setBuffer_emitted (s : State) (b : Book) :
    (s.setBuffer b).emitted = s.emitted := rfl
@[simp] theorem State.setBuffer_pending (s : State) (b : Book) :
    (s.setBuffer b).pending = s.pending := rfl

/-! ## setInput, answer -/

@[simp] theorem State.setInput_time (s : State) (i : Input) (r : InputRecord) :
    (s.setInput i r).time = s.time := by cases i <;> rfl
@[simp] theorem State.setInput_click (s : State) (i : Input) (r : InputRecord) :
    (s.setInput i r).click = s.click := by cases i <;> rfl
@[simp] theorem State.setInput_cue (s : State) (i : Input) (r : InputRecord) :
    (s.setInput i r).cue = s.cue := by cases i <;> rfl
@[simp] theorem State.setInput_patches (s : State) (i : Input) (r : InputRecord) :
    (s.setInput i r).patches = s.patches := by cases i <;> rfl
@[simp] theorem State.setInput_ctl (s : State) (i : Input) (r : InputRecord) :
    (s.setInput i r).ctl = s.ctl := by cases i <;> rfl
@[simp] theorem State.setInput_chan (s : State) (i : Input) (r : InputRecord) :
    (s.setInput i r).chan = s.chan := by cases i <;> rfl
@[simp] theorem State.setInput_vout (s : State) (i : Input) (r : InputRecord) :
    (s.setInput i r).vout = s.vout := by cases i <;> rfl
@[simp] theorem State.setInput_port (s : State) (i : Input) (r : InputRecord) :
    (s.setInput i r).port = s.port := by cases i <;> rfl
@[simp] theorem State.setInput_reports (s : State) (i : Input) (r : InputRecord) :
    (s.setInput i r).reports = s.reports := by cases i <;> rfl
@[simp] theorem State.setInput_emitted (s : State) (i : Input) (r : InputRecord) :
    (s.setInput i r).emitted = s.emitted := by cases i <;> rfl
@[simp] theorem State.setInput_pending (s : State) (i : Input) (r : InputRecord) :
    (s.setInput i r).pending = s.pending := by cases i <;> rfl
@[simp] theorem State.answer_time (s : State) (k tag : Nat) (a : Answer) (p : Bool) :
    (s.answer k tag a p).time = s.time := by cases a <;> rfl
@[simp] theorem State.answer_click (s : State) (k tag : Nat) (a : Answer) (p : Bool) :
    (s.answer k tag a p).click = s.click := by cases a <;> rfl
@[simp] theorem State.answer_cue (s : State) (k tag : Nat) (a : Answer) (p : Bool) :
    (s.answer k tag a p).cue = s.cue := by cases a <;> rfl
@[simp] theorem State.answer_patches (s : State) (k tag : Nat) (a : Answer) (p : Bool) :
    (s.answer k tag a p).patches = s.patches := by cases a <;> rfl
@[simp] theorem State.answer_ctl (s : State) (k tag : Nat) (a : Answer) (p : Bool) :
    (s.answer k tag a p).ctl = s.ctl := by cases a <;> rfl
@[simp] theorem State.answer_chan (s : State) (k tag : Nat) (a : Answer) (p : Bool) :
    (s.answer k tag a p).chan = s.chan := by cases a <;> rfl
@[simp] theorem State.answer_vin (s : State) (k tag : Nat) (a : Answer) (p : Bool) :
    (s.answer k tag a p).vin = s.vin := by cases a <;> rfl
@[simp] theorem State.answer_vout (s : State) (k tag : Nat) (a : Answer) (p : Bool) :
    (s.answer k tag a p).vout = s.vout := by cases a <;> rfl
@[simp] theorem State.answer_reports (s : State) (k tag : Nat) (a : Answer) (p : Bool) :
    (s.answer k tag a p).reports = s.reports := by cases a <;> rfl
@[simp] theorem State.answer_emitted (s : State) (k tag : Nat) (a : Answer) (p : Bool) :
    (s.answer k tag a p).emitted = s.emitted := by cases a <;> rfl
@[simp] theorem State.answer_pending (s : State) (k tag : Nat) (a : Answer) (p : Bool) :
    (s.answer k tag a p).pending = s.pending := by cases a <;> rfl

/-! ## Records read after a write -/

/-- A member of a vector after a write of one. -/
theorem vector_get_set {α : Type} {k : Nat} (v : Vector α k) (n m : Fin k) (x : α) :
    (v.set n.val x n.isLt).get m = if m = n then x else v.get m := by
  show (v.set n.val x n.isLt)[m.val] = if m = n then x else v[m.val]
  rw [Vector.getElem_set]
  by_cases h : m = n
  · simp [h]
  · rw [if_neg h, if_neg fun e => h (Fin.ext e.symm)]

/-- A station's channel after a write of any station's. -/
theorem State.ch_setCh (s : State) (n m : Station) (c : Channel) :
    (s.setCh n c).ch m = if m = n then c else s.ch m := vector_get_set s.chan n m c

/-- A station's channel after a write of it. -/
@[simp] theorem State.ch_setCh_self (s : State) (n : Station) (c : Channel) : (s.setCh n c).ch n = c := by
  simp [State.ch_setCh]

/-- A station's channel after a change of any station's link record. -/
theorem State.ch_mapLink (s : State) (n m : Station) (f : Link → Link) :
    (s.mapLink n f).ch m = if m = n then { s.ch n with link := f (s.ch n).link } else s.ch m :=
  s.ch_setCh n m _

/-- A station's channel after a change of its own link record. -/
@[simp] theorem State.ch_mapLink_self (s : State) (n : Station) (f : Link → Link) :
    (s.mapLink n f).ch n = { s.ch n with link := f (s.ch n).link } := s.ch_setCh_self n _

/-- A station's patch record after a write of any station's. -/
theorem State.patchOf_setPatch (s : State) (n m : Station) (p : PatchRecord) :
    (s.setPatch n p).patchOf m = if m = n then p else s.patchOf m := vector_get_set s.patches n m p

/-- A station's patch record after a write of it. -/
@[simp] theorem State.patchOf_setPatch_self (s : State) (n : Station) (p : PatchRecord) :
    (s.setPatch n p).patchOf n = p := by
  simp [State.patchOf_setPatch]

/-- A channel or a record set twice holds the later value; one set to what it holds is unchanged. -/
@[simp] theorem State.setCh_setCh (s : State) (n : Station) (c d : Channel) :
    (s.setCh n c).setCh n d = s.setCh n d := by simp [State.setCh]

@[simp] theorem State.setPatch_setPatch (s : State) (n : Station) (p q : PatchRecord) :
    (s.setPatch n p).setPatch n q = s.setPatch n q := by simp [State.setPatch]

@[simp] theorem State.setCh_ch (s : State) (n : Station) : s.setCh n (s.ch n) = s := by
  have h : s.chan.set n.val (s.ch n) n.isLt = s.chan := by simp [State.ch, Vector.get]
  simp [State.setCh, h]

@[simp] theorem State.setPatch_patchOf (s : State) (n : Station) : s.setPatch n (s.patchOf n) = s := by
  have h : s.patches.set n.val (s.patchOf n) n.isLt = s.patches := by simp [State.patchOf, Vector.get]
  simp [State.setPatch, h]

/-- The patch record of one station and the channel of another are set in either order. -/
theorem State.setPatch_setCh (s : State) (n m : Station) (p : PatchRecord) (c : Channel) :
    (s.setPatch n p).setCh m c = (s.setCh m c).setPatch n p := rfl

/-- An output's record after a write of any output's. -/
theorem State.output_setOutput (s : State) (o k : OutputNo) (r : OutputRecord) :
    (s.setOutput o r).output k = if k = o then r else s.output k := vector_get_set s.vout.outputs o k r

/-- An output's record after a write of it. -/
@[simp] theorem State.output_setOutput_self (s : State) (o : OutputNo) (r : OutputRecord) :
    (s.setOutput o r).output o = r := by
  simp [State.output_setOutput]

/-- An input's record after a write of any input's. -/
theorem State.input_setInput (s : State) (i k : Input) (r : InputRecord) :
    (s.setInput i r).input k = if k = i then r else s.input k := by
  cases i <;> cases k <;> rfl

/-- The channels are read from `chan` alone. -/
theorem State.ch_congr {s t : State} (h : t.chan = s.chan) (n : Station) : t.ch n = s.ch n := by
  simp [State.ch, h]

/-- The patch records are read from `patches` alone. -/
theorem State.patchOf_congr {s t : State} (h : t.patches = s.patches) (n : Station) :
    t.patchOf n = s.patchOf n := by
  simp [State.patchOf, h]

/-! ## Station records through the other updates -/

@[simp] theorem State.patchOf_setCh (s : State) (n : Station) (c : Channel) (m : Station) :
    (s.setCh n c).patchOf m = s.patchOf m := rfl
@[simp] theorem State.patchOf_mapLink (s : State) (n : Station) (f : Link → Link) (m : Station) :
    (s.mapLink n f).patchOf m = s.patchOf m := rfl
@[simp] theorem State.ch_setPatch (s : State) (n : Station) (p : PatchRecord) (m : Station) :
    (s.setPatch n p).ch m = s.ch m := rfl
@[simp] theorem State.ch_emit (s : State) (e : Emission) (m : Station) :
    (s.emit e).ch m = s.ch m := rfl
@[simp] theorem State.patchOf_emit (s : State) (e : Emission) (m : Station) :
    (s.emit e).patchOf m = s.patchOf m := rfl
@[simp] theorem State.ch_send (s : State) (n : Station) (f : LinkFrame) (m : Station) :
    (s.send n f).ch m = s.ch m := rfl
@[simp] theorem State.patchOf_send (s : State) (n : Station) (f : LinkFrame) (m : Station) :
    (s.send n f).patchOf m = s.patchOf m := rfl
@[simp] theorem State.ch_report (s : State) (r : Report) (m : Station) :
    (s.report r).ch m = s.ch m := rfl
@[simp] theorem State.patchOf_report (s : State) (r : Report) (m : Station) :
    (s.report r).patchOf m = s.patchOf m := rfl
@[simp] theorem State.ch_offer (s : State) (n : Notice) (m : Station) :
    (s.offer n).ch m = s.ch m := rfl
@[simp] theorem State.patchOf_offer (s : State) (n : Notice) (m : Station) :
    (s.offer n).patchOf m = s.patchOf m := rfl
@[simp] theorem State.ch_mapTime (s : State) (f : Timebase → Timebase) (m : Station) :
    (s.mapTime f).ch m = s.ch m := rfl
@[simp] theorem State.patchOf_mapTime (s : State) (f : Timebase → Timebase) (m : Station) :
    (s.mapTime f).patchOf m = s.patchOf m := rfl
@[simp] theorem State.ch_mapClick (s : State) (f : ClickEngine → ClickEngine) (m : Station) :
    (s.mapClick f).ch m = s.ch m := rfl
@[simp] theorem State.patchOf_mapClick (s : State) (f : ClickEngine → ClickEngine) (m : Station) :
    (s.mapClick f).patchOf m = s.patchOf m := rfl
@[simp] theorem State.ch_mapCue (s : State) (f : CueEngine → CueEngine) (m : Station) :
    (s.mapCue f).ch m = s.ch m := rfl
@[simp] theorem State.patchOf_mapCue (s : State) (f : CueEngine → CueEngine) (m : Station) :
    (s.mapCue f).patchOf m = s.patchOf m := rfl
@[simp] theorem State.ch_mapCtl (s : State) (f : ShowControl → ShowControl) (m : Station) :
    (s.mapCtl f).ch m = s.ch m := rfl
@[simp] theorem State.patchOf_mapCtl (s : State) (f : ShowControl → ShowControl) (m : Station) :
    (s.mapCtl f).patchOf m = s.patchOf m := rfl
@[simp] theorem State.ch_atS (s : State) (v : Sample) (m : Station) :
    (s.atS v).ch m = s.ch m := rfl
@[simp] theorem State.patchOf_atS (s : State) (v : Sample) (m : Station) :
    (s.atS v).patchOf m = s.patchOf m := rfl
@[simp] theorem State.ch_setSelection (s : State) (x : Selection) (m : Station) :
    (s.setSelection x).ch m = s.ch m := rfl
@[simp] theorem State.patchOf_setSelection (s : State) (x : Selection) (m : Station) :
    (s.setSelection x).patchOf m = s.patchOf m := rfl
@[simp] theorem State.ch_setOutput (s : State) (o : OutputNo) (r : OutputRecord) (m : Station) :
    (s.setOutput o r).ch m = s.ch m := rfl
@[simp] theorem State.patchOf_setOutput (s : State) (o : OutputNo) (r : OutputRecord) (m : Station) :
    (s.setOutput o r).patchOf m = s.patchOf m := rfl
@[simp] theorem State.ch_mapVout (s : State) (f : VideoOut → VideoOut) (m : Station) :
    (s.mapVout f).ch m = s.ch m := rfl
@[simp] theorem State.patchOf_mapVout (s : State) (f : VideoOut → VideoOut) (m : Station) :
    (s.mapVout f).patchOf m = s.patchOf m := rfl
@[simp] theorem State.ch_setBuffer (s : State) (b : Book) (m : Station) :
    (s.setBuffer b).ch m = s.ch m := rfl
@[simp] theorem State.patchOf_setBuffer (s : State) (b : Book) (m : Station) :
    (s.setBuffer b).patchOf m = s.patchOf m := rfl

end Sys2Proof.Machine
end

