-- ==== Sys2Proof/Laws/Ops.lean ====
section
/-! SUPPORT. What the shared operations of Ops.lean and Request.lean can do, each said once: the frame of
a command, samples reached, notices, the transmitter, and the path of a request. -/

namespace Sys2Proof.Machine

/-! ## Commands -/

/-- A command answers a next state: its act from the quiet state, then the transmitter. -/
theorem command_eq (act : State → State) (s : State) : command act s = .next (act s.quiet).done := rfl

@[simp] theorem State.quiet_emitted (s : State) : s.quiet.emitted = [] := rfl
@[simp] theorem State.quiet_time (s : State) : s.quiet.time = s.time := rfl
@[simp] theorem State.quiet_click (s : State) : s.quiet.click = s.click := rfl
@[simp] theorem State.quiet_cue (s : State) : s.quiet.cue = s.cue := rfl
@[simp] theorem State.quiet_patches (s : State) : s.quiet.patches = s.patches := rfl
@[simp] theorem State.quiet_ctl (s : State) : s.quiet.ctl = s.ctl := rfl
@[simp] theorem State.quiet_chan (s : State) : s.quiet.chan = s.chan := rfl
@[simp] theorem State.quiet_vin (s : State) : s.quiet.vin = s.vin := rfl
@[simp] theorem State.quiet_vout (s : State) : s.quiet.vout = s.vout := rfl
@[simp] theorem State.quiet_port (s : State) : s.quiet.port = s.port := rfl
@[simp] theorem State.quiet_reports (s : State) : s.quiet.reports = s.reports := rfl
@[simp] theorem State.quiet_pending (s : State) : s.quiet.pending = s.pending := rfl
@[simp] theorem State.ch_quiet (s : State) (n : Station) : s.quiet.ch n = s.ch n := rfl
@[simp] theorem State.patchOf_quiet (s : State) (n : Station) : s.quiet.patchOf n = s.patchOf n := rfl

@[simp] theorem State.done_emitted (s : State) : s.done.emitted = s.emitted := rfl
@[simp] theorem State.done_time (s : State) : s.done.time = s.time := rfl
@[simp] theorem State.done_click (s : State) : s.done.click = s.click := rfl
@[simp] theorem State.done_cue (s : State) : s.done.cue = s.cue := rfl
@[simp] theorem State.done_patches (s : State) : s.done.patches = s.patches := rfl
@[simp] theorem State.done_ctl (s : State) : s.done.ctl = s.ctl := rfl
@[simp] theorem State.done_chan (s : State) : s.done.chan = s.chan := rfl
@[simp] theorem State.done_vin (s : State) : s.done.vin = s.vin := rfl
@[simp] theorem State.done_vout (s : State) : s.done.vout = s.vout := rfl
@[simp] theorem State.done_port (s : State) : s.done.port = s.port.arbitrate := rfl
@[simp] theorem State.done_reports (s : State) : s.done.reports = s.reports := rfl
@[simp] theorem State.done_pending (s : State) : s.done.pending = s.pending := rfl
@[simp] theorem State.ch_done (s : State) (n : Station) : s.done.ch n = s.ch n := rfl
@[simp] theorem State.patchOf_done (s : State) (n : Station) : s.done.patchOf n = s.patchOf n := rfl

/-! ## Samples reached (R2) -/

/-- After an advance of at most one, an act that waited for a reached sample is taken at the present S. -/
theorem State.takenAt_eq_S (s : State) (v : Sample) (h : s.time.advance ≤ 1) : s.takenAt v = s.time.S := by
  unfold State.takenAt
  simp only [Sample] at *
  split <;> omega

/-- A value that S has gone past by more than its last advance is taken at the present S. -/
theorem State.takenAt_le_S (s : State) (v : Sample) : s.takenAt v ≤ s.time.S := by
  unfold State.takenAt
  simp only [Sample] at *
  split <;> omega

/-- The present S set again changes nothing. -/
@[simp] theorem State.atS_self (s : State) : s.atS s.time.S = s := rfl

/-- A later setting of S stands. -/
@[simp] theorem State.atS_atS (s : State) (x y : Sample) : (s.atS x).atS y = s.atS y := rfl

/-- R2: an act taken at the present S. -/
theorem State.reach_eq (s : State) (v : Sample) (act : State → State) (h : s.takenAt v = s.time.S) :
    s.reach v act = (act s).atS s.time.S := by
  simp [State.reach, h]

/-- A step whose sample has not been reached changes nothing. -/
theorem State.whenReached_not_due (s : State) (v : Option Sample) (act : State → State)
    (h : ∀ x, v = some x → s.time.S < x) : s.whenReached v act = s := by
  cases v with
  | none => rfl
  | some x =>
    have hx := h x rfl
    simp only [State.whenReached]
    rw [if_neg (Nat.not_le.mpr hx)]

/-- A step whose sample has been reached takes its act. -/
theorem State.whenReached_due (s : State) (x : Sample) (act : State → State) (h : x ≤ s.time.S) :
    s.whenReached (some x) act = s.reach x act := by
  simp [State.whenReached, h]

/-- What a waiting step can do: nothing, or its act at a sample up to the present S. -/
theorem State.whenReached_cases (s : State) (v : Option Sample) (act : State → State) :
    s.whenReached v act = s ∨
      ∃ x, v = some x ∧ x ≤ s.time.S ∧
        s.whenReached v act = (act (s.atS (s.takenAt x))).atS s.time.S := by
  cases v with
  | none => exact .inl rfl
  | some x =>
    by_cases h : x ≤ s.time.S
    · exact .inr ⟨x, rfl, h, by simp [State.whenReached, h, State.reach]⟩
    · exact .inl (by simp [State.whenReached, h])

/-! ## Notices (R173) -/

/-- R173: an offered notice is lost, placed at the end, or dropped with the lost flag set. -/
theorem ControlPort.offer_cases (p : ControlPort) (n : Notice) :
    (p.mask.getLsbD n.kind = false ∧ p.offer n = p) ∨
      (p.mask.getLsbD n.kind = true ∧ p.notices.length < 32 ∧
        p.offer n = { p with notices := p.notices ++ [n] }) ∨
      (p.mask.getLsbD n.kind = true ∧ 32 ≤ p.notices.length ∧ p.offer n = { p with lost := true }) := by
  unfold ControlPort.offer
  simp only [Config.noticeQueue]
  by_cases h : p.mask.getLsbD n.kind = false
  · simp [h]
  · by_cases k : p.notices.length < 32
    · simp [h, k]
    · simp [h, k]; omega

@[simp] theorem ControlPort.offer_rejects (p : ControlPort) (n : Notice) :
    (p.offer n).rejects = p.rejects := by
  rcases p.offer_cases n with ⟨-, h⟩ | ⟨-, -, h⟩ | ⟨-, -, h⟩ <;> simp [h]

@[simp] theorem ControlPort.offer_replies (p : ControlPort) (n : Notice) :
    (p.offer n).replies = p.replies := by
  rcases p.offer_cases n with ⟨-, h⟩ | ⟨-, -, h⟩ | ⟨-, -, h⟩ <;> simp [h]

@[simp] theorem ControlPort.offer_restarting (p : ControlPort) (n : Notice) :
    (p.offer n).restarting = p.restarting := by
  rcases p.offer_cases n with ⟨-, h⟩ | ⟨-, -, h⟩ | ⟨-, -, h⟩ <;> simp [h]

@[simp] theorem ControlPort.offer_placesHeld (p : ControlPort) (n : Notice) :
    (p.offer n).placesHeld = p.placesHeld := by
  simp [ControlPort.placesHeld]

/-- A queue of at most 32 notices stays one. -/
theorem ControlPort.offer_notices_length (p : ControlPort) (n : Notice) (h : p.notices.length ≤ 32) :
    (p.offer n).notices.length ≤ 32 := by
  rcases p.offer_cases n with ⟨-, k⟩ | ⟨-, l, k⟩ | ⟨-, -, k⟩ <;> simp [k] <;> omega

/-! ## The transmitter (R172) -/

/-- R172: what a free transmitter takes. -/
theorem ControlPort.arbitrate_cases (p : ControlPort) :
    p.arbitrate = p ∨
      (∃ r rs, p.sending = none ∧ p.rejects = r :: rs ∧
        p.arbitrate = { p with sending := some (.reject r), rejects := rs }) ∨
      (p.sending = none ∧ p.rejects = [] ∧ p.replies ≠ [] ∧
        p.arbitrate = { p with sending := some .reply }) ∨
      (p.sending = none ∧ p.rejects = [] ∧ p.replies = [] ∧ p.notices ≠ [] ∧ p.restarting = false ∧
        p.arbitrate = { p with sending := some .notice }) := by
  unfold ControlPort.arbitrate
  split
  · exact .inl rfl
  · rename_i hs
    split
    · rename_i r rs hr
      exact .inr (.inl ⟨r, rs, hs, hr, rfl⟩)
    · rename_i hr
      by_cases h1 : p.replies = []
      · by_cases h2 : p.notices ≠ [] ∧ p.restarting = false
        · refine .inr (.inr (.inr ⟨hs, hr, h1, h2.1, h2.2, ?_⟩))
          simp [h1, h2]
        · refine .inl ?_
          simp only [h1, ne_eq, not_true_eq_false, ↓reduceIte]
          rw [if_neg h2]
      · refine .inr (.inr (.inl ⟨hs, hr, h1, ?_⟩))
        simp [h1]

@[simp] theorem ControlPort.arbitrate_replies (p : ControlPort) : p.arbitrate.replies = p.replies := by
  rcases p.arbitrate_cases with h | ⟨r, rs, -, -, h⟩ | ⟨-, -, -, h⟩ | ⟨-, -, -, -, -, h⟩ <;> simp [h]

@[simp] theorem ControlPort.arbitrate_notices (p : ControlPort) : p.arbitrate.notices = p.notices := by
  rcases p.arbitrate_cases with h | ⟨r, rs, -, -, h⟩ | ⟨-, -, -, h⟩ | ⟨-, -, -, -, -, h⟩ <;> simp [h]

@[simp] theorem ControlPort.arbitrate_mask (p : ControlPort) : p.arbitrate.mask = p.mask := by
  rcases p.arbitrate_cases with h | ⟨r, rs, -, -, h⟩ | ⟨-, -, -, h⟩ | ⟨-, -, -, -, -, h⟩ <;> simp [h]

@[simp] theorem ControlPort.arbitrate_lost (p : ControlPort) : p.arbitrate.lost = p.lost := by
  rcases p.arbitrate_cases with h | ⟨r, rs, -, -, h⟩ | ⟨-, -, -, h⟩ | ⟨-, -, -, -, -, h⟩ <;> simp [h]

@[simp] theorem ControlPort.arbitrate_restarting (p : ControlPort) :
    p.arbitrate.restarting = p.restarting := by
  rcases p.arbitrate_cases with h | ⟨r, rs, -, -, h⟩ | ⟨-, -, -, h⟩ | ⟨-, -, -, -, -, h⟩ <;> simp [h]

@[simp] theorem ControlPort.arbitrate_placesHeld (p : ControlPort) :
    p.arbitrate.placesHeld = p.placesHeld := by
  simp [ControlPort.placesHeld]

/-- The transmitter only ever takes from the waiting REJECTs. -/
theorem ControlPort.arbitrate_rejects_length (p : ControlPort) :
    p.arbitrate.rejects.length ≤ p.rejects.length := by
  rcases p.arbitrate_cases with h | ⟨r, rs, -, k, h⟩ | ⟨-, -, -, h⟩ | ⟨-, -, -, -, -, h⟩ <;> simp [*]

/-- R172: a REJECT made while fewer than 4 wait is placed at the end, and dropped otherwise. -/
theorem ControlPort.reject_cases (p : ControlPort) (r : Reason) (tag : Nat) :
    (p.rejects.length < 4 ∧ p.reject r tag = { p with rejects := p.rejects ++ [⟨r, tag⟩] }) ∨
      (4 ≤ p.rejects.length ∧ p.reject r tag = p) := by
  unfold ControlPort.reject
  simp only [Config.rejectPlaces]
  by_cases h : p.rejects.length < 4
  · exact .inl ⟨h, by simp [h]⟩
  · exact .inr ⟨by omega, by simp [h]⟩

/-! ## The path of a request (R169, R170) -/

@[simp] theorem State.restartSilence_time (s : State) : s.restartSilence.time = s.time := rfl
@[simp] theorem State.restartSilence_click (s : State) : s.restartSilence.click = s.click := rfl
@[simp] theorem State.restartSilence_cue (s : State) : s.restartSilence.cue = s.cue := rfl
@[simp] theorem State.restartSilence_patches (s : State) : s.restartSilence.patches = s.patches := rfl
@[simp] theorem State.restartSilence_chan (s : State) : s.restartSilence.chan = s.chan := rfl
@[simp] theorem State.restartSilence_vin (s : State) : s.restartSilence.vin = s.vin := rfl
@[simp] theorem State.restartSilence_vout (s : State) : s.restartSilence.vout = s.vout := rfl
@[simp] theorem State.restartSilence_port (s : State) : s.restartSilence.port = s.port := rfl

/-- What the two reports of a valid frame leave alone, and the parts of the Cue Engine they keep. -/
theorem State.validFrame_frame (s : State) :
    s.validFrame.time = s.time ∧ s.validFrame.click = s.click ∧ s.validFrame.patches = s.patches ∧
      s.validFrame.chan = s.chan ∧ s.validFrame.vin = s.vin ∧ s.validFrame.vout = s.vout ∧
      s.validFrame.reports = s.reports ∧ s.validFrame.emitted = s.emitted ∧
      s.validFrame.pending = s.pending ∧ s.validFrame.ctl = s.restartSilence.ctl ∧
      s.validFrame.cue = { s.cue with mode := .remote, localEntry := s.validFrame.cue.localEntry } := by
  unfold State.validFrame State.returnToRemote
  cases h : s.cue.mode <;> simp [State.restartSilence, h, State.offer]
  rw [← h]

/-- The reports of a valid frame touch the replies and REJECTs of the port in no way. -/
theorem State.validFrame_port (s : State) :
    s.validFrame.port.replies = s.port.replies ∧ s.validFrame.port.rejects = s.port.rejects ∧
      s.validFrame.port.restarting = s.port.restarting ∧
      s.validFrame.port.placesHeld = s.port.placesHeld := by
  unfold State.validFrame State.returnToRemote
  cases h : s.cue.mode <;> simp [State.restartSilence, h, State.offer]

/-! ### The state in which an owner judges -/

@[simp] theorem State.taken_time (s : State) : s.taken.time = s.time := s.quiet.validFrame_frame.1
@[simp] theorem State.taken_click (s : State) : s.taken.click = s.click := s.quiet.validFrame_frame.2.1
@[simp] theorem State.taken_patches (s : State) : s.taken.patches = s.patches :=
  s.quiet.validFrame_frame.2.2.1
@[simp] theorem State.taken_chan (s : State) : s.taken.chan = s.chan := s.quiet.validFrame_frame.2.2.2.1
@[simp] theorem State.taken_vin (s : State) : s.taken.vin = s.vin := s.quiet.validFrame_frame.2.2.2.2.1
@[simp] theorem State.taken_vout (s : State) : s.taken.vout = s.vout :=
  s.quiet.validFrame_frame.2.2.2.2.2.1
@[simp] theorem State.taken_reports (s : State) : s.taken.reports = s.reports :=
  s.quiet.validFrame_frame.2.2.2.2.2.2.1
@[simp] theorem State.taken_emitted (s : State) : s.taken.emitted = [] :=
  s.quiet.validFrame_frame.2.2.2.2.2.2.2.1
@[simp] theorem State.taken_pending (s : State) : s.taken.pending = s.pending :=
  s.quiet.validFrame_frame.2.2.2.2.2.2.2.2.1
theorem State.taken_ctl (s : State) : s.taken.ctl = s.restartSilence.ctl :=
  s.quiet.validFrame_frame.2.2.2.2.2.2.2.2.2.1
theorem State.taken_cue (s : State) :
    s.taken.cue = { s.cue with mode := .remote, localEntry := s.taken.cue.localEntry } :=
  s.quiet.validFrame_frame.2.2.2.2.2.2.2.2.2.2
@[simp] theorem State.ch_taken (s : State) (n : Station) : s.taken.ch n = s.ch n := State.ch_congr s.taken_chan n
@[simp] theorem State.patchOf_taken (s : State) (n : Station) : s.taken.patchOf n = s.patchOf n :=
  State.patchOf_congr s.taken_patches n
@[simp] theorem State.taken_ctl_state (s : State) : s.taken.ctl.state = s.ctl.state := by
  rw [s.taken_ctl]; rfl
@[simp] theorem State.taken_book (s : State) : s.taken.cue.book = s.cue.book := by rw [s.taken_cue]
@[simp] theorem State.taken_serial (s : State) : s.taken.cue.serial = s.cue.serial := by rw [s.taken_cue]
@[simp] theorem State.taken_edit (s : State) : s.taken.cue.edit = s.cue.edit := by rw [s.taken_cue]
@[simp] theorem State.taken_buffer (s : State) : s.taken.cue.buffer = s.cue.buffer := by rw [s.taken_cue]
@[simp] theorem State.taken_standby (s : State) : s.taken.cue.standby = s.cue.standby := by
  rw [s.taken_cue]
@[simp] theorem State.taken_warned (s : State) : s.taken.cue.warned = s.cue.warned := by rw [s.taken_cue]
@[simp] theorem State.taken_inFlight (s : State) : s.taken.cue.inFlight = s.cue.inFlight := by
  rw [s.taken_cue]
@[simp] theorem State.taken_queued (s : State) : s.taken.cue.queued = s.cue.queued := by rw [s.taken_cue]
@[simp] theorem State.taken_lockoutEnd (s : State) : s.taken.cue.lockoutEnd = s.cue.lockoutEnd := by
  rw [s.taken_cue]
@[simp] theorem State.taken_lockoutMs (s : State) : s.taken.cue.lockoutMs = s.cue.lockoutMs := by
  rw [s.taken_cue]

/-- R169, R170, R175: the three ends of a valid frame. -/
theorem takeFrame_cases (kind tag : Nat) (judge : State → State × Answer) (s : State) :
    (s.port.restarting = true ∧ takeFrame kind tag judge s = s) ∨
      (s.port.restarting = false ∧ 4 ≤ s.port.placesHeld ∧
        takeFrame kind tag judge s =
          { s.validFrame with port := s.validFrame.port.reject .busy tag }) ∨
      (s.port.restarting = false ∧ s.port.placesHeld < 4 ∧
        takeFrame kind tag judge s =
          (judge s.validFrame).1.answer kind tag (judge s.validFrame).2 true) := by
  have hp := s.validFrame_port.2.2.2
  unfold takeFrame
  by_cases h : s.port.restarting = true
  · exact .inl ⟨h, by simp [h]⟩
  · have h' : s.port.restarting = false := by simpa using h
    by_cases k : s.port.placesHeld < 4
    · refine .inr (.inr ⟨h', k, ?_⟩)
      have k' : ¬ 4 ≤ s.validFrame.port.placesHeld := by omega
      simp [h', k', Config.requestPlaces]
    · refine .inr (.inl ⟨h', by omega, ?_⟩)
      have k' : 4 ≤ s.validFrame.port.placesHeld := by omega
      simp [h', k', Config.requestPlaces]

/-- R170: an admitted request of the right length is judged by its owner and answered. -/
theorem serve_admitted (kind tag : Nat) (owner : State → State × Answer) (s : State)
    (h : s.admits tag) :
    serve kind tag true owner s =
      .next ((owner s.taken).1.answer kind tag (owner s.taken).2 true).done := by
  obtain ⟨h1, h2, h3⟩ := h
  rcases takeFrame_cases kind tag (decodeRequest tag true owner) s.quiet with
    ⟨k, -⟩ | ⟨-, k, -⟩ | ⟨-, -, k⟩
  · exact absurd (h1.symm.trans k) (by simp)
  · exact absurd h2 (by simpa [Config.requestPlaces] using k)
  · rw [serve, command_eq, k]
    simp [decodeRequest, h3, State.taken]

/-- The reply of an answered request, in the form `State.replied` gives it. -/
theorem State.answer_done (t : State) (kind tag : Nat) (a : Answer) (h : a ≠ .deferred) :
    (t.answer kind tag a true).done = t.replied kind tag a := by
  cases a <;> simp_all [State.answer, State.done, State.replied]

/-- R170: a request that finds all four places held is answered REJECT with BUSY and not decoded. -/
theorem serve_busy (kind tag : Nat) (ok : Bool) (owner : State → State × Answer) (s : State)
    (h1 : s.port.restarting = false) (h2 : 4 ≤ s.port.placesHeld) :
    serve kind tag ok owner s =
      .next (State.done { s.taken with port := s.taken.port.reject .busy tag }) := by
  rcases takeFrame_cases kind tag (decodeRequest tag ok owner) s.quiet with
    ⟨k, -⟩ | ⟨-, -, k⟩ | ⟨-, k, -⟩
  · exact absurd (h1.symm.trans k) (by simp)
  · rw [serve, command_eq, k]; rfl
  · exact absurd h2 (by simpa using k)

/-- R175: once a RESTART has been decoded, a request has no effect. -/
theorem serve_restarting (kind tag : Nat) (ok : Bool) (owner : State → State × Answer) (s : State)
    (h : s.port.restarting = true) : serve kind tag ok owner s = .next s.quiet.done := by
  have hq : s.quiet.port.restarting = true := h
  rw [serve, command_eq, takeFrame, if_pos hq]

/-- R170: an admitted request of the wrong length is refused with BAD_LENGTH. -/
theorem serve_badLength (kind tag : Nat) (owner : State → State × Answer) (s : State)
    (h : s.admits tag) :
    serve kind tag false owner s = .next (s.refusedWith kind tag .badLength) := by
  obtain ⟨h1, h2, h3⟩ := h
  rcases takeFrame_cases kind tag (decodeRequest tag false owner) s.quiet with
    ⟨k, -⟩ | ⟨-, k, -⟩ | ⟨-, -, k⟩
  · exact absurd (h1.symm.trans k) (by simp)
  · exact absurd h2 (by simpa [Config.requestPlaces] using k)
  · rw [serve, command_eq, k]
    simp [decodeRequest, h3, refuse, State.refusedWith, ← State.answer_done, State.taken]

/-- The meaning of every request is the taking of its valid frame. -/
theorem exec_request (i : Instr) (s : State) (r : Request) (h : requestOf i = some r) :
    exec i s = serve r.kind r.tag r.lengthOk r.owner s := by
  cases i <;> simp only [requestOf, Option.some.injEq, reduceCtorEq] at h <;> subst h <;> rfl

/-! ## Acts on stations in turn -/

/-- A relation that each act of a station keeps is kept by acts on stations in turn. -/
theorem forStations_rel (R : State → State → Prop) (refl : ∀ s, R s s)
    (trans : ∀ s t u, R s t → R t u → R s u) (f : Station → State → State)
    (step : ∀ n s, R s (f n s)) (ns : List Station) (s : State) : R s (forStations f ns s) := by
  induction ns generalizing s with
  | nil => exact refl s
  | cons n ns ih => exact trans _ _ _ (step n s) (ih _)

/-- The same over every station. -/
theorem forAll_rel (R : State → State → Prop) (refl : ∀ s, R s s)
    (trans : ∀ s t u, R s t → R t u → R s u) (f : Station → State → State)
    (step : ∀ n s, R s (f n s)) (s : State) : R s (forAll f s) :=
  forStations_rel R refl trans f step allStations s

/-! ## Reports (R73) -/

/-- With no report handed, nothing is taken. -/
theorem settle_nil (s : State) (h : s.reports = []) : settle s = s := by
  unfold settle settleLimit settleN
  simp [h]

/-- A relation that the taking of every report keeps, and the clearing of reports, is kept by taking them
all. -/
theorem settle_rel (R : State → State → Prop) (refl : ∀ s, R s s)
    (trans : ∀ s t u, R s t → R t u → R s u) (clear : ∀ (s : State) rs, R s { s with reports := rs })
    (take : ∀ (s : State) r, R s (s.takeReport r)) (s : State) : R s (settle s) := by
  suffices h : ∀ n s, R s (settleN n s) from h _ s
  intro n
  induction n with
  | zero => intro s; exact clear s []
  | succ n ih =>
    intro s
    unfold settleN
    split
    · exact refl s
    · exact trans _ _ _ (clear s _) (trans _ _ _ (take _ _) (ih _))

end Sys2Proof.Machine
end

