-- ==== Sys2Proof/Laws/Frames.lean ====
section
/-! SUPPORT. What an act on one station leaves alone: every block but the stations' records, the ports
and the other stations; and what acts on every station in turn do to each of them. -/

namespace Sys2Proof.Machine

/-! ## Acts within the pit -/

/-- From `s` to `t` only the stations' channels and patch records, and what the ports hold and put out,
differ. -/
structure State.PitOnly (s t : State) : Prop where
  time : t.time = s.time
  click : t.click = s.click
  cue : t.cue = s.cue
  ctl : t.ctl = s.ctl
  vin : t.vin = s.vin
  vout : t.vout = s.vout
  reports : t.reports = s.reports
  pending : t.pending = s.pending

theorem State.PitOnly.refl (s : State) : s.PitOnly s := ⟨rfl, rfl, rfl, rfl, rfl, rfl, rfl, rfl⟩

theorem State.PitOnly.trans {s t u : State} (h : s.PitOnly t) (k : t.PitOnly u) : s.PitOnly u :=
  ⟨k.time.trans h.time, k.click.trans h.click, k.cue.trans h.cue, k.ctl.trans h.ctl,
    k.vin.trans h.vin, k.vout.trans h.vout, k.reports.trans h.reports, k.pending.trans h.pending⟩

theorem State.PitOnly.symm {s t : State} (h : s.PitOnly t) : t.PitOnly s :=
  ⟨h.time.symm, h.click.symm, h.cue.symm, h.ctl.symm, h.vin.symm, h.vout.symm, h.reports.symm,
    h.pending.symm⟩

/-- What a station's acts may read: its own records, and the blocks outside the pit. -/
def Seen (n : Station) {α : Type} (p : State → α) : Prop :=
  ∀ s t : State, s.PitOnly t → s.ch n = t.ch n → s.patchOf n = t.patchOf n → p s = p t

/-- An act on station `n`: it stays within the pit, leaves every other station's records alone, and what
it makes of `n`'s records follows from what it may read. -/
structure ActsOn (n : Station) (f : State → State) : Prop where
  frame : ∀ s : State, s.PitOnly (f s)
  otherCh : ∀ (s : State) (m : Station), m ≠ n → (f s).ch m = s.ch m
  otherPatch : ∀ (s : State) (m : Station), m ≠ n → (f s).patchOf m = s.patchOf m
  readsCh : Seen n fun s => (f s).ch n
  readsPatch : Seen n fun s => (f s).patchOf n

namespace ActsOn

variable {n : Station} {f g : State → State}

theorem skip : ActsOn n fun s => s :=
  ⟨fun s => .refl s, fun _ _ _ => rfl, fun _ _ _ => rfl, fun _ _ _ h _ => h, fun _ _ _ _ h => h⟩

theorem comp (hf : ActsOn n f) (hg : ActsOn n g) : ActsOn n fun s => g (f s) where
  frame s := (hf.frame s).trans (hg.frame _)
  otherCh s m h := (hg.otherCh _ m h).trans (hf.otherCh s m h)
  otherPatch s m h := (hg.otherPatch _ m h).trans (hf.otherPatch s m h)
  readsCh s t h c p :=
    hg.readsCh _ _ (((hf.frame s).symm.trans h).trans (hf.frame t)) (hf.readsCh s t h c p)
      (hf.readsPatch s t h c p)
  readsPatch s t h c p :=
    hg.readsPatch _ _ (((hf.frame s).symm.trans h).trans (hf.frame t)) (hf.readsCh s t h c p)
      (hf.readsPatch s t h c p)

/-- An act chosen by what a station's acts may read. -/
theorem choose {α : Type} (p : State → α) (F : α → State → State) (hp : Seen n p)
    (hF : ∀ a, ActsOn n (F a)) : ActsOn n fun s => F (p s) s where
  frame s := (hF _).frame s
  otherCh s := (hF _).otherCh s
  otherPatch s := (hF _).otherPatch s
  readsCh s t h c k := by
    show (F (p s) s).ch n = (F (p t) t).ch n
    rw [hp s t h c k]; exact (hF _).readsCh s t h c k
  readsPatch s t h c k := by
    show (F (p s) s).patchOf n = (F (p t) t).patchOf n
    rw [hp s t h c k]; exact (hF _).readsPatch s t h c k

theorem setCh (c : Channel) : ActsOn n fun s => s.setCh n c where
  frame _ := ⟨rfl, rfl, rfl, rfl, rfl, rfl, rfl, rfl⟩
  otherCh s m k := by rw [State.ch_setCh, if_neg k]
  otherPatch _ _ _ := rfl
  readsCh s t _ _ _ := by
    show (s.setCh n c).ch n = (t.setCh n c).ch n
    rw [State.ch_setCh_self, State.ch_setCh_self]
  readsPatch _ _ _ _ k := k

theorem mapLink (u : Link → Link) : ActsOn n fun s => s.mapLink n u :=
  choose (fun s => s.ch n) (fun c s => s.setCh n { c with link := u c.link }) (fun _ _ _ h _ => h)
    fun _ => setCh _

theorem setPatch (p : PatchRecord) : ActsOn n fun s => s.setPatch n p where
  frame _ := ⟨rfl, rfl, rfl, rfl, rfl, rfl, rfl, rfl⟩
  otherCh _ _ _ := rfl
  otherPatch s m k := by rw [State.patchOf_setPatch, if_neg k]
  readsCh _ _ _ c _ := c
  readsPatch s t _ _ _ := by
    show (s.setPatch n p).patchOf n = (t.setPatch n p).patchOf n
    rw [State.patchOf_setPatch_self, State.patchOf_setPatch_self]

theorem send (m : Station) (x : LinkFrame) : ActsOn n fun s => s.send m x :=
  ⟨fun _ => ⟨rfl, rfl, rfl, rfl, rfl, rfl, rfl, rfl⟩, fun _ _ _ => rfl, fun _ _ _ => rfl,
    fun _ _ _ h _ => h, fun _ _ _ _ h => h⟩

theorem offer (x : Notice) : ActsOn n fun s => s.offer x :=
  ⟨fun _ => ⟨rfl, rfl, rfl, rfl, rfl, rfl, rfl, rfl⟩, fun _ _ _ => rfl, fun _ _ _ => rfl,
    fun _ _ _ h _ => h, fun _ _ _ _ h => h⟩

theorem answer (k tag : Nat) (a : Answer) (pl : Bool) : ActsOn n fun s => s.answer k tag a pl := by
  cases a <;>
    exact ⟨fun _ => ⟨rfl, rfl, rfl, rfl, rfl, rfl, rfl, rfl⟩, fun _ _ _ => rfl, fun _ _ _ => rfl,
      fun _ _ _ h _ => h, fun _ _ _ _ h => h⟩

theorem ite (b : Prop) [Decidable b] (hf : ActsOn n f) (hg : ActsOn n g) :
    ActsOn n fun s => if b then f s else g s := by
  by_cases h : b
  · simpa [h] using hf
  · simpa [h] using hg

/-- An act that reads the station's channel. -/
theorem byCh (F : Channel → State → State) (h : ∀ c, ActsOn n (F c)) : ActsOn n fun s => F (s.ch n) s :=
  choose (fun s => s.ch n) F (fun _ _ _ h _ => h) h

/-- An act that reads the station's patch record. -/
theorem byPatch (F : PatchRecord → State → State) (h : ∀ p, ActsOn n (F p)) :
    ActsOn n fun s => F (s.patchOf n) s :=
  choose (fun s => s.patchOf n) F (fun _ _ _ _ h => h) h

/-- An act that reads the Timebase. -/
theorem byTime (F : Timebase → State → State) (h : ∀ x, ActsOn n (F x)) :
    ActsOn n fun s => F s.time s :=
  choose State.time F (fun _ _ h _ _ => h.time.symm) h

/-- An act that reads the Cue Engine. -/
theorem byCue (F : CueEngine → State → State) (h : ∀ x, ActsOn n (F x)) : ActsOn n fun s => F s.cue s :=
  choose State.cue F (fun _ _ h _ _ => h.cue.symm) h

/-- An act that reads the Click Engine. -/
theorem byClick (F : ClickEngine → State → State) (h : ∀ x, ActsOn n (F x)) :
    ActsOn n fun s => F s.click s :=
  choose State.click F (fun _ _ h _ _ => h.click.symm) h

/-- An act that reads the Show State Controller. -/
theorem byCtl (F : ShowControl → State → State) (h : ∀ x, ActsOn n (F x)) :
    ActsOn n fun s => F s.ctl s :=
  choose State.ctl F (fun _ _ h _ _ => h.ctl.symm) h

end ActsOn

/-! ## Acts on every station -/

/-- What acts on stations in turn leave of the blocks outside the pit. -/
theorem forStations_frame {f : Station → State → State} (hf : ∀ n, ActsOn n (f n)) (ns : List Station)
    (s : State) : s.PitOnly (forStations f ns s) :=
  forStations_rel State.PitOnly .refl (fun _ _ _ h k => h.trans k) f (fun n => (hf n).frame) ns s

theorem forAll_frame {f : Station → State → State} (hf : ∀ n, ActsOn n (f n)) (s : State) :
    s.PitOnly (forAll f s) := forStations_frame hf allStations s

/-- A station that is not named is left alone. -/
theorem forStations_other {f : Station → State → State} (hf : ∀ n, ActsOn n (f n)) (m : Station) :
    ∀ (ns : List Station), m ∉ ns → ∀ s,
      (forStations f ns s).ch m = s.ch m ∧ (forStations f ns s).patchOf m = s.patchOf m
  | [], _, s => ⟨rfl, rfl⟩
  | n :: ns, h, s => by
    have hn : m ≠ n := fun e => h (e ▸ List.mem_cons_self)
    have ih := forStations_other hf m ns (fun k => h (List.mem_cons_of_mem _ k)) (f n s)
    exact ⟨ih.1.trans ((hf n).otherCh s m hn), ih.2.trans ((hf n).otherPatch s m hn)⟩

/-- A station named once is acted on once, as it stood before any of the acts. -/
theorem forStations_at {f : Station → State → State} (hf : ∀ n, ActsOn n (f n)) (m : Station) :
    ∀ (ns : List Station), ns.Nodup → m ∈ ns → ∀ s,
      (forStations f ns s).ch m = (f m s).ch m ∧ (forStations f ns s).patchOf m = (f m s).patchOf m
  | [], _, h, _ => absurd h (by simp)
  | n :: ns, nd, h, s => by
    by_cases e : m = n
    · subst e
      exact forStations_other hf m ns (List.nodup_cons.mp nd).1 (f m s)
    · have hm : m ∈ ns := (List.mem_cons.mp h).resolve_left e
      have ih := forStations_at hf m ns (List.nodup_cons.mp nd).2 hm (f n s)
      have c := (hf n).otherCh s m e
      have p := (hf n).otherPatch s m e
      have k := ((hf n).frame s).symm
      exact ⟨ih.1.trans ((hf m).readsCh _ _ k c p), ih.2.trans ((hf m).readsPatch _ _ k c p)⟩

theorem allStations_nodup : allStations.Nodup := by decide

theorem mem_allStations (n : Station) : n ∈ allStations := by
  revert n; decide

/-- Every station is acted on once, as it stood before any of the acts. -/
theorem forAll_ch {f : Station → State → State} (hf : ∀ n, ActsOn n (f n)) (m : Station) (s : State) :
    (forAll f s).ch m = (f m s).ch m :=
  (forStations_at hf m allStations allStations_nodup (mem_allStations m) s).1

theorem forAll_patchOf {f : Station → State → State} (hf : ∀ n, ActsOn n (f n)) (m : Station)
    (s : State) : (forAll f s).patchOf m = (f m s).patchOf m :=
  (forStations_at hf m allStations allStations_nodup (mem_allStations m) s).2

end Sys2Proof.Machine
end

