-- ==== Sys2Proof/WellFormed.lean ====
section
/-! DEFINITION. When a command is well-formed: every operand lies within what the frame or the page that
carries it can carry. A meaning never depends on it: values a request can carry and its owner does not
take are judged by the owner. -/

namespace Sys2Proof

/-- A value of one byte of a frame (Table 10.3). -/
def fitsByte (n : Nat) : Bool := decide (n < 256)

/-- A value of two bytes of a frame (R169). -/
def fitsTwo (n : Nat) : Bool := decide (n < 65536)

/-- A cue number of three bytes (Table 10.6). -/
def fitsCue (n : Nat) : Bool := decide (n < 16777216)

/-- A text of byte codes (R169) that a payload of 250 bytes can carry (R169). -/
def fitsText (t : Text) : Bool := decide (t.length ≤ 250) && t.all fitsByte

/-- A patch as a station or a request carries it: two bytes (R50, R84). -/
def Patch.wf (p : Patch) : Bool := fitsByte p.bank && fitsByte p.program

/-- R50: a patch entry of a PUT_CUE. -/
def RawPatchEntry.wf (e : RawPatchEntry) : Bool :=
  fitsByte e.station && fitsByte e.bank && fitsByte e.program && fitsByte e.policy
    && fitsByte e.deferLimit

/-- R51: the cue of a PUT_CUE; its warn list is a set. -/
def RawCue.wf (c : RawCue) : Bool :=
  fitsCue c.number && fitsText c.label && fitsByte c.goMode && fitsTwo c.goBar
    && fitsByte c.changePoint && fitsTwo c.mapRef && fitsByte c.countIn && c.entries.all RawPatchEntry.wf
    && decide c.warn.Nodup && fitsText c.text

/-- R53: a segment of a PUT_MAP; its accent set marks beats 1..15, each once. -/
def RawSegment.wf (g : RawSegment) : Bool :=
  fitsByte g.kind && fitsTwo g.bars && fitsByte g.beatsPerBar && fitsByte g.denominator
    && fitsTwo g.startTempo && fitsTwo g.targetTempo && fitsByte g.vampExit
    && decide g.accents.Nodup && g.accents.all fun b => decide (1 ≤ b ∧ b ≤ 15)

/-- R119: click values. -/
def ClickValues.wf (c : ClickValues) : Bool := fitsByte c.subdivision && fitsByte c.level

/-- R120: the assigned part of a STATION_SET. -/
def RawAssigned.wf (a : RawAssigned) : Bool :=
  fitsByte a.role && fitsByte a.kind && fitsText a.name && a.click.wf && fitsByte a.linkTries
    && fitsByte a.errorLimit

/-- R140: the pattern of a LAMP. -/
def RawLamp.wf (l : RawLamp) : Bool :=
  fitsByte l.lamp && fitsByte l.tick && fitsTwo l.tickValue && fitsByte l.pause

/-- R146: the entry of a FORMAT_PUT. -/
def RawFormat.wf (f : RawFormat) : Bool :=
  fitsTwo f.lines && fitsTwo f.period && fitsTwo f.tolerance && fitsByte f.scan && fitsByte f.width
    && fitsByte f.rows

/-- R158: the settings of an OUTPUT_SET. -/
def RawOutput.wf (o : RawOutput) : Bool :=
  fitsByte o.source && fitsByte o.fallback && fitsTwo o.flashAdvance && fitsByte o.flashFrames

/-- R164: the record of an OVERLAY_PUT. -/
def RawField.wf (f : RawField) : Bool :=
  fitsByte f.column && fitsByte f.row && fitsByte f.foreground && fitsByte f.background
    && fitsByte f.downbeat

/-- R122: what a station reports of its own settings. -/
def StationReport.wf (r : StationReport) : Bool := r.actual.wf

/-- R122: the items of a status frame. -/
def StatusItems.wf (i : StatusItems) : Bool :=
  i.report.wf && i.patchDone.all (fun d => d.1.wf && fitsByte d.2) && (i.localChange.map Patch.wf).getD true

/-- A well-formed command. -/
def Instr.wellFormed : Instr → Bool
  | .clockQuery t | .clockSelectWord t | .clockSelectInternal t | .beginEdit t | .commitEdit t
  | .abandonEdit t | .release t | .startPreshow t | .hold t | .stop t | .endShow t | .stopQuery t
  | .overlayCommit t | .noticeMaskRead t | .noticeMaskWrite t _ | .status t | .restart t => fitsByte t
  | .putCue t c => fitsByte t && c.wf
  | .deleteCue t n | .go t n | .goto t n => fitsByte t && fitsCue n
  | .putMap t m k d gs => fitsByte t && fitsTwo m && fitsByte k && fitsByte d && gs.all RawSegment.wf
  | .deleteMap t m => fitsByte t && fitsTwo m
  | .cueQuerySummary t src | .cueQueryRun t src => fitsByte t && fitsByte src
  | .cueQueryCue t src n | .cueQueryNextCue t src n => fitsByte t && fitsByte src && fitsCue n
  | .cueQueryMap t src m k => fitsByte t && fitsByte src && fitsTwo m && fitsByte k
  | .lockoutSet t ms => fitsByte t && fitsTwo ms
  | .silenceSet t k | .continueShow t k | .retrain t k | .linkTest t k | .stationQuery t k
  | .formatPutRead t k | .inputSetRead t k | .outputSetRead t k => fitsByte t && fitsByte k
  | .stoplineSet t m q => fitsByte t && fitsByte m && fitsTwo q
  | .resume t c b k => fitsByte t && fitsCue c && fitsTwo b && fitsByte k
  | .stationSet t n a => fitsByte t && fitsByte n && a.wf
  | .lamp t n l => fitsByte t && fitsByte n && l.wf
  | .stationParamRead t n k | .stationParamWrite t n k _ => fitsByte t && fitsByte n && fitsTwo k
  | .formatPutWrite t e f => fitsByte t && fitsByte e && f.wf
  | .inputSetWrite t a m e l u =>
    fitsByte t && fitsByte a && fitsByte m && fitsByte e && fitsByte l && fitsByte u
  | .select t m h => fitsByte t && fitsByte m && fitsByte h
  | .outputSetWrite t o r => fitsByte t && fitsByte o && r.wf
  | .palette t e r g b => fitsByte t && fitsByte e && fitsByte r && fitsByte g && fitsByte b
  | .overlayPutField t f r => fitsByte t && fitsByte f && r.wf
  | .overlayPutBannerText t x => fitsByte t && fitsText x
  | .statusFrame _ i => i.wf
  | .settingsReply _ _ r p _ => r.wf && (p.map Patch.wf).getD true
  | .testEcho _ f _ | .testEchoTimeout _ f => fitsByte f
  | .relayAnswer _ n _ _ => fitsByte n
  | .powerUp .. | .wordClockEdge | .internalPeriod | .missingEdgeEvent | .rateWindowEnd
  | .beatProduction | .changeDue | .mapEnd | .holdReached | .continueReached | .resumeReached
  | .silenceEnd | .idleMark _ | .patchDeadline _ | .ackTimeout _ | .stopLineActive
  | .stopLineInactive | .qualifierTimerExpiry | .settingsRefresh _ | .seekBurst _ | .seekAnswer _
  | .seekHoldEnd _ | .pageRepeat _ | .pageTimeout _ | .identReply .. | .abilityReply ..
  | .delayProbeReply .. | .readyReply .. | .linkSilence _ | .backChannelCheckError _
  | .errorWindowEnd _ | .eventSendPoint _ | .testFrameSend _ | .relayTimeout _ | .syncEdge _
  | .syncWatchExpiry _ | .inputFrameStart .. | .missingWatchExpiry _ | .returnTime
  | .outputOwnFrameStart .. | .byteReceived .. | .byteGapExpiry | .frameSent
  | .tapOrFreeSegmentStart => true

end Sys2Proof
end

