-- ==== Sys2Proof/Laws/PerInstr.lean ====
section
/-! SUPPORT. The per-command family `Tagged`: every request row carries a kind of Table 10.4, and a
well-formed one a tag of one byte (R170). -/

namespace Sys2Proof.Laws.Tagged

open Sys2Proof.Machine

/-- A command that is a request has a kind of Table 10.4 and, well-formed, a tag of one byte. -/
def Statement (i : Instr) : Prop :=
  ∀ r, requestOf i = some r → isRequestKind r.kind = true ∧ (i.wellFormed = true → r.tag < 256)

/-- An event, which is no request. -/
theorem of_event {i : Instr} (h : requestOf i = none) : Statement i := fun r hr => by simp [h] at hr

/-- The first of two conditions. -/
theorem and_left {a b : Bool} (h : (a && b) = true) : a = true := by
  cases a
  · exact h
  · rfl

/-- A request with its kind and tag. -/
theorem of_request {i : Instr} {r : Request} (h : requestOf i = some r) (hk : isRequestKind r.kind = true)
    (ht : i.wellFormed = true → fitsByte r.tag = true) : Statement i := fun x hx => by
  rw [h] at hx
  cases hx
  exact ⟨hk, fun w => by simpa [fitsByte] using ht w⟩

theorem powerUp (straps : Straps) (contactClosed : Bool) : Statement (.powerUp straps contactClosed) := of_event rfl
theorem wordClockEdge : Statement .wordClockEdge := of_event rfl
theorem internalPeriod : Statement .internalPeriod := of_event rfl
theorem missingEdgeEvent : Statement .missingEdgeEvent := of_event rfl
theorem rateWindowEnd : Statement .rateWindowEnd := of_event rfl
theorem clockQuery (tag : Nat) : Statement (.clockQuery tag) :=
  of_request rfl rfl fun h => h
theorem clockSelectWord (tag : Nat) : Statement (.clockSelectWord tag) :=
  of_request rfl rfl fun h => h
theorem clockSelectInternal (tag : Nat) : Statement (.clockSelectInternal tag) :=
  of_request rfl rfl fun h => h
theorem beatProduction : Statement .beatProduction := of_event rfl
theorem changeDue : Statement .changeDue := of_event rfl
theorem mapEnd : Statement .mapEnd := of_event rfl
theorem holdReached : Statement .holdReached := of_event rfl
theorem continueReached : Statement .continueReached := of_event rfl
theorem resumeReached : Statement .resumeReached := of_event rfl
theorem beginEdit (tag : Nat) : Statement (.beginEdit tag) :=
  of_request rfl rfl fun h => h
theorem putCue (tag : Nat) (cue : RawCue) : Statement (.putCue tag cue) :=
  of_request rfl rfl fun h => and_left h
theorem deleteCue (tag number : Nat) : Statement (.deleteCue tag number) :=
  of_request rfl rfl fun h => and_left h
theorem putMap (tag map first declared : Nat) (segments : List RawSegment) :
    Statement (.putMap tag map first declared segments) :=
  of_request rfl rfl fun h => and_left (and_left (and_left (and_left h)))
theorem deleteMap (tag map : Nat) : Statement (.deleteMap tag map) :=
  of_request rfl rfl fun h => and_left h
theorem commitEdit (tag : Nat) : Statement (.commitEdit tag) :=
  of_request rfl rfl fun h => h
theorem abandonEdit (tag : Nat) : Statement (.abandonEdit tag) :=
  of_request rfl rfl fun h => h
theorem cueQuerySummary (tag source : Nat) : Statement (.cueQuerySummary tag source) :=
  of_request rfl rfl fun h => and_left h
theorem cueQueryCue (tag source number : Nat) : Statement (.cueQueryCue tag source number) :=
  of_request rfl rfl fun h => and_left (and_left h)
theorem cueQueryNextCue (tag source number : Nat) : Statement (.cueQueryNextCue tag source number) :=
  of_request rfl rfl fun h => and_left (and_left h)
theorem cueQueryMap (tag source map first : Nat) : Statement (.cueQueryMap tag source map first) :=
  of_request rfl rfl fun h => and_left (and_left (and_left h))
theorem cueQueryRun (tag source : Nat) : Statement (.cueQueryRun tag source) :=
  of_request rfl rfl fun h => and_left h
theorem go (tag expected : Nat) : Statement (.go tag expected) :=
  of_request rfl rfl fun h => and_left h
theorem goto (tag number : Nat) : Statement (.goto tag number) :=
  of_request rfl rfl fun h => and_left h
theorem lockoutSet (tag ms : Nat) : Statement (.lockoutSet tag ms) :=
  of_request rfl rfl fun h => and_left h
theorem release (tag : Nat) : Statement (.release tag) :=
  of_request rfl rfl fun h => h
theorem silenceEnd : Statement .silenceEnd := of_event rfl
theorem silenceSet (tag limit : Nat) : Statement (.silenceSet tag limit) :=
  of_request rfl rfl fun h => and_left h
theorem idleMark (station : Station) : Statement (.idleMark station) := of_event rfl
theorem patchDeadline (station : Station) : Statement (.patchDeadline station) := of_event rfl
theorem ackTimeout (station : Station) : Statement (.ackTimeout station) := of_event rfl
theorem startPreshow (tag : Nat) : Statement (.startPreshow tag) :=
  of_request rfl rfl fun h => h
theorem hold (tag : Nat) : Statement (.hold tag) :=
  of_request rfl rfl fun h => h
theorem continueShow (tag countIn : Nat) : Statement (.continueShow tag countIn) :=
  of_request rfl rfl fun h => and_left h
theorem stopLineActive : Statement .stopLineActive := of_event rfl
theorem stopLineInactive : Statement .stopLineInactive := of_event rfl
theorem qualifierTimerExpiry : Statement .qualifierTimerExpiry := of_event rfl
theorem stoplineSet (tag mode time : Nat) : Statement (.stoplineSet tag mode time) :=
  of_request rfl rfl fun h => and_left (and_left h)
theorem stop (tag : Nat) : Statement (.stop tag) :=
  of_request rfl rfl fun h => h
theorem resume (tag cue bar countIn : Nat) : Statement (.resume tag cue bar countIn) :=
  of_request rfl rfl fun h => and_left (and_left (and_left h))
theorem endShow (tag : Nat) : Statement (.endShow tag) :=
  of_request rfl rfl fun h => h
theorem stopQuery (tag : Nat) : Statement (.stopQuery tag) :=
  of_request rfl rfl fun h => h
theorem stationSet (tag station : Nat) (assigned : RawAssigned) :
    Statement (.stationSet tag station assigned) :=
  of_request rfl rfl fun h => and_left (and_left h)
theorem settingsRefresh (station : Station) : Statement (.settingsRefresh station) := of_event rfl
theorem statusFrame (station : Station) (items : StatusItems) : Statement (.statusFrame station items) := of_event rfl
theorem seekBurst (station : Station) : Statement (.seekBurst station) := of_event rfl
theorem seekAnswer (station : Station) : Statement (.seekAnswer station) := of_event rfl
theorem seekHoldEnd (station : Station) : Statement (.seekHoldEnd station) := of_event rfl
theorem pageRepeat (station : Station) : Statement (.pageRepeat station) := of_event rfl
theorem pageTimeout (station : Station) : Statement (.pageTimeout station) := of_event rfl
theorem identReply (station : Station) (toggle : Bool) (kind : StationKind) (serial : Nat) :
    Statement (.identReply station toggle kind serial) := of_event rfl
theorem abilityReply (station : Station) (toggle offersFull offersReduced hasRig : Bool) :
    Statement (.abilityReply station toggle offersFull offersReduced hasRig) := of_event rfl
theorem delayProbeReply (station : Station) (toggle : Bool) (stamp turnaround : Nat) :
    Statement (.delayProbeReply station toggle stamp turnaround) := of_event rfl
theorem settingsReply (station : Station) (toggle : Bool) (report : StationReport) (patch : Option Patch)
    (state : HeldState) : Statement (.settingsReply station toggle report patch state) := of_event rfl
theorem readyReply (station : Station) (toggle : Bool) : Statement (.readyReply station toggle) := of_event rfl
theorem linkSilence (station : Station) : Statement (.linkSilence station) := of_event rfl
theorem backChannelCheckError (station : Station) : Statement (.backChannelCheckError station) := of_event rfl
theorem errorWindowEnd (station : Station) : Statement (.errorWindowEnd station) := of_event rfl
theorem retrain (tag station : Nat) : Statement (.retrain tag station) :=
  of_request rfl rfl fun h => and_left h
theorem eventSendPoint (station : Station) : Statement (.eventSendPoint station) := of_event rfl
theorem lamp (tag station : Nat) (pattern : RawLamp) : Statement (.lamp tag station pattern) :=
  of_request rfl rfl fun h => and_left (and_left h)
theorem linkTest (tag station : Nat) : Statement (.linkTest tag station) :=
  of_request rfl rfl fun h => and_left h
theorem testFrameSend (station : Station) : Statement (.testFrameSend station) := of_event rfl
theorem testEcho (station : Station) (frame : Nat) (correct : Bool) :
    Statement (.testEcho station frame correct) := of_event rfl
theorem testEchoTimeout (station : Station) (frame : Nat) : Statement (.testEchoTimeout station frame) := of_event rfl
theorem stationParamRead (tag station number : Nat) : Statement (.stationParamRead tag station number) :=
  of_request rfl rfl fun h => and_left (and_left h)
theorem stationParamWrite (tag station number : Nat) (value : BitVec 32) :
    Statement (.stationParamWrite tag station number value) :=
  of_request rfl rfl fun h => and_left (and_left h)
theorem relayAnswer (station : Station) (serial : Nat) (known : Bool) (value : BitVec 32) :
    Statement (.relayAnswer station serial known value) := of_event rfl
theorem relayTimeout (station : Station) : Statement (.relayTimeout station) := of_event rfl
theorem stationQuery (tag station : Nat) : Statement (.stationQuery tag station) :=
  of_request rfl rfl fun h => and_left h
theorem formatPutRead (tag entry : Nat) : Statement (.formatPutRead tag entry) :=
  of_request rfl rfl fun h => and_left h
theorem formatPutWrite (tag entry : Nat) (format : RawFormat) :
    Statement (.formatPutWrite tag entry format) :=
  of_request rfl rfl fun h => and_left (and_left h)
theorem syncEdge (input : Input) : Statement (.syncEdge input) := of_event rfl
theorem syncWatchExpiry (input : Input) : Statement (.syncWatchExpiry input) := of_event rfl
theorem inputFrameStart (input : Input) (micros : Nat) : Statement (.inputFrameStart input micros) := of_event rfl
theorem missingWatchExpiry (input : Input) : Statement (.missingWatchExpiry input) := of_event rfl
theorem inputSetRead (tag address : Nat) : Statement (.inputSetRead tag address) :=
  of_request rfl rfl fun h => and_left h
theorem inputSetWrite (tag address mode entry lockCount unlockCount : Nat) :
    Statement (.inputSetWrite tag address mode entry lockCount unlockCount) :=
  of_request rfl rfl fun h => and_left (and_left (and_left (and_left (and_left h))))
theorem returnTime : Statement .returnTime := of_event rfl
theorem select (tag mode hold : Nat) : Statement (.select tag mode hold) :=
  of_request rfl rfl fun h => and_left (and_left h)
theorem outputSetRead (tag output : Nat) : Statement (.outputSetRead tag output) :=
  of_request rfl rfl fun h => and_left h
theorem outputSetWrite (tag output : Nat) (settings : RawOutput) :
    Statement (.outputSetWrite tag output settings) :=
  of_request rfl rfl fun h => and_left (and_left h)
theorem outputOwnFrameStart (output : OutputNo) (micros : Nat) :
    Statement (.outputOwnFrameStart output micros) := of_event rfl
theorem palette (tag entry red green blue : Nat) : Statement (.palette tag entry red green blue) :=
  of_request rfl rfl fun h => and_left (and_left (and_left (and_left h)))
theorem overlayPutField (tag field : Nat) (record : RawField) :
    Statement (.overlayPutField tag field record) :=
  of_request rfl rfl fun h => and_left (and_left h)
theorem overlayPutBannerText (tag : Nat) (text : Text) : Statement (.overlayPutBannerText tag text) :=
  of_request rfl rfl fun h => and_left h
theorem overlayCommit (tag : Nat) : Statement (.overlayCommit tag) :=
  of_request rfl rfl fun h => h
theorem byteReceived (byte : Byte) (stopBit : Bool) : Statement (.byteReceived byte stopBit) := of_event rfl
theorem byteGapExpiry : Statement .byteGapExpiry := of_event rfl
theorem frameSent : Statement .frameSent := of_event rfl
theorem noticeMaskRead (tag : Nat) : Statement (.noticeMaskRead tag) :=
  of_request rfl rfl fun h => h
theorem noticeMaskWrite (tag : Nat) (mask : BitVec 16) : Statement (.noticeMaskWrite tag mask) :=
  of_request rfl rfl fun h => h
theorem status (tag : Nat) : Statement (.status tag) :=
  of_request rfl rfl fun h => h
theorem restart (tag : Nat) : Statement (.restart tag) :=
  of_request rfl rfl fun h => h
theorem tapOrFreeSegmentStart : Statement .tapOrFreeSegmentStart := of_event rfl

end Sys2Proof.Laws.Tagged
end

