-- ==== Sys2Proof/Laws/Pit.lean ====
section
/-! SUPPORT. Every act the blocks make on one station is an act on that station (Frames.lean). -/

namespace Sys2Proof.Machine

namespace ActsOn

variable {n : Station}

/-! ## Queues and lamps (07) -/

theorem handEvent (e : Event) : ActsOn n fun s => s.handEvent n e := mapLink _

theorem handClicks (b : BeatRecord) : ActsOn n (State.handClicks b n) :=
  byCh (fun c s => if admitsClick b c then s.mapLink n fun l => l.handAll (clickEvents b c) else s)
    fun _ => ite _ (mapLink _) skip

theorem runLamps (b : BeatRecord) : ActsOn n (State.runLamps b n) :=
  byCh (fun c s => if c.isUp then s.mapLink n fun l => (l.runLamp b .cue).runLamp b .stop else s)
    fun _ => ite _ (mapLink _) skip

theorem setLamp (k : Lamp) (src : LampSource) (p : LampPattern) (d : Sample) :
    ActsOn n fun s => s.setLamp n k src p d :=
  byCh (fun c s => if c.isUp then s.mapLink n fun l => (l.setLamp k src p d).1 else s)
    fun _ => ite _ (mapLink _) skip

theorem stopLamp (st : ShowState) : ActsOn n (State.stopLamp st n) :=
  byTime (fun x s => s.setLamp n .stop .show_ (stopLampOf st) x.S) fun _ => setLamp _ _ _ _

theorem cueLampChange (old new : List Station) (due : Sample) :
    ActsOn n (State.cueLampChange old new due n) :=
  ite _ (setLamp _ _ _ _) (ite _ (setLamp _ _ _ _) skip)

theorem cancel (s0 : Sample) : ActsOn n (State.cancel s0 n) :=
  byCh (fun c s => if c.isUp then (s.send n (.cancel s0)).mapLink n fun l => l.cancelFrom s0 else s)
    fun _ => ite _ ((send _ _).comp (mapLink _)) skip

/-! ## The Patch Tracker (05) -/

theorem patchState (cause : PatchStateCause) (after : PendingState) (e : PendingEntry) :
    ActsOn n fun s => s.patchState n cause after e :=
  byTime (fun x s => s.offer (.patchState n cause x.S after e.patch e.phase.sentAs)) fun _ => offer _

theorem patchMismatch (cause : MismatchCause) : ActsOn n fun s => s.patchMismatch n cause :=
  byTime
    (fun x s => s.offer (.patchMismatch n cause x.S (s.patchOf n).confirmed (s.patchOf n).expected))
    fun x => byPatch (fun p s => s.offer (.patchMismatch n cause x.S p.confirmed p.expected))
      fun _ => offer _

theorem dropPatchRecord : ActsOn n fun s => s.dropPatchRecord n := (setPatch _).comp (mapLink _)

theorem sendPatch (patch : Patch) (due : Sample) (force : Bool) (cp : Sample) :
    ActsOn n fun s => s.sendPatch n patch due force cp :=
  byPatch
    (fun p s =>
      (s.handEvent n (.patch due patch force ((p.serial + 1) % 256))).setPatch n
        { p with
          expected := some patch
          serial := (p.serial + 1) % 256
          entry := some ⟨patch, cp, .sent due force ((p.serial + 1) % 256)
            (due + (s.ch n).link.lead + Config.ackMargin)⟩ })
    fun p =>
      byCh
        (fun c s =>
          (s.handEvent n (.patch due patch force ((p.serial + 1) % 256))).setPatch n
            { p with
              expected := some patch
              serial := (p.serial + 1) % 256
              entry := some ⟨patch, cp, .sent due force ((p.serial + 1) % 256)
                (due + c.link.lead + Config.ackMargin)⟩ })
        fun _ => (handEvent _).comp (setPatch _)

theorem takeEntry (c0 : Sample) (e : PatchEntry) :
    ActsOn e.station fun s => State.takeEntry c0 s e :=
  byCh
    (fun c s =>
      if !c.isRig then s
      else if !c.isUp then
        s.setPatch e.station { s.patchOf e.station with expected := some e.patch, entry := none }
      else if (s.patchOf e.station).entry.isNone && decide ((s.patchOf e.station).confirmed = some e.patch)
      then s.setPatch e.station { s.patchOf e.station with expected := some e.patch }
      else if e.policy = .now ∨ (s.patchOf e.station).held = .clear then
        s.sendPatch e.station e.patch c0 false c0
      else
        (s.setPatch e.station
          { s.patchOf e.station with
            expected := some e.patch
            entry := some ⟨e.patch, c0,
              .waitingRelease e.deferLimit (c0 + Config.idleBeat) none⟩ }).mapLink e.station
          Link.withdrawPatch)
    fun c =>
      byPatch
        (fun p s =>
          if !c.isRig then s
          else if !c.isUp then s.setPatch e.station { p with expected := some e.patch, entry := none }
          else if p.entry.isNone && decide (p.confirmed = some e.patch) then
            s.setPatch e.station { p with expected := some e.patch }
          else if e.policy = .now ∨ p.held = .clear then s.sendPatch e.station e.patch c0 false c0
          else
            (s.setPatch e.station
              { p with
                expected := some e.patch
                entry := some ⟨e.patch, c0,
                  .waitingRelease e.deferLimit (c0 + Config.idleBeat) none⟩ }).mapLink e.station
              Link.withdrawPatch)
        fun _ =>
          ite _ skip (ite _ (setPatch _) (ite _ (setPatch _)
            (ite _ (sendPatch _ _ _ _) ((setPatch _).comp (mapLink _)))))

theorem countBeat (onset : Sample) : ActsOn n (State.countBeat onset n) :=
  byPatch
    (fun p s =>
      match p.entry with
      | some ⟨patch, cp, .waitingRelease k _ dl⟩ =>
        if cp < onset then
          s.setPatch n
            { p with
              entry := some ⟨patch, cp, .waitingRelease (countedBeat k onset dl).1
                (onset + Config.idleBeat) (countedBeat k onset dl).2⟩ }
        else s
      | _ => s)
    fun p => by
      split
      · exact ite _ (setPatch _) skip
      · exact skip

theorem sendWaiting (e : PendingEntry) (force : Bool) : ActsOn n fun s => s.sendWaiting n e force :=
  byTime
    (fun x s =>
      s.sendPatch n e.patch (max (x.S + (s.ch n).link.lead) e.changePoint) force e.changePoint)
    fun x =>
      byCh
        (fun c s => s.sendPatch n e.patch (max (x.S + c.link.lead) e.changePoint) force e.changePoint)
        fun _ => sendPatch _ _ _ _

theorem heldReport (h : HeldState) : ActsOn n fun s => s.heldReport n h :=
  byPatch
    (fun p s =>
      if p.held = .held ∧ h = .clear then
        match p.entry with
        | some e =>
          if e.phase.isSent then s.setPatch n { p with held := h }
          else (s.setPatch n { p with held := h }).sendWaiting n e false
        | none => s.setPatch n { p with held := h }
      else s.setPatch n { p with held := h })
    fun p => by
      refine ite _ ?_ (setPatch _)
      split
      · exact ite _ (setPatch _) ((setPatch _).comp (sendWaiting _ _))
      · exact setPatch _

theorem patchLinkLost : ActsOn n fun s => s.patchLinkLost n :=
  byPatch
    (fun p s =>
      match p.entry with
      | some ⟨patch, cp, .sent due force serial _⟩ =>
        (s.setPatch n
          { p with held := .clear, entry := some ⟨patch, cp, .unconfirmed due force serial⟩ }).patchState
          n .linkLost .unconfirmed ⟨patch, cp, .unconfirmed due force serial⟩
      | _ => s.setPatch n { p with held := .clear })
    fun p => by
      split
      · exact (setPatch _).comp (patchState _ _ _)
      · exact setPatch _

theorem patchStop (s0 : Sample) : ActsOn n (State.patchStop s0 n) :=
  byPatch
    (fun p s =>
      match p.entry with
      | some e =>
        if e.phase.discardedAt s0 then s.setPatch n { p with expected := p.confirmed, entry := none }
        else s
      | none => s)
    fun p => by
      split
      · exact ite _ (setPatch _) skip
      · exact skip

theorem patchResume (target : Nat) (r : Sample) : ActsOn n (State.patchResume target r n) :=
  byCh
    (fun c s =>
      if !c.isRig then s
      else
        let p0 := s.patchOf n
        let p := { p0 with expected := (patchUpTo s.cue.book.cues target n).or p0.expected }
        match p.expected.filter fun x => c.isUp && decide (p.confirmed ≠ some x) with
        | some x => (s.setPatch n p).sendPatch n x r false r
        | none => s.setPatch n (p.settled c.isUp))
    fun c => ite _ skip (byCue
      (fun e s =>
        let p0 := s.patchOf n
        let p := { p0 with expected := (patchUpTo e.book.cues target n).or p0.expected }
        match p.expected.filter fun x => c.isUp && decide (p.confirmed ≠ some x) with
        | some x => (s.setPatch n p).sendPatch n x r false r
        | none => s.setPatch n (p.settled c.isUp))
      fun e => byPatch
        (fun p0 s =>
          let p := { p0 with expected := (patchUpTo e.book.cues target n).or p0.expected }
          match p.expected.filter fun x => c.isUp && decide (p.confirmed ≠ some x) with
          | some x => (s.setPatch n p).sendPatch n x r false r
          | none => s.setPatch n (p.settled c.isUp))
        fun p0 => by
          dsimp only
          split
          · exact (setPatch _).comp (sendPatch _ _ _ _)
          · exact setPatch _)

theorem patchLinkUp : ActsOn n fun s => s.patchLinkUp n :=
  byPatch
    (fun p s =>
      match p.entry with
      | some ⟨patch, cp, .waitingRelease k im dl⟩ =>
        if reached dl s.time.S then s.sendWaiting n ⟨patch, cp, .waitingRelease k im dl⟩ true
        else if p.held = .clear then s.sendWaiting n ⟨patch, cp, .waitingRelease k im dl⟩ false
        else s
      | _ => s)
    fun p =>
      byTime
        (fun x s =>
          match p.entry with
          | some ⟨patch, cp, .waitingRelease k im dl⟩ =>
            if reached dl x.S then s.sendWaiting n ⟨patch, cp, .waitingRelease k im dl⟩ true
            else if p.held = .clear then s.sendWaiting n ⟨patch, cp, .waitingRelease k im dl⟩ false
            else s
          | _ => s)
        fun x => by
          split
          · exact ite _ (sendWaiting _ _) (ite _ (sendWaiting _ _) skip)
          · exact skip

/-! ## Links (07) -/

theorem linkNotice (before : LinkState) (cause : LinkCause) (e : Option (Nat × Nat × Nat × Bool)) :
    ActsOn n fun s => s.linkNotice n before cause e :=
  byTime
    (fun x s => s.offer (.linkState n before (s.ch n).link.state (s.ch n).link.rate cause x.S e))
    fun x =>
      byCh (fun c s => s.offer (.linkState n before c.link.state c.link.rate cause x.S e))
        fun _ => offer _

theorem endTest (r : LinkTest → TestResult) : ActsOn n fun s => s.endTest n r :=
  byCh
    (fun c s =>
      match c.link.test with
      | some t =>
        (s.mapLink n fun l => { l with test := none }).deferredReply 0x34 t.tag
          (.ok false (.testResult (r t) t.began s.time.S))
      | none => s)
    fun c =>
      byTime
        (fun x s =>
          match c.link.test with
          | some t =>
            (s.mapLink n fun l => { l with test := none }).deferredReply 0x34 t.tag
              (.ok false (.testResult (r t) t.began x.S))
          | none => s)
        fun x => by
          split
          · exact (mapLink _).comp (answer _ _ _ _)
          · exact skip

theorem abortTest : ActsOn n (State.abortTest n) := endTest _

theorem endRelay (a : Answer) : ActsOn n fun s => s.endRelay n a :=
  byCh
    (fun c s =>
      match c.link.relay with
      | some r => (s.mapLink n fun l => { l with relay := none }).deferredReply 0x35 r.tag a
      | none => s)
    fun c => by
      split
      · exact (mapLink _).comp (answer _ _ _ _)
      · exact skip

theorem burst : ActsOn n fun s => s.burst n :=
  byTime
    (fun x s =>
      (s.send n .seekBurst).mapLink n fun l => { l with nextBurst := some (x.S + Config.seekInterval) })
    fun _ => (send _ _).comp (mapLink _)

theorem enterSeek (holdEnd : Option Sample) : ActsOn n fun s => s.enterSeek n holdEnd :=
  (mapLink _).comp burst

theorem linkOff : ActsOn n fun s => s.linkOff n := mapLink _

/-- A page sent, with all that it may read. -/
theorem sendPage (k : PageKind) : ActsOn n fun s => s.sendPage n k :=
  choose
    (fun s =>
      ({ kind := k
         toggle := !(s.ch n).link.toggle
         firstSent := s.time.S
         nextRepeat := s.time.S + Config.pageRepeat
         settings := if k = .settings then some (s.settingsPage n) else none } : Page))
    (fun page s =>
      (s.send n (.page page)).mapLink n fun l => { l with page := some page, toggle := page.toggle })
    (fun s t h c p => by
      simp only [c, p, h.time, State.settingsPage, State.deferMark])
    fun _ => (send _ _).comp (mapLink _)

theorem startAttempt (rate : LinkRate) : ActsOn n fun s => s.startAttempt n rate :=
  (mapLink _).comp (sendPage _)

theorem clearUp : ActsOn n fun s => s.setCh n (s.ch n).clearUp :=
  byCh (fun c s => s.setCh n c.clearUp) fun _ => setCh _

/-- A failed attempt, from the channel it leaves. -/
theorem failAttempt (cause : LinkCause) : ActsOn n fun s => s.failAttempt n cause := by
  have after : ActsOn n fun s =>
      if (s.ch n).link.tries < (s.ch n).assigned.linkTries then s.startAttempt n (s.ch n).link.rate
      else
        match (s.ch n).link.rate with
        | .full =>
          ((s.mapLink n fun l => { l with rate := .reduced, tries := 0 }).linkNotice n .training
            .downshift none).startAttempt n .reduced
        | .reduced =>
          (s.enterSeek n (some (s.time.S + Config.seekHold))).linkNotice n .training .exhausted none :=
    byCh
      (fun c s =>
        if c.link.tries < c.assigned.linkTries then s.startAttempt n c.link.rate
        else
          match c.link.rate with
          | .full =>
            ((s.mapLink n fun l => { l with rate := .reduced, tries := 0 }).linkNotice n .training
              .downshift none).startAttempt n .reduced
          | .reduced =>
            (s.enterSeek n (some (s.time.S + Config.seekHold))).linkNotice n .training .exhausted none)
      fun c => by
        refine ite _ (startAttempt _) ?_
        split
        · exact ((mapLink _).comp (linkNotice _ _ _)).comp (startAttempt _)
        · exact byTime
            (fun x s =>
              (s.enterSeek n (some (x.S + Config.seekHold))).linkNotice n .training .exhausted none)
            fun _ => (enterSeek _).comp (linkNotice _ _ _)
  have before : ActsOn n fun s =>
      s.mapLink n fun l =>
        { l with tries := l.tries + 1, lastFailure := some (cause, s.time.S), page := none } :=
    byTime
      (fun x s =>
        s.mapLink n fun l =>
          { l with tries := l.tries + 1, lastFailure := some (cause, x.S), page := none })
      fun _ => mapLink _
  exact before.comp after

theorem leaveUp (cause : LinkCause) : ActsOn n fun s => s.leaveUp n cause := by
  have a : ActsOn n fun s =>
      (((State.abortTest n (s.mapLink n fun l => { l with queue := [] })).endRelay n
        (.refused .aborted .none_))) := ((mapLink _).comp abortTest).comp (endRelay _)
  have b := (a.comp clearUp).comp patchLinkLost
  cases cause with
  | role => exact (b.comp linkOff).comp (linkNotice _ _ _)
  | retrain => exact (b.comp ((mapLink _).comp (startAttempt _))).comp (linkNotice _ _ _)
  | answered => exact (b.comp (enterSeek _)).comp (linkNotice _ _ _)
  | trained => exact (b.comp (enterSeek _)).comp (linkNotice _ _ _)
  | downshift => exact (b.comp (enterSeek _)).comp (linkNotice _ _ _)
  | exhausted => exact (b.comp (enterSeek _)).comp (linkNotice _ _ _)
  | silence => exact (b.comp (enterSeek _)).comp (linkNotice _ _ _)
  | errors => exact (b.comp (enterSeek _)).comp (linkNotice _ _ _)
  | pageTimeout => exact (b.comp (enterSeek _)).comp (linkNotice _ _ _)
  | tooFar => exact (b.comp (enterSeek _)).comp (linkNotice _ _ _)

theorem reseek : ActsOn n (State.reseek n) :=
  byCh (fun c s => if c.inUse then s.enterSeek n none else s) fun _ => ite _ (enterSeek _) skip

theorem sendSettings : ActsOn n fun s => s.sendSettings n :=
  byCh
    (fun c s =>
      if c.isUp then
        (s.send n (.settings c.assigned)).mapLink n fun l =>
          { l with refreshAt := some (s.time.S + Config.settingsRefresh) }
      else s)
    fun c =>
      byTime
        (fun x s =>
          if c.isUp then
            (s.send n (.settings c.assigned)).mapLink n fun l =>
              { l with refreshAt := some (x.S + Config.settingsRefresh) }
          else s)
        fun _ => ite _ ((send _ _).comp (mapLink _)) skip

theorem roleLink (before after : StationRole) : ActsOn n fun s => s.roleLink n before after := by
  refine ite _ ((enterSeek _).comp (linkNotice _ _ _)) (ite _ ?_ skip)
  exact byCh
    (fun c s =>
      if c.isUp then s.leaveUp n .role else (s.linkOff n).linkNotice n c.link.state .role none)
    fun _ => ite _ (leaveUp _) (linkOff.comp (linkNotice _ _ _))

theorem writeStation (a : Assigned) : ActsOn n (State.writeStation a n) :=
  byCh
    (fun c s =>
      (if (decide (c.assigned.role ≠ .unused ∧ a.role = .unused) ||
            decide (c.assigned.kind = .rig ∧ a.kind = .click)) = true then
          ((s.setCh n { c with assigned := a }).roleLink n c.assigned.role a.role).dropPatchRecord n
        else (s.setCh n { c with assigned := a }).roleLink n c.assigned.role a.role).sendSettings n)
    fun c =>
      comp (f := fun s =>
        if (decide (c.assigned.role ≠ .unused ∧ a.role = .unused) ||
            decide (c.assigned.kind = .rig ∧ a.kind = .click)) = true then
          ((s.setCh n { c with assigned := a }).roleLink n c.assigned.role a.role).dropPatchRecord n
        else (s.setCh n { c with assigned := a }).roleLink n c.assigned.role a.role)
        (ite _ (((setCh _).comp (roleLink _ _)).comp dropPatchRecord) ((setCh _).comp (roleLink _ _)))
        sendSettings

theorem seekHoldEnd : ActsOn n (actSeekHoldEnd n) := (mapLink _).comp burst

theorem retrainOne : ActsOn n (State.retrainOne n) :=
  byCh
    (fun c s =>
      match c.link.state with
      | .up => s.leaveUp n .retrain
      | .training =>
        (if c.link.rate = .reduced then
            (s.mapLink n fun l => { l with rate := .full, tries := 0, page := none }).linkNotice n
              .training .retrain none
          else s.mapLink n fun l => { l with rate := .full, tries := 0, page := none }).startAttempt n
          .full
      | .seek => actSeekHoldEnd n s
      | .off => s)
    fun c => by
      split
      · exact leaveUp _
      · exact comp (f := fun s =>
          if c.link.rate = .reduced then
            (s.mapLink n fun l => { l with rate := .full, tries := 0, page := none }).linkNotice n
              .training .retrain none
          else s.mapLink n fun l => { l with rate := .full, tries := 0, page := none })
          (ite _ ((mapLink _).comp (linkNotice _ _ _)) (mapLink _)) (startAttempt _)
      · exact seekHoldEnd
      · exact skip

end ActsOn

/-! ## Acts that put nothing out -/

/-- From `s` to `t` the ports hold and put out the same. -/
def State.SamePorts (s t : State) : Prop := t.port = s.port ∧ t.emitted = s.emitted

theorem State.SamePorts.refl (s : State) : s.SamePorts s := ⟨rfl, rfl⟩

theorem State.SamePorts.trans (s t u : State) (h : s.SamePorts t) (k : t.SamePorts u) : s.SamePorts u :=
  ⟨k.1.trans h.1, k.2.trans h.2⟩

theorem handClicks_ports (b : BeatRecord) (n : Station) (s : State) : s.SamePorts (State.handClicks b n s) := by
  simp only [State.handClicks]
  split <;> exact ⟨rfl, rfl⟩

theorem runLamps_ports (b : BeatRecord) (n : Station) (s : State) : s.SamePorts (State.runLamps b n s) := by
  simp only [State.runLamps]
  split <;> exact ⟨rfl, rfl⟩

theorem countBeat_ports (x : Sample) (n : Station) (s : State) : s.SamePorts (State.countBeat x n s) := by
  simp only [State.countBeat]
  repeat' split
  all_goals exact ⟨rfl, rfl⟩

theorem setLamp_ports (s : State) (n : Station) (k : Lamp) (src : LampSource) (p : LampPattern)
    (d : Sample) : s.SamePorts (s.setLamp n k src p d) := by
  simp only [State.setLamp]
  split <;> exact ⟨rfl, rfl⟩

theorem cueLampChange_ports (old new : List Station) (due : Sample) (n : Station) (s : State) :
    s.SamePorts (State.cueLampChange old new due n s) := by
  simp only [State.cueLampChange]
  repeat' split
  all_goals first | exact setLamp_ports _ _ _ _ _ _ | exact ⟨rfl, rfl⟩

theorem takeEntry_ports (c0 : Sample) (s : State) (e : PatchEntry) :
    s.SamePorts (State.takeEntry c0 s e) := by
  simp only [State.takeEntry]
  repeat' split
  all_goals exact ⟨rfl, rfl⟩

theorem patchResume_ports (target : Nat) (r : Sample) (n : Station) (s : State) :
    s.SamePorts (State.patchResume target r n s) := by
  simp only [State.patchResume]
  repeat' split
  all_goals exact ⟨rfl, rfl⟩

theorem patchStop_ports (s0 : Sample) (n : Station) (s : State) :
    s.SamePorts (State.patchStop s0 n s) := by
  simp only [State.patchStop]
  repeat' split
  all_goals exact ⟨rfl, rfl⟩

/-! ## Acts on every station -/

/-- Acts on every station that put nothing out, put nothing out. -/
theorem forAll_ports {f : Station → State → State} (h : ∀ (n : Station) (s : State), s.SamePorts (f n s))
    (s : State) :
    s.SamePorts (forAll f s) := forAll_rel State.SamePorts .refl .trans f h s

theorem State.handBeat_ports (s : State) (b : BeatRecord) (mute : Bool) :
    s.SamePorts (s.handBeat b mute) := by
  unfold State.handBeat
  have k : s.SamePorts (if mute = true then s else forAll (State.handClicks b) s) := by
    cases mute
    · exact forAll_ports (handClicks_ports b) s
    · exact .refl s
  exact ((k.trans _ _ _ (forAll_ports (runLamps_ports b) _)).trans _ _ _
    (forAll_ports (countBeat_ports b.onset) _))

theorem State.takeEntries_ports (c0 : Sample) (es : List PatchEntry) (s : State) :
    s.SamePorts (State.takeEntries c0 es s) := by
  unfold State.takeEntries
  induction es generalizing s with
  | nil => exact .refl s
  | cons e es ih => exact (takeEntry_ports c0 s e).trans _ _ _ (ih _)

theorem State.stopLamps_ports (s : State) : s.SamePorts s.stopLamps :=
  forAll_ports (fun n t => setLamp_ports t n .stop .show_ (stopLampOf s.ctl.state) t.time.S) s

theorem State.setWarnedFrom_ports (s : State) (old : List Station) (n : Option Nat) (due : Sample) :
    s.SamePorts (s.setWarnedFrom old n due) :=
  forAll_ports (cueLampChange_ports old _ due) (s.mapCue fun c => { c with warned := n })

/-- R26 steps 3 to 5 stay within the pit. -/
theorem State.handBeat_frame (s : State) (b : BeatRecord) (mute : Bool) : s.PitOnly (s.handBeat b mute) := by
  unfold State.handBeat
  have k : s.PitOnly (if mute = true then s else forAll (State.handClicks b) s) := by
    cases mute
    · exact forAll_frame (fun _ => .handClicks b) s
    · exact .refl s
  exact (k.trans (forAll_frame (fun _ => .runLamps b) _)).trans
    (forAll_frame (fun _ => .countBeat b.onset) _)

/-- R26: a station's channel after a beat record has been handed on. -/
theorem State.handBeat_ch (s : State) (b : BeatRecord) (mute : Bool) (n : Station) :
    (s.handBeat b mute).ch n =
      (State.runLamps b n (if mute = true then s else State.handClicks b n s)).ch n := by
  unfold State.handBeat
  rw [forAll_ch fun m => ActsOn.countBeat (n := m) b.onset]
  have c : ∀ t : State, (State.countBeat b.onset n t).ch n = t.ch n := by
    intro t
    simp only [State.countBeat]
    split
    · split <;> simp
    · rfl
  rw [c, forAll_ch fun m => ActsOn.runLamps (n := m) b]
  cases mute
  · refine (ActsOn.runLamps b).readsCh _ _ ?_ (forAll_ch (fun m => .handClicks b) n s)
      (forAll_patchOf (fun m => .handClicks b) n s)
    exact (forAll_frame (fun _ => .handClicks b) s).symm.trans ((ActsOn.handClicks b).frame s)
  · rw [if_pos rfl, if_pos rfl]

/-- R87, R88: the patch entries of a hand-over stay within the pit. -/
theorem State.takeEntries_frame (c0 : Sample) (es : List PatchEntry) (s : State) :
    s.PitOnly (State.takeEntries c0 es s) := by
  unfold State.takeEntries
  induction es generalizing s with
  | nil => exact .refl s
  | cons e es ih => exact ((ActsOn.takeEntry c0 e).frame s).trans (ih _)

/-- R101, R113: the STOP lamps of a change of show state stay within the pit. -/
theorem State.stopLamps_frame (s : State) : s.PitOnly s.stopLamps :=
  forAll_frame (fun _ => .stopLamp s.ctl.state) s

/-- R79: the CUE lamps of a setting of the warned cue stay within the pit. -/
theorem State.setWarnedFrom_frame (s : State) (old : List Station) (n : Option Nat) (due : Sample) :
    (s.mapCue fun c => { c with warned := n }).PitOnly (s.setWarnedFrom old n due) :=
  forAll_frame (fun _ => .cueLampChange old _ due) _

/-- R70, R142: aborting the link tests stays within the pit. -/
theorem abortTests_frame (s : State) : s.PitOnly (forAll State.abortTest s) :=
  forAll_frame (fun _ => .abortTest) s

/-! ## The lamps a show state and a warned cue set -/

/-- R138: a lamp setting changes its station's link while it is UP. -/
theorem State.setLamp_ch (s : State) (n : Station) (k : Lamp) (src : LampSource) (p : LampPattern)
    (d : Sample) :
    (s.setLamp n k src p d).ch n =
      if (s.ch n).link.state = .up then { s.ch n with link := ((s.ch n).link.setLamp k src p d).1 }
      else s.ch n := by
  simp only [State.setLamp, Channel.isUp, decide_eq_true_eq]
  split <;> simp [State.mapLink]

/-- R101, R113: the STOP lamp of each station after a change of show state. -/
theorem State.stopLamps_ch (s : State) (n : Station) :
    s.stopLamps.ch n = (s.ch n).stopLampSet s.ctl.state s.time.S := by
  simp only [State.stopLamps]
  rw [forAll_ch fun m => ActsOn.stopLamp (n := m) s.ctl.state]
  simp only [State.stopLamp, State.setLamp_ch, Channel.stopLampSet]

/-- R79: the CUE lamp of each station after a setting of the warned cue. -/
theorem State.setWarned_ch (s : State) (w : Option Nat) (d : Sample) (n : Station) :
    (s.setWarned w d).ch n =
      if n ∈ s.cue.book.warnList w then (s.ch n).cueLampSet warnPattern d
      else if n ∈ s.cue.book.warnList s.cue.warned then (s.ch n).cueLampSet offPattern d
      else s.ch n := by
  simp only [State.setWarned, State.setWarnedFrom]
  rw [forAll_ch fun m => ActsOn.cueLampChange (n := m) _ _ d]
  simp only [State.cueLampChange]
  split
  · simp only [State.setLamp_ch, Channel.cueLampSet]
    rfl
  · split
    · simp only [State.setLamp_ch, Channel.cueLampSet]
      rfl
    · rfl

theorem State.setWarned_frame (s : State) (w : Option Nat) (d : Sample) :
    (s.mapCue fun c => { c with warned := w }).PitOnly (s.setWarned w d) := s.setWarnedFrom_frame _ _ _

theorem State.setWarned_ports (s : State) (w : Option Nat) (d : Sample) :
    s.SamePorts (s.setWarned w d) := s.setWarnedFrom_ports _ _ _

/-- R138: a lamp setting changes no patch record. -/
theorem State.setLamp_patches (s : State) (n : Station) (k : Lamp) (src : LampSource) (p : LampPattern)
    (d : Sample) : (s.setLamp n k src p d).patches = s.patches := by
  simp only [State.setLamp]
  split <;> rfl

/-- R138: acts on every station that change no patch record. -/
theorem forAll_patches {f : Station → State → State} (hf : ∀ n s, (f n s).patches = s.patches) (s : State) :
    (forAll f s).patches = s.patches :=
  forAll_rel (fun a b => b.patches = a.patches) (fun _ => rfl) (fun _ _ _ h k => k.trans h) f hf s

/-- R101, R113: the STOP lamps change no patch record. -/
theorem State.stopLamps_patches (s : State) : s.stopLamps.patches = s.patches :=
  forAll_patches (fun _ a => a.setLamp_patches _ _ _ _ _) s

/-- R79: a CUE lamp change changes no patch record. -/
theorem cueLampChange_patches (old new : List Station) (due : Sample) (n : Station) (s : State) :
    (State.cueLampChange old new due n s).patches = s.patches := by
  unfold State.cueLampChange
  split
  · exact s.setLamp_patches _ _ _ _ _
  · split
    · exact s.setLamp_patches _ _ _ _ _
    · rfl

/-- R79: the warned cue changes no patch record. -/
theorem State.setWarned_patches (s : State) (w : Option Nat) (d : Sample) :
    (s.setWarned w d).patches = s.patches :=
  (forAll_patches (cueLampChange_patches (s.cue.book.warnList s.cue.warned) (s.cue.book.warnList w) d)
    (s.mapCue fun c => { c with warned := w })).trans rfl

/-! ## The apply of an edit (R60 to R62) -/

/-- R79: the CUE lamp of each station after a setting of the warned cue from an old warn list. -/
theorem State.setWarnedFrom_ch (s : State) (old : List Station) (w : Option Nat) (d : Sample) (n : Station) :
    (s.setWarnedFrom old w d).ch n = (s.ch n).warnSet old (s.cue.book.warnList w) n d := by
  simp only [State.setWarnedFrom]
  rw [forAll_ch fun m => ActsOn.cueLampChange (n := m) old _ d]
  simp only [State.cueLampChange, Channel.warnSet]
  split
  · simp only [State.setLamp_ch, Channel.cueLampSet]
    rfl
  · split
    · simp only [State.setLamp_ch, Channel.cueLampSet]
      rfl
    · rfl

/-- R61: the standby is found again in the new book. -/
theorem CueEngine.findStandby_buffer (c : CueEngine) : c.buffer.findStandby c.standby = c.foundStandby := by
  unfold Book.findStandby CueEngine.foundStandby
  cases c.standby with
  | none => rfl
  | some n =>
    have h : (c.buffer.cue? n).isSome = true ↔ ∃ x ∈ c.buffer.cues, x.number = n := by
      simp [Book.cue?]
    simp only [Option.bind_some, h]

/-- R61: the Cue Engine after an apply. -/
theorem State.applyEdit_cue (s : State) : s.applyEdit.cue = s.cue.committed := by
  have h := CueEngine.findStandby_buffer s.cue
  refine (State.setWarnedFrom_frame _ _ _ _).cue.trans ?_
  show ({ ({ s.cue.replaceBook with
      standby := s.cue.buffer.findStandby s.cue.standby
      barMark := s.cue.buffer.isAtBar (s.cue.buffer.findStandby s.cue.standby) } : CueEngine) with
      warned := s.cue.buffer.findStandby s.cue.standby } : CueEngine) = _
  rw [h]
  rfl

/-- R61, R79: each station after an apply. -/
theorem State.applyEdit_ch (s : State) (n : Station) :
    s.applyEdit.ch n =
      (s.ch n).warnSet (s.cue.book.warnList s.cue.warned) (s.cue.buffer.warnList s.cue.foundStandby) n
        s.time.S := by
  have h := CueEngine.findStandby_buffer s.cue
  refine (State.setWarnedFrom_ch _ _ _ _ n).trans ?_
  show (s.ch n).warnSet _ (s.cue.buffer.warnList (s.cue.buffer.findStandby s.cue.standby)) n s.time.S = _
  rw [h]

end Sys2Proof.Machine
end

