-- ==== Sys2Proof/Tests/Slice0.lean ====
section
/-! SUPPORT. The model's own tests: well-formedness, single steps whose results the manual's tables and
worked sequences give, and one witness for each obligation with hypotheses: states and operands that meet
them, clause by clause. Elaboration is kept to one theorem at a time, which bounds the memory the many
small kernel evaluations take together. -/

set_option Elab.async false

namespace Sys2Proof.Tests

open Sys2Proof.Machine

/-! ## Well-formedness: one ill-formed term for each check -/

theorem test_wf_good : Instr.wellFormed (.go 1 99999) = true := by decide
theorem test_wf_byte : Instr.wellFormed (.status 256) = false := by decide
theorem test_wf_two_bytes : Instr.wellFormed (.lockoutSet 1 65536) = false := by decide
theorem test_wf_cue_number : Instr.wellFormed (.goto 1 16777216) = false := by decide
theorem test_wf_text : Instr.wellFormed (.overlayPutBannerText 1 [256]) = false := by decide
theorem test_wf_long_text :
    Instr.wellFormed (.overlayPutBannerText 1 (List.replicate 251 65)) = false := by decide +kernel
theorem test_wf_patch :
    Instr.wellFormed (.settingsReply 0 false ⟨⟨true, 1, true, false, 8⟩, ⟨false, false, false, false, false⟩,
      ⟨.part, .part⟩⟩ (some ⟨256, 0⟩) .clear) = false := by decide
theorem test_wf_patch_entry :
    RawCue.wf ⟨10, [], 0, 0, 0, 0, 0, [⟨256, 0, 0, 0, 0⟩], [], []⟩ = false := by decide
theorem test_wf_warn_list : RawCue.wf ⟨10, [], 0, 0, 0, 0, 0, [], [0, 0], []⟩ = false := by decide
theorem test_wf_segment : RawSegment.wf ⟨0, 4, 4, 4, 12000, 0, [2, 2], 0⟩ = false := by decide
theorem test_wf_accents : RawSegment.wf ⟨0, 4, 4, 4, 12000, 0, [16], 0⟩ = false := by decide
theorem test_wf_click_values : ClickValues.wf ⟨true, 256, true, false, 8⟩ = false := by decide
theorem test_wf_assigned :
    RawAssigned.wf ⟨1, 256, [], ⟨true, 1, true, false, 8⟩, ⟨false, false, false, false, false⟩, 3, 3⟩
      = false := by decide
theorem test_wf_lamp : RawLamp.wf ⟨0, 0, 65536, 0, 0⟩ = false := by decide
theorem test_wf_format : RawFormat.wf ⟨750, 20000, 7, 256, 160, 90⟩ = false := by decide
theorem test_wf_output :
    RawOutput.wf ⟨true, 0, ⟨true, true, true, true, true, true⟩, 0, 65536, 2⟩ = false := by decide
theorem test_wf_field : RawField.wf ⟨256, 0, 0, 0, true, 0⟩ = false := by decide
theorem test_wf_status_items :
    StatusItems.wf ⟨⟨⟨true, 1, true, false, 8⟩, ⟨false, false, false, false, false⟩, ⟨.part, .part⟩⟩,
      [(⟨0, 0⟩, 256)], none, .clear, []⟩ = false := by decide
theorem test_no_word_spells_a_command : decodeTableWord 8 0xA5 = none := by decide

/-! ## Small states -/

/-- The machine after reset. -/
abbrev s0 : State := State.reset
/-- A state with S set. -/
def at_ (S : Sample) (s : State) : State := s.atS S
/-- A state in a show state. -/
def inShow (x : ShowState) (s : State) : State := s.mapCtl fun c => { c with state := x }
/-- A METERED segment of 4 bars of 4 at 120 beats a minute. -/
def metered : Segment := ⟨.metered, some 4, 4, 4, 12000, none, [], none⟩
/-- A VAMP segment of 2 bars. -/
def vamp : Segment := ⟨.vamp, some 2, 4, 4, 12000, none, [], some .atPassEnd⟩
/-- A TAP segment. -/
def tap : Segment := ⟨.tap, none, 4, 4, 12000, none, [], none⟩
/-- A FREE segment. -/
def free : Segment := ⟨.free, none, 4, 4, 12000, none, [], none⟩
/-- A context at the first beat of a map, at sample 4,800. -/
def ctx (gs : List Segment) : Context := Context.start 1 gs 0 4800
/-- The engine in a context. -/
def playing (c : Context) (s : State) : State := s.mapClick fun e => { e with context := some c }
/-- A cue that plays no map. -/
def cue (n : Nat) : Cue := ⟨n, [65], .manual, .immediate, .silence, 0, [], [], []⟩
/-- A book of two cues in force, the first on standby. -/
def twoCues (s : State) : State :=
  s.mapCue fun c => { c with book := ⟨[cue 10, cue 20], []⟩, standby := some 10 }
/-- A cue in flight. -/
def flying (n x : Nat) (s : State) : State :=
  s.mapCue fun c => { c with inFlight := some ⟨⟨n, .host, 0, none⟩, x⟩ }
/-- Station 1 as a RIG player with its link in a state. -/
def station (x : LinkState) (s : State) : State :=
  s.setCh 0
    { s.ch 0 with
      assigned := { (s.ch 0).assigned with role := .player, kind := .rig }
      link := { (s.ch 0).link with state := x, delay := some 4 } }
/-- Station 1's link changed. -/
def link1 (f : Link → Link) (s : State) : State := s.mapLink 0 f
/-- Station 1 with role MD, and its enables. -/
def md1 (e : MdEnables) (s : State) : State :=
  s.setCh 0 { s.ch 0 with assigned := { (s.ch 0).assigned with role := .md, md := e } }
/-- Station 1's patch record changed. -/
def patch1 (f : PatchRecord → PatchRecord) (s : State) : State := s.setPatch 0 (f (s.patchOf 0))
/-- The Timebase changed. -/
def time1 (f : Timebase → Timebase) (s : State) : State := { s with time := f s.time }
/-- The Control Port changed. -/
def port1 (f : ControlPort → ControlPort) (s : State) : State := { s with port := f s.port }
/-- The field of a next state, and none where there is none. -/
def after {α : Type} (i : Instr) (s : State) (f : State → α) : Option α :=
  match exec i s with
  | .next t => some (f t)
  | .fault _ => none
  | .refused _ => none

theorem admits_s0 : s0.admits 1 := ⟨rfl, by decide, by decide⟩

/-! ## Timebase (01) -/

/-- A switch to the word clock pending. -/
def switching : State := time1 (fun t => { t with pendingSwitch := some .host }) s0
/-- The part in WORD. -/
def inWord : State := time1 (fun t => { t with clockState := .word }) s0
/-- The watch count at 4. -/
def missed (s : State) : State := time1 (fun t => { t with watch := 4 }) s
/-- A rate window that has ended with `k` edges. -/
def windowOf (k : Nat) (s : State) : State :=
  time1 (fun t => { t with windowPosition := 4800, windowEdges := k }) s

theorem witness_SampleClocks :
    inWord.time.clockState = .word ∧
    (s0.time.clockState ≠ .word ∧ s0.time.pendingSwitch = none) ∧
    (switching.time.clockState ≠ .word ∧ switching.time.pendingSwitch = some .host) ∧
    (s0.admits 1 ∧ s0.time.clockState = .internal) ∧ inWord.admits 255 ∧ inWord.time.clockState ≠ .internal :=
  ⟨by decide, by decide, by decide, ⟨admits_s0, by decide⟩, ⟨rfl, by decide, by decide⟩, by decide⟩

theorem witness_WordClockJudged :
    ((missed inWord).time.watch = 4 ∧ (missed inWord).time.edgesAbsent = false ∧
      (missed inWord).time.clockState = .word) ∧
    ((missed s0).time.clockState ≠ .word ∧ (missed s0).time.pendingSwitch = none) ∧
    ((missed switching).time.clockState ≠ .word ∧ (missed switching).time.pendingSwitch ≠ none) ∧
    s0.time.watch ≠ 4 ∧ s0.time.windowPosition < 4800 ∧
    (4752 ≤ (windowOf 4752 s0).time.windowEdges ∧ (windowOf 4752 s0).time.autoSwitch ≠ true) ∧
    ((windowOf 4848 s0).time.windowEdges ≤ 4848 ∧ (windowOf 4848 s0).time.windowSpoiled = false) ∧
    (let s := windowOf 4800 (time1 (fun t => { t with autoSwitch := true, goodRun := 43200 }) s0)
     s.time.autoSwitch = true ∧ s.time.clockState = .internal ∧ s.time.pendingSwitch = none ∧
      s.time.goodRun ≠ 48000 ∧ min 48000 (s.time.goodRun + 4800) = 48000) ∧
    ((windowOf 4751 inWord).time.windowEdges < 4752 ∧ (windowOf 4751 inWord).time.clockState = .word) ∧
    (4848 < (windowOf 4849 s0).time.windowEdges ∧ (windowOf 4849 s0).time.pendingSwitch = none) ∧
    (windowOf 4751 switching).time.pendingSwitch ≠ none := by decide

theorem witness_ClockRequests :
    s0.admits 1 ∧ inWord.admits 255 ∧ switching.admits 1 ∧ inWord.time.clockState = .word ∧
    switching.time.pendingSwitch ≠ none ∧
    (let s := time1 (fun t => { t with goodRun := 48000 }) s0
     s.admits 1 ∧ s.time.clockState ≠ .word ∧ s.time.pendingSwitch = none ∧ s.time.goodRun = 48000) ∧
    s0.time.goodRun ≠ 48000 ∧ s0.time.clockState ≠ .word ∧ s0.time.pendingSwitch = none :=
  ⟨admits_s0, ⟨rfl, by decide, by decide⟩, ⟨rfl, by decide, by decide⟩, rfl, by decide,
    ⟨⟨rfl, by decide, by decide⟩, by decide⟩, by decide, by decide, by decide⟩

/-- A missing-edge jump of 4 has taken S to 104. -/
def jumped : State := time1 (fun t => { t with S := 104, advance := 4 }) s0

theorem witness_SamplesReached :
    (101 ≤ jumped.time.S ∧ jumped.time.S < 101 + jumped.time.advance) ∧
    (100 ≤ jumped.time.S ∧ 100 + jumped.time.advance ≤ jumped.time.S) ∧ s0.time.advance ≤ 1 ∧
    0 ≤ s0.time.S := by decide

theorem witness_BeatPeriods : 2000 ≤ 2000 ∧ 2000 < 40000 ∧ 40000 ≤ 40000 := by decide

theorem witness_SubdivisionPlaces : 2000 ≤ 40000 ∧ 8 ∈ [2, 3, 4, 6, 8] ∧ 1 ≤ 7 ∧ 7 ≤ 8 - 1 := by decide

theorem witness_RampTempos : 15 < 16 ∧ (12000 : Nat) ≠ 16000 := by decide

theorem witness_TapListsAndTempos :
    (1000 + 144000 < 145001) ∧ (8199 < 1000 + 7200) ∧
    (1000 + 7200 ≤ 8200 ∧ 8200 ≤ 1000 + 144000 ∧ [0].length < 4) ∧
    [0, 7200, 14400, 21600].length = 4 ∧ TapsOrdered [0, 7200, 151200] ∧
    2 ≤ [0, 7200, 151200].length ∧ storeTap [0, 7200] 14400 = .stored [0, 7200, 14400] := by
  refine ⟨by decide, by decide, by decide, by decide, ?_, by decide, by decide⟩
  refine ⟨by decide, ?_⟩
  simp [List.isChain_cons_cons]

/-- 01 section 1.4 and R15: the period of 120 beats a minute is 24,000 samples. -/
theorem test_period_120 : beatPeriod 12000 = 24000 * 65536 := by decide
/-- R20: two taps 24,000 samples apart are 120 beats a minute. -/
theorem test_tap_tempo : tapTempo [0, 24000] = 12000 := by decide
/-- R6: four periods without an edge in WORD bring a failover with S moved on by 4. -/
theorem test_failover :
    after .missingEdgeEvent (missed inWord) (fun t => (t.time.S, t.time.clockState)) = some (4, .failover) := by
  decide +kernel
/-- R10: SELECT_WORD without a good word clock is refused NOT_READY. -/
theorem test_select_word :
    after (.clockSelectWord 1) s0 (fun t => t.port.replies.map Reply.tag) = some [1] := by decide +kernel

/-! ## Click Engine (02) -/

theorem witness_BeatRecordsAndMoves :
    (ctx [metered]).segment = some metered ∧ (ctx [metered]).countIn = none ∧
    (Context.build 1 [metered] 4800 4).segment = some metered ∧
    (Context.build 1 [metered] 4800 4).countIn = some ⟨16, 4, 1, 12000⟩ ∧
    ({ ctx [metered] with countIn := some ⟨1, 1, 4, 12000⟩ }.segment = some metered ∧
      { ctx [metered] with countIn := some ⟨1, 1, 4, 12000⟩ }.countIn = some ⟨1, 1, 4, 12000⟩ ∧ (1 : Nat) ≤ 1) ∧
    (metered.kind = .metered ∧ metered.bars = some 4 ∧
      4 * 4 ≤ { ctx [metered] with beatIndex := 15 }.beatIndex + 1) ∧
    (¬ 4 * 4 ≤ { ctx [metered] with beatIndex := 14 }.beatIndex + 1) ∧
    ((ctx [free]).segment = some free ∧ free.kind = .free) ∧
    ((ctx [vamp]).segment = some vamp ∧ vamp.kind = .vamp ∧ vamp.bars = some 2 ∧
      2 * 4 ≤ { ctx [vamp] with beatIndex := 7 }.beatIndex + 1) ∧
    ({ vamp with vampExit := some .atBarEnd }.vampExit = some .atBarEnd ∧ 4 ≤ 4) := by decide

/-- A playing part with nothing else going on. -/
def plays (gs : List Segment) : State := playing (ctx gs) s0

theorem witness_BeatProduced :
    (plays [metered]).click.context = some (ctx [metered]) ∧ (ctx [metered]).segment = some metered ∧
    (plays [metered]).click.moveAt .beat = some 0 ∧ 0 ≤ (plays [metered]).time.S ∧
    (plays [metered]).reports = [] ∧ (∀ bar, (plays [metered]).cue.barCue bar = none) :=
  ⟨by decide, by decide, by decide +kernel, by decide, rfl, fun _ => rfl⟩

theorem witness_ChangePoints :
    s0.click.state.produces = false ∧ (plays [metered]).click.context = some (ctx [metered]) ∧
    (plays [metered]).click.state.produces = true ∧ (plays [metered]).click.holdPoint = none ∧
    (ctx [metered]).segment = some metered ∧ metered.kind = .metered ∧ metered.target = none ∧
    metered.bars = some 4 ∧ (ctx [metered]).countIn = none ∧ (ctx [metered]).moveDue = false ∧
    1 ≤ metered.beatsPerBar ∧ metered.beatsPerBar ≤ 15 ∧
    (ctx [metered]).beatIndex % metered.beatsPerBar + 1 = (ctx [metered]).beatInBar ∧
    (ctx [metered]).beatIndex < 4 * metered.beatsPerBar ∧
    { ctx [metered] with beatIndex := 15, beatInBar := 4 }.beatIndex % metered.beatsPerBar + 1 = 4 := by
  decide

/-- A context past its last segment. -/
def ended : Context := { ctx [metered] with segmentIndex := 1, bar := 5 }
/-- A context that waits for the start of a TAP segment. -/
def nearTap : Context := { ctx [metered, tap] with beatIndex := 16, moveDue := true }
/-- A context that waits for the start of a FREE segment. -/
def nearFree : Context := { ctx [metered, free] with beatIndex := 16, moveDue := true }
/-- Two taps in the list. -/
def twoTaps (s : State) : State := s.mapClick fun e => { e with taps := [0, 24000] }

theorem witness_MapEndsAndSegmentStarts :
    ((playing ended s0).click.context = some ended ∧ (playing ended s0).click.moveAt .mapEnd = some 0 ∧
      (playing ended s0).reports = [] ∧ (playing ended s0).cue.inFlight = none ∧
      (playing ended s0).cue.followCue = none) ∧
    ((playing nearTap s0).click.context = some nearTap ∧ nearTap.segment = some metered ∧
      nearTap.segments[nearTap.segmentIndex + 1]? = some tap ∧ tap.kind = .tap ∧
      nearTap.countIn = none ∧ (playing nearTap s0).click.held = false ∧
      (playing nearTap s0).click.moveAt .start = some 0 ∧ 0 ≤ (playing nearTap s0).time.S ∧
      (playing nearTap s0).click.limit = none ∧ (playing nearTap s0).click.holdPoint = none ∧
      (playing nearTap s0).click.taps.length < 2 ∧
      2 ≤ (twoTaps (playing nearTap s0)).click.taps.length) ∧
    (nearFree.segments[nearFree.segmentIndex + 1]? = some free ∧ free.kind = .free ∧
      (playing nearFree s0).click.moveAt .start = some 0) := by decide +kernel

/-- A hold point, or a returned beat, at 4,800 with S there. -/
def holdAt : State := at_ 4800 (s0.mapClick fun e => { e with holdPoint := some 4800 })
/-- A returned beat of a kind at 4,800 with S there. -/
def returned (k : ReachKind) (x : ShowState) : State :=
  inShow x (at_ 4800 (s0.mapClick fun e => { e with reach := some ⟨k, 4800⟩ }))

theorem witness_HoldsAndReturnsReached :
    (holdAt.click.holdPoint = some 4800 ∧ 4800 ≤ holdAt.time.S) ∧
    ((returned .continued .holding).click.reach = some ⟨.continued, 4800⟩ ∧
      (returned .continued .holding).ctl.state = .holding ∧
      4800 ≤ (returned .continued .holding).time.S) ∧
    ((returned .resumed .resuming).click.reach = some ⟨.resumed, 4800⟩ ∧
      (returned .resumed .resuming).ctl.state = .resuming) ∧
    (returned .continued .running).ctl.state ≠ .holding ∧
    (returned .resumed .running).ctl.state ≠ .resuming := by decide

/-- R26, R32: a count-in of one bar of 4 begins at bar -1 with 4 beats left to sound. -/
theorem test_count_in :
    ((Context.build 1 [metered] 4800 1).record metered).bar = -1 ∧
      ((Context.build 1 [metered] 4800 1).record metered).countdown = some 4 := by decide
/-- R26: the first beat of a map is bar 1 beat 1, DOWN, and the next onset lies 24,000 samples on. -/
theorem test_first_beat :
    after .beatProduction (plays [metered]) (fun t =>
        (t.click.kept.map fun b => (b.onset, b.bar, b.level), t.click.context.map Context.nextOnset))
      = some ([(4800, 1, .down)], some 28800) := by decide +kernel
/-- R36: the map end discards the context. -/
theorem test_map_end : after .mapEnd (playing ended s0) (fun t => t.click.context) = some none := by
  decide +kernel
/-- R34: a STOP in HELD clears the production limit. -/
theorem test_stop_clears_limit :
    after (.stop 1) ((inShow .holding (plays [metered])).mapClick fun e => { e with held := true, limit := some 9600 })
        (fun t => (t.click.held, t.click.limit)) = some (true, none) := by decide +kernel
/-- R24: past the last segment, a VAMP, the pass is 1. -/
theorem test_pass_past_end :
    ({ ctx [vamp] with beatIndex := 7, beatInBar := 4, pass := 3 }.advance true).1.pass = 1 := by
  decide +kernel
/-- R23: the start of a FREE segment comes at its onset. -/
theorem test_free_start :
    after .tapOrFreeSegmentStart (playing nearFree s0) (fun t => t.click.state) = some .free := by
  decide +kernel

/-! ## The show book (03) -/

/-- The edit state set. -/
def editing (x : EditState) (s : State) : State := s.mapCue fun c => { c with edit := x }
/-- A buffer of one cue and two maps, the second incomplete. -/
def buffer : Book := ⟨[cue 10], [⟨1, 1, [metered]⟩, ⟨2, 2, [metered]⟩]⟩
/-- An open edit with a buffer. -/
def editOf (b : Book) : State := editing .openEdit (s0.mapCue fun c => { c with buffer := b })
/-- A carried cue. -/
def rawCue : RawCue := ⟨10, [65], 2, 9999, 2, 257, 4, [⟨24, 127, 127, 1, 16⟩, ⟨1, 0, 0, 0, 1⟩], [0], []⟩
/-- A carried segment. -/
def rawSegment : RawSegment := ⟨0, 999, 15, 16, 40000, 2000, [2], 0⟩

theorem witness_EditRequests :
    s0.admits 1 ∧ s0.cue.edit = .closed ∧ (editing .openEdit s0).cue.edit = .openEdit ∧
    (editing .pendingApply s0).cue.edit = .pendingApply ∧ (editing .openEdit s0).admits 1 ∧
    rawCue.label.length ≤ 12 ∧ rawCue.text.length ≤ 16 ∧ (editing .openEdit s0).cue.edit ≠ .closed :=
  ⟨admits_s0, by decide, by decide, by decide, ⟨rfl, by decide, by decide⟩, by decide, by decide, by decide⟩

theorem witness_CueAndSegmentValues :
    (readCue rawCue).isSome = true ∧ (readCue { rawCue with number := 100000 }).isSome = false ∧
    (readCue { rawCue with countIn := 5 }).map Prod.snd = some true ∧
    (readCue rawCue).map Prod.snd = some false ∧
    (readSegment rawSegment).isSome = true ∧ (readSegment { rawSegment with kind := 4 }).isSome = false ∧
    (readSegment rawSegment).map Prod.snd = some false ∧
    (readSegment { rawSegment with kind := 1, vampExit := 1 }).isSome = true ∧
    (readSegment { rawSegment with kind := 1, vampExit := 2 }).isSome = false ∧
    (readSegment { rawSegment with vampExit := 2 }).isSome = true ∧
    (readSegment { rawSegment with startTempo := 40001 }).map Prod.snd = some true := by decide +kernel

theorem witness_CueAndMapEdits :
    (editOf buffer).admits 1 ∧ (editOf buffer).cue.edit = .openEdit ∧
    (readCue { rawCue with number := 0 } = none ∧ (readCue rawCue).isSome = true ∧
      (insertCue (cue 10) (editOf buffer).cue.buffer.cues).length ≤ 1024 ∧
      entryCount (insertCue (cue 10) (editOf buffer).cue.buffer.cues) ≤ 8192) ∧
    1024 < (insertCue (cue 9) ((List.range 1024).map fun k => cue (k + 10))).length ∧
    (editOf buffer).cue.buffer.cues.all (fun c => decide (c.number = 10)) = true ∧
    (readSegments [rawSegment]).isSome = true ∧ 255 ≤ 255 ∧
    declaredTotal (insertMap ⟨255, 64, []⟩ (editOf buffer).cue.buffer.maps) ≤ 4096 ∧
    4096 < declaredTotal (insertMap ⟨255, 64, []⟩ ((List.range 64).map fun k => ⟨k, 64, []⟩)) ∧
    (1 ≤ 64 ∧ (65 : Nat) > 64) ∧
    ((editOf buffer).cue.buffer.map? 2 = some ⟨2, 2, [metered]⟩ ∧ 1 + 1 ≤ 2) ∧
    (editOf buffer).cue.buffer.map? 3 = none ∧ (255 < 256 ∧ readSegment { rawSegment with kind := 4 } = none) :=
  ⟨⟨rfl, by decide, by decide⟩, by decide, by decide +kernel, by decide +kernel, by decide, by decide +kernel,
    by decide, by decide, by decide +kernel, by decide, by decide, by decide, by decide +kernel⟩

theorem witness_CommitRequestsJudged :
    (editOf buffer).admits 1 ∧ (editOf buffer).cue.edit = .openEdit ∧
    ((editOf buffer).cue.buffer.maps = [⟨1, 1, [metered]⟩] ++ ⟨2, 2, [metered]⟩ :: [] ∧
      [metered].length = 1 ∧ [metered].length ≠ 2) ∧
    (let b : Book := ⟨[cue 10, { cue 20 with mapRef := .map 7 }], [⟨1, 1, [metered]⟩]⟩
     (editOf b).cue.buffer.Complete ∧
      (editOf b).cue.buffer.cues = [cue 10] ++ { cue 20 with mapRef := .map 7 } :: [] ∧
      (∀ m ∈ (editOf b).cue.buffer.maps, m.number ≠ 7)) ∧
    (let b : Book := ⟨[{ cue 10 with mapRef := .map 1 }], [⟨1, 1, [metered]⟩]⟩
     (editOf b).cue.buffer.Complete ∧ (∃ m ∈ (editOf b).cue.buffer.maps, m.number = 1) ∧
      (editOf b).cue.inFlight = none ∧ (editOf b).cue.queued = none ∧
      (flying 10 9600 (editOf b)).cue.inFlight ≠ none) := by
  refine ⟨⟨rfl, by decide, by decide⟩, by decide, by decide, ⟨?_, by decide, by decide⟩,
    ⟨?_, by decide, by decide, by decide, by decide⟩⟩ <;> unfold Book.Complete <;> decide

theorem witness_BookQueries :
    s0.admits 1 ∧ (0 = 0 ∧ s0.cue.book = s0.cue.book) ∧ (editOf buffer).cue.edit ≠ .closed ∧
    (editOf buffer).admits 1 ∧ s0.cue.edit = .closed ∧ 2 ≤ 2 :=
  ⟨admits_s0, by decide, by decide, ⟨rfl, by decide, by decide⟩, by decide, by decide⟩

/-- R55: BEGIN_EDIT opens the edit. -/
theorem test_begin_edit : after (.beginEdit 1) s0 (fun t => t.cue.edit) = some .openEdit := by
  decide +kernel
/-- R56: PUT_CUE keeps the buffer in number order. -/
theorem test_put_cue :
    after (.putCue 1 { rawCue with number := 5 }) (editOf buffer)
        (fun t => t.cue.buffer.cues.map Cue.number) = some [5, 10] := by decide +kernel
/-- R57: a map declared with 2 segments takes its second. -/
theorem test_put_map :
    after (.putMap 1 2 1 2 [rawSegment]) (editOf buffer)
        (fun t => t.cue.buffer.maps.map fun m => m.segments.length) = some [1, 2] := by decide +kernel
/-- R58: a commit of a buffer with an incomplete map names it. -/
theorem test_commit_incomplete :
    after (.commitEdit 1) (editOf buffer) (fun t => t.port.replies.map Reply.answer)
      = some [.refused .badValue (.map 2)] := by decide +kernel

/-! ## Firing (04) -/

/-- Two cues in the book, in a show state. -/
def show2 (x : ShowState) : State := inShow x (twoCues s0)
/-- A cue in the queued slot. -/
def queueing (s : State) : State := s.mapCue fun c => { c with queued := some ⟨20, .host, 0, none⟩ }
/-- A lockout end. -/
def lockedTo (x : Sample) (s : State) : State := s.mapCue fun c => { c with lockoutEnd := some x }
/-- The first cue's change point kind set. -/
def nextBeat (s : State) : State :=
  s.mapCue fun c => { c with book := ⟨[{ cue 10 with changeKind := .nextBeat }, cue 20], []⟩ }

theorem witness_CallsRefused :
    (show2 .dark).admits 1 ∧ 99999 < 100000 ∧
    (0 ≤ 99999 ∧ ((show2 .running).cue.standby.bind (show2 .running).cue.book.cue?).isSome = true) ∧
    (1 ≤ 10 ∧ (show2 .running).cue.book.cue? 10 = some (cue 10)) ∧
    ((show2 .dark).ctl.state ≠ .preshow ∧ (show2 .dark).ctl.state ≠ .running) ∧
    ((lockedTo 1 (show2 .running)).cue.lockoutEnd = some 1 ∧ (lockedTo 1 (show2 .running)).time.S < 1) ∧
    (show2 .running).cue.book.cue? 15 = none ∧
    ((queueing (flying 10 9600 (show2 .running))).cue.inFlight ≠ none ∧
      (queueing (flying 10 9600 (show2 .running))).cue.queued ≠ none) :=
  ⟨⟨rfl, by decide, by decide⟩, by decide, by decide, by decide, by decide, by decide, by decide, by decide⟩

/-- A playing part in PRESHOW whose first cue changes at the next beat, 28,800. -/
def later : State :=
  playing { ctx [metered] with acc := 28800 * 65536, beatIndex := 1, beatInBar := 2 }
    (nextBeat (show2 .preshow))

theorem witness_CallsFire :
    later.admits 1 ∧ later.reports = [] ∧ (show2 .preshow).admits 1 ∧
    (later.cue.standby.bind later.cue.book.cue? = some { cue 10 with changeKind := .nextBeat } ∧
      (10 = 0 ∨ (cue 10).number = 10)) ∧
    (lockedTo 0 (show2 .running)).cue.lockoutEnd = some 0 ∧ 0 ≤ (lockedTo 0 (show2 .running)).time.S ∧
    ((flying 10 9600 (show2 .running)).cue.inFlight ≠ none ∧
      (flying 10 9600 (show2 .running)).cue.queued = none) ∧
    (later.cue.inFlight = none ∧
      later.time.S + 4800 < later.click.changePoint (later.time.S + 4800) .nextBeat) ∧
    ((show2 .preshow).click.changePoint 4800 .immediate ≤ (show2 .preshow).time.S + 4800 ∧
      (show2 .preshow).cue.edit ≠ .pendingApply ∧
      (some 20).bind (show2 .preshow).cue.book.cue? = some (cue 20) ∧ (cue 20).goMode = .manual) :=
  ⟨⟨rfl, by decide, by decide⟩, rfl, ⟨rfl, by decide, by decide⟩, by decide +kernel, by decide, by decide,
    by decide, by decide +kernel, by decide +kernel⟩

/-- A cue in flight to a limit at 4,800, with a book. -/
def limited (b : Book) : State :=
  flying 10 4800
    (((inShow .running s0).mapCue fun c => { c with book := b }).mapClick
      fun e => { e with limit := some 4800 })

theorem witness_HandOvers :
    (let s := limited ⟨[cue 10, cue 20], []⟩
     s.click.limit = some 4800 ∧ 4800 ≤ s.time.S + 4800 ∧ s.reports = [] ∧
      s.cue.inFlight = some ⟨⟨10, .host, 0, none⟩, 4800⟩ ∧ s.cue.book.cue? 10 = some (cue 10) ∧
      s.cue.standby = none ∧ s.cue.queued = none ∧ s.cue.edit ≠ .pendingApply ∧
      (cue 10).mapRef = .silence ∧ s.port.mask.getLsbD 0 = true ∧ s.port.notices.length < 32 ∧
      (editing .pendingApply s).cue.edit = .pendingApply ∧
      (queueing s).cue.queued = some ⟨20, .host, 0, none⟩ ∧ s.cue.book.cue? 20 = some (cue 20)) ∧
    (let c : Cue := { cue 10 with mapRef := .map 1, entries := [⟨0, ⟨0, 5⟩, .now, 1⟩] }
     let s := station .up (limited ⟨[c], [⟨1, 1, [metered]⟩]⟩)
     s.cue.book.cue? 10 = some c ∧ s.cue.book.segments 1 ≠ [] ∧ (s.ch 0).isRig = true) := by
  decide +kernel

/-- The hand-over of a cue with map reference CONTINUE, in a context of the engine. -/
def keeping (c : Option Context) : State :=
  (limited ⟨[{ cue 10 with mapRef := .keep }], []⟩).mapClick fun e => { e with context := c }
/-- The engine with its production limit cleared. -/
def freed (s : State) : ClickEngine := { s.click with limit := none }

/-- R35: CONTINUE with nothing due, a beat due, the map end due, and a FREE or TAP segment due with and without taps. -/
theorem witness_HandOvers_keep :
    ((keeping none).cue.book.cue? 10 = some { cue 10 with mapRef := .keep } ∧
      (keeping none).takenAt (4800 - 4800) + 4800 = 4800 ∧ (freed (keeping none)).next = none) ∧
    (freed (keeping (some (ctx [metered])))).next = some (.beat, 4800) ∧
    ((freed (keeping (some ended))).next = some (.mapEnd, 4800) ∧
      (keeping none).port.mask.getLsbD 2 = true ∧ (keeping none).port.notices.length < 31) ∧
    ((freed (keeping (some nearTap))).next = some (.start, 4800) ∧ nearTap.countIn = none ∧
      nearTap.segments[nearTap.segmentIndex + 1]? = some tap ∧ (keeping (some nearTap)).click.taps.length < 2 ∧
      2 ≤ (twoTaps (keeping (some nearTap))).click.taps.length) ∧
    ((freed (keeping (some nearFree))).next = some (.start, 4800) ∧
      nearFree.segments[nearFree.segmentIndex + 1]? = some free) := by decide +kernel

/-- R32, R35, R41: a map started with no count-in, with four bars of it and a hold pending, and by a TAP segment. -/
theorem witness_HandOvers_maps :
    (∀ g ∈ [metered, tap], ∀ k ∈ [0, 4],
      let c : Cue := { cue 10 with mapRef := .map 1, countIn := k }
      let s := limited ⟨[c], [⟨1, 1, [g]⟩]⟩
      s.cue.book.cue? 10 = some c ∧ (s.cue.book.segments 1).head? = some g ∧ s.click.held = false ∧
        4800 ≤ s.takenAt (4800 - 4800) + 4800 ∧ k ≤ 4 ∧ 1 ≤ g.beatsPerBar ∧ g.beatsPerBar ≤ 15 ∧
        2000 ≤ g.startTempo ∧ g.startTempo ≤ 40000 ∧ s.click.holdPoint = none) ∧
    ((limited ⟨[cue 10], []⟩).mapClick fun e => { e with holdPoint := some 9600 }).click.holdPoint ≠ none ∧
    (metered.kind = .metered ∧ tap.kind = .tap) := by decide +kernel

/-- A context past its last segment with a FOLLOW standby, in a show state. -/
def follows (x : ShowState) : State :=
  playing ended
    ((inShow x s0).mapCue fun c =>
      { c with book := ⟨[{ cue 10 with goMode := .follow }, cue 20], []⟩, standby := some 10 })
/-- A first beat with an AT_BAR standby for bar 1, in a show state. -/
def atBar (x : ShowState) : State :=
  playing (ctx [metered])
    ((inShow x s0).mapCue fun c =>
      { c with
        book := ⟨[cue 5, { cue 10 with goMode := .atBar 1 }], []⟩, standby := some 10, barMark := true })

theorem witness_AutomaticCalls :
    ((follows .running).click.context = some ended ∧ (follows .running).reports = [] ∧
      (follows .running).click.moveAt .mapEnd = some 0 ∧ (follows .running).cue.inFlight = none ∧
      (follows .running).cue.queued = none ∧
      (follows .running).cue.standby.bind (follows .running).cue.book.cue? =
        some { cue 10 with goMode := .follow } ∧
      (follows .running).cue.book.isAtBar (some 20) = false ∧
      (follows .running).port.mask.getLsbD 0 = true ∧ (follows .running).port.notices.length + 1 < 32) ∧
    ((atBar .running).click.moveAt .beat = some 0 ∧ (ctx [metered]).barReached metered = some (1, 1) ∧
      (atBar .running).cue.barCue 1 = some { cue 10 with goMode := .atBar 1 } ∧
      (flying 5 9600 (atBar .running)).cue.inFlight ≠ none ∧
      (flying 5 9600 (atBar .running)).cue.queued = none) ∧
    ((atBar .running).ctl.state = .running ∧ (atBar .running).cue.inFlight = none ∧
      (atBar .running).cue.queued = none ∧ (atBar .running).cue.edit ≠ .pendingApply ∧
      (atBar .running).cue.book.numberAfter 10 = none ∧
      4800 + 4800 < ClickEngine.changePoint
        { (atBar .running).click with
          context := some { (ctx [metered]).advance false |>.1 with lastOnset := some 4800 } } 9600 .nextBar ∧
      (atBar .running).click.changePoint 4800 .immediate ≤ 4800) ∧
    (atBar .holding).ctl.state ≠ .running ∧
    (queueing (flying 5 9600 (atBar .running))).cue.queued ≠ none := by decide +kernel

/-- The silence timer at its end, in a show state. -/
def silent (x : ShowState) : State := at_ 144000 (inShow x s0)

theorem witness_LockoutReleaseSilence :
    s0.admits 1 ∧
    ((plays [vamp]).click.context = some (ctx [vamp]) ∧ vamp.kind = .vamp ∧
      (ctx [vamp]).segments[(ctx [vamp]).currentIndex]? = some vamp) ∧
    ((ctx [metered, vamp]).segments[(ctx [metered, vamp]).currentIndex + 1]? = some vamp) ∧
    s0.click.context = none ∧
    ((silent .running).ctl.silenceEnd = some 144000 ∧ 144000 ≤ (silent .running).time.S ∧
      (silent .running).cue.mode = .remote ∧ (silent .running).ctl.silenceLimit ≠ 0 ∧
      (silent .running).ctl.state ≠ .dark) ∧
    (silent .dark).ctl.state = .dark :=
  ⟨admits_s0, by decide, by decide, by decide, by decide, by decide⟩

/-- R66, R68: a GO fires the standby, moves it on and locks out calls for 300 ms. -/
theorem test_go :
    after (.go 1 0) (show2 .preshow) (fun t =>
        (t.cue.running.map RunningCue.number, t.cue.standby, t.cue.lockoutEnd, t.ctl.state))
      = some (some 10, some 20, some 14400, .running) := by decide +kernel
/-- R67: a GOTO of a cue the book lacks is NOT_FOUND. -/
theorem test_goto_not_found :
    after (.goto 1 15) (show2 .running) (fun t => t.port.replies.map Reply.answer)
      = some [.refused .notFound .none_] := by decide +kernel
/-- R71: the FOLLOW standby is fired at the map end. -/
theorem test_follow :
    after .mapEnd (follows .running) (fun t => t.cue.running.map RunningCue.number) = some (some 10) := by
  decide +kernel
/-- R70, R72: an AT_BAR standby with nothing in flight is fired at its downbeat and handed over at once. -/
theorem test_bar_call :
    after .beatProduction (atBar .running) (fun t => (t.cue.running.map RunningCue.number, t.cue.barMark))
      = some (some 10, false) := by decide +kernel
/-- R80: silence in RUNNING enters LOCAL. -/
theorem test_silence : after .silenceEnd (silent .running) (fun t => t.cue.mode) = some .local_ := by
  decide +kernel

/-! ## Patch changes (05) -/

/-- A patch entry for station 1. -/
def entry1 (k : PatchPolicy) : PatchEntry := ⟨0, ⟨0, 5⟩, k, 2⟩
/-- Station 1 as a RIG with its link UP. -/
def rig : State := station .up s0
/-- A pending entry at station 1, at a sample. -/
def pends (x : PendingPhase) (s : State) : State :=
  patch1 (fun p => { p with expected := some ⟨0, 5⟩, entry := some ⟨⟨0, 5⟩, 9600, x⟩ }) s
/-- Station 1 holds notes. -/
def holds (s : State) : State := patch1 (fun p => { p with held := .held }) s

theorem witness_PatchEntriesTaken :
    ¬ (((s0.ch 0).assigned.role = .player ∨ (s0.ch 0).assigned.role = .md) ∧
      (s0.ch 0).assigned.kind = .rig) ∧
    (((rig.ch 0).assigned.role = .player ∧ (rig.ch 0).assigned.kind = .rig) ∧ (rig.ch 0).link.state = .up) ∧
    ((station .seek s0).ch 0).link.state ≠ .up ∧
    (let s := patch1 (fun p => { p with confirmed := some ⟨0, 5⟩ }) rig
     (s.patchOf 0).entry = none ∧ (s.patchOf 0).confirmed = some (entry1 .now).patch) ∧
    ((rig.patchOf 0).confirmed ≠ some (entry1 .now).patch ∧ (entry1 .now).policy = .now ∧
      (rig.patchOf 0).held = .clear) ∧
    ((entry1 .onRelease).policy = .onRelease ∧ ((holds rig).patchOf 0).held = .held) := by
  decide +kernel

theorem witness_PatchTimers :
    (let s := at_ 33600 (pends (.waitingRelease 1 33600 none) rig)
     33600 ≤ s.time.S ∧ (s.patchOf 0).entry = some ⟨⟨0, 5⟩, 9600, .waitingRelease 1 33600 none⟩ ∧
      s.click.state = .silent) ∧
    (let s := at_ 33600 (pends (.waitingRelease 0 57600 (some 33600)) rig)
     33600 ≤ s.time.S ∧
      (s.patchOf 0).entry = some ⟨⟨0, 5⟩, 9600, .waitingRelease 0 57600 (some 33600)⟩ ∧
      (s.ch 0).link.state = .up) ∧
    (let s := at_ 33600 (pends (.waitingRelease 0 57600 (some 33600)) (station .seek s0))
     (s.patchOf 0).entry = some ⟨⟨0, 5⟩, 9600, .waitingRelease 0 57600 (some 33600)⟩ ∧
      (s.ch 0).link.state ≠ .up) ∧
    (let s := at_ 12000 (pends (.sent 9600 false 1 12000) rig)
     12000 ≤ s.time.S ∧ (s.patchOf 0).entry = some ⟨⟨0, 5⟩, 9600, .sent 9600 false 1 12000⟩) := by
  decide +kernel

theorem witness_PatchReports :
    ((station .seek s0).ch 0).link.state ≠ .up ∧ (rig.ch 0).link.state = .up ∧
    (.clear = (rig.patchOf 0).held ∧ (rig.patchOf 0).entry = none) ∧
    (let s := pends (.sent 9600 false 255 12000) rig
     .clear = (s.patchOf 0).held ∧
      (s.patchOf 0).entry = some ⟨⟨0, 5⟩, 9600, .sent 9600 false 255 12000⟩) ∧
    (let s := pends (.unconfirmed 9600 false 0) rig
     (s.patchOf 0).entry = some ⟨⟨0, 5⟩, 9600, .unconfirmed 9600 false 0⟩) ∧
    (let s := holds (pends (.waitingRelease 2 33600 none) rig)
     (s.ch 0).link.state = .up ∧ (s.patchOf 0).held = .held ∧
      (s.patchOf 0).entry = some ⟨⟨0, 5⟩, 9600, .waitingRelease 2 33600 none⟩) := by decide +kernel

/-- A report of a station. -/
def report : StationReport :=
  ⟨⟨true, 1, true, false, 8⟩, ⟨false, false, false, false, false⟩, ⟨.part, .part⟩⟩

/-- R92: the PATCH_DONE of the serial sent confirms the patch and removes the entry. -/
theorem test_patch_done :
    after (.statusFrame 0 ⟨report, [(⟨0, 5⟩, 1)], none, .clear, []⟩)
        (pends (.sent 9600 false 1 12000) rig)
        (fun t => ((t.patchOf 0).confirmed, (t.patchOf 0).entry)) = some (some ⟨0, 5⟩, none) := by
  decide +kernel
/-- R89: a beat after the change point moves the idle mark of an entry whose beats have run out. -/
theorem test_idle_mark_moves :
    ((pends (.waitingRelease 0 33600 none) rig).patchOf 0 |>.counted 28800).entry.map PendingEntry.phase
      = some (.waitingRelease 0 52800 none) := by decide +kernel
/-- R91: without an acknowledgement by its end the entry is UNCONFIRMED. -/
theorem test_ack_timeout :
    after (.ackTimeout 0) (at_ 12000 (pends (.sent 9600 false 1 12000) rig))
        (fun t => (t.patchOf 0).entry.map PendingEntry.phase) = some (some (.unconfirmed 9600 false 1)) := by
  decide +kernel

/-! ## Show state, holds and show stops (06) -/

/-- The stop line asserted in LEVEL. -/
def asserted (s : State) : State :=
  s.mapCtl fun c => { c with qualifier := .qualified, lineActive := true }
/-- A hold or a continue pending. -/
def heldAt (s : State) : State := s.mapCtl fun c => { c with holdPending := some ⟨28800, .host⟩ }
/-- A continue pending. -/
def continuing (s : State) : State :=
  s.mapCtl fun c => { c with continuePending := some ⟨4800, 0, .host⟩ }

theorem witness_StartPreshow :
    s0.admits 1 ∧ (show2 .running).ctl.state ≠ .dark ∧ s0.cue.book.cues = [] ∧
    ((show2 .dark).ctl.state = .dark ∧ (show2 .dark).cue.book.cues = [cue 10, cue 20]) ∧
    ((asserted (show2 .dark)).ctl.lineMode = .level ∧
      (asserted (show2 .dark)).ctl.qualifier = .qualified) ∧
    ((show2 .dark).ctl.qualifier ≠ .qualified ∧ (show2 .dark).ctl.qualifier ≠ .releasing) ∧
    (show2 .dark).admits 255 :=
  ⟨admits_s0, by decide, by decide, by decide, by decide, by decide, ⟨rfl, by decide, by decide⟩⟩

/-- A show state with the engine playing. -/
def onAir (gs : List Segment) (x : ShowState) : State := inShow x (plays gs)

theorem witness_HoldRequestsJudged :
    (onAir [metered] .running).admits 1 ∧ s0.ctl.state ≠ .running ∧
    ((onAir [metered] .running).ctl.state = .running ∧ (onAir [metered] .running).ctl.holdPending = none) ∧
    (heldAt (onAir [metered] .running)).ctl.holdPending = some ⟨28800, .host⟩ ∧
    s0.click.state.produces = false ∧
    ((onAir [metered] .running).click.context = some (ctx [metered]) ∧
      (onAir [metered] .running).click.state.produces = true ∧
      (onAir [metered] .running).click.limit = none ∧ (ctx [metered]).segment = some metered ∧
      metered.kind = .metered ∧ metered.target = none ∧ metered.bars = some 4 ∧
      (ctx [metered]).countIn = none ∧ (ctx [metered]).moveDue = false ∧ 1 ≤ metered.beatsPerBar ∧
      metered.beatsPerBar ≤ 15 ∧
      (ctx [metered]).beatIndex % metered.beatsPerBar + 1 = (ctx [metered]).beatInBar ∧
      (ctx [metered]).beatIndex < 4 * metered.beatsPerBar) :=
  ⟨⟨rfl, by decide, by decide⟩, by decide, by decide, by decide, by decide, by decide⟩

theorem witness_ContinueRequestsJudged :
    (onAir [metered] .holding).admits 1 ∧ (onAir [metered] .holding).reports = [] ∧
    s0.ctl.state ≠ .holding ∧
    ((continuing (onAir [metered] .holding)).ctl.state = .holding ∧
      (continuing (onAir [metered] .holding)).ctl.continuePending = some ⟨4800, 0, .host⟩) ∧
    ((onAir [metered] .holding).ctl.continuePending = none ∧
      (onAir [metered] .holding).click.context = some (ctx [metered]) ∧
      (ctx [metered]).segment = some metered ∧ metered.kind = .metered ∧
      (ctx [metered]).moveDue = false ∧ 1 ≤ metered.beatsPerBar ∧
      (onAir [metered] .holding).click.limit = none ∧
      (onAir [metered] .holding).click.holdPoint = none) ∧
    ((inShow .holding s0).click.context = none) ∧
    ((onAir [free] .holding).click.context = some (ctx [free]) ∧ (ctx [free]).segment = some free ∧
      free.kind = .free) ∧
    ((ctx [tap]).segment = some tap ∧ tap.kind = .tap ∧ (ctx [tap]).tapPlaced = false) ∧
    ({ ctx [tap] with tapPlaced := true }.tapPlaced = true ∧ (ctx [tap]).moveDue = false) ∧
    ((playing ended (inShow .holding s0)).click.context = some ended ∧ ended.segment = none ∧
      (playing ended (inShow .holding s0)).admits 1 ∧
      (playing ended (inShow .holding s0)).ctl.continuePending = none) :=
  ⟨⟨rfl, by decide, by decide⟩, rfl, by decide, by decide, by decide, by decide, by decide, by decide,
    by decide, ⟨by decide, by decide, ⟨rfl, by decide, by decide⟩, by decide⟩⟩

/-- The line's qualifier set. -/
def qualifier (q : Qualifier) (s : State) : State := s.mapCtl fun c => { c with qualifier := q }
/-- The line's qualification time set. -/
def qualifyIn (ms : Nat) (s : State) : State := s.mapCtl fun c => { c with qualifyMs := ms }
/-- The qualifier's timer at its end. -/
def timed (q : Qualifier) (s : State) : State :=
  at_ 960 ((qualifier q s).mapCtl fun c => { c with timerEnd := some 960 })
/-- A stop record of the host. -/
def stopRecord : StopRecord := ⟨⟨true, false, false⟩, .host, 0, .running, some 10, none, some 20, none⟩
/-- A stopped show. -/
def stopped (s : State) : State := (inShow .stopped s).mapCtl fun c => { c with stopRecord := some stopRecord }
/-- A stopped show whose record holds every cause. -/
def stoppedByAll (s : State) : State :=
  (inShow .stopped s).mapCtl fun c =>
    { c with stopRecord := some { stopRecord with causes := ⟨true, true, true⟩ } }

theorem witness_StopTaken :
    (show2 .running).ctl.state ≠ .dark ∧ (show2 .running).ctl.state ≠ .stopped ∧
    (show2 .running).cue.edit ≠ .pendingApply ∧ (show2 .running).admits 1 ∧
    ((qualifyIn 0 (show2 .running)).ctl.qualifier = .idle ∧
      (qualifyIn 0 (show2 .running)).ctl.qualifyMs = 0) ∧
    ((timed .qualifying (show2 .running)).ctl.qualifier = .qualifying ∧
      (timed .qualifying (show2 .running)).ctl.timerEnd = some 960 ∧
      960 ≤ (timed .qualifying (show2 .running)).time.S) ∧
    ((asserted (show2 .running)).admits 1 ∧ (asserted (show2 .running)).ctl.lineActive = true ∧
      (asserted (show2 .running)).ctl.state = .running ∧
      (asserted (show2 .running)).cue.edit ≠ .pendingApply) ∧
    ((queueing (flying 10 9600 (show2 .running))).cue.inFlight ≠ none ∧
      (queueing (flying 10 9600 (show2 .running))).ctl.state = .running ∧
      (editing .pendingApply (flying 10 9600 (show2 .running))).cue.edit = .pendingApply) :=
  ⟨by decide, by decide, by decide, ⟨rfl, by decide, by decide⟩, by decide, by decide,
    ⟨⟨rfl, by decide, by decide⟩, by decide⟩, by decide⟩

theorem witness_StopLine :
    (s0.ctl.qualifier = .idle ∧ s0.ctl.qualifyMs ≠ 0) ∧
    ((qualifyIn 0 s0).ctl.qualifier = .idle ∧ (qualifyIn 0 s0).ctl.qualifyMs = 0 ∧
      (qualifyIn 0 s0).ctl.state = .dark) ∧
    ((stopped s0).ctl.state = .stopped ∧ (stopped s0).ctl.stopRecord = some stopRecord ∧
      stopRecord.causes.line = false ∧ stopRecord.causes.host = true) ∧
    ((timed .qualifying s0).ctl.timerEnd = some 960 ∧ 960 ≤ (timed .qualifying s0).time.S ∧
      (timed .qualifying s0).ctl.qualifier = .qualifying) ∧
    (timed .releasing s0).ctl.qualifier = .releasing ∧
    ((asserted s0).ctl.qualifier = .qualified ∧ (asserted s0).ctl.lineActive = true ∧
      (asserted s0).ctl.qualifyMs ≠ 0) ∧
    (qualifyIn 0 (asserted s0)).ctl.qualifyMs = 0 ∧
    (s0.admits 1 ∧ s0.ctl.lineActive = false ∧ 1 < 2 ∧ min 255 256 = 255) ∧
    ((asserted s0).admits 1 ∧ (asserted s0).ctl.lineActive = true ∧ (asserted s0).ctl.state = .dark) ∧
    ((stopped (asserted s0)).admits 1 ∧ (stopped (asserted s0)).ctl.lineActive = true ∧
      (stopped (asserted s0)).ctl.state = .stopped ∧
      (stopped (asserted s0)).ctl.stopRecord = some stopRecord ∧ stopRecord.causes.line = false) ∧
    ((stoppedByAll (asserted s0)).ctl.state = .stopped ∧
      (stoppedByAll (asserted s0)).ctl.stopRecord.map (fun r => (r.causes.line, r.causes.host)) =
        some (true, true)) ∧
    ((asserted (show2 .running)).ctl.lineActive = true ∧ (asserted (show2 .running)).ctl.state ≠ .dark ∧
      (asserted (show2 .running)).ctl.state ≠ .stopped) :=
  ⟨by decide, by decide, by decide, by decide, by decide, by decide, by decide,
    ⟨admits_s0, by decide, by decide, by decide⟩, ⟨⟨rfl, by decide, by decide⟩, by decide⟩,
    ⟨⟨rfl, by decide, by decide⟩, by decide⟩, by decide, by decide⟩

/-- A stopped show whose cue 10 plays a map of METERED. -/
def stoppedBook : State :=
  stopped ((s0.mapCue fun c =>
    { c with book := ⟨[{ cue 10 with mapRef := .map 1 }, cue 20], [⟨1, 1, [metered]⟩]⟩ }))

theorem witness_ResumeRequestsJudged :
    s0.admits 1 ∧ s0.reports = [] ∧ s0.ctl.state ≠ .stopped ∧
    ((stopped (asserted s0)).ctl.state = .stopped ∧ (stopped (asserted s0)).ctl.lineMode = .level ∧
      (stopped (asserted s0)).ctl.qualifier = .qualified) ∧
    stoppedBook.cue.book.cue? 15 = none ∧
    (stoppedBook.ctl.state = .stopped ∧ stoppedBook.ctl.qualifier = .idle ∧
      stoppedBook.cue.book.cue? 10 = some { cue 10 with mapRef := .map 1 } ∧
      stoppedBook.ctl.stopRecord = some stopRecord ∧ stoppedBook.click.limit = none ∧
      stoppedBook.click.holdPoint = none ∧
      stoppedBook.cue.book.mapUsed { cue 10 with mapRef := .map 1 } = some 1 ∧
      lastBar (stoppedBook.cue.book.segments 1) = some 4 ∧
      ∀ g ∈ stoppedBook.cue.book.segments 1,
        1 ≤ g.beatsPerBar ∧ (g.isStatic = true → ∃ m, g.bars = some (m + 1))) ∧
    ((stoppedBook.cue.book.mapUsed (cue 20)).bind fun n => lastBar (stoppedBook.cue.book.segments n)) = none ∧
    ((station .up s0).ch 0).assigned.kind = .rig := by
  refine ⟨admits_s0, rfl, by decide, by decide, by decide +kernel,
    ⟨by decide, by decide, by decide +kernel, by decide, by decide, by decide, by decide +kernel,
      by decide +kernel, ?_⟩, by decide +kernel, by decide +kernel⟩
  intro g hg
  have h : g = metered := by
    have : stoppedBook.cue.book.segments 1 = [metered] := by decide +kernel
    simpa [this] using hg
  subst h
  exact ⟨by decide, fun _ => ⟨3, rfl⟩⟩

/-- R97: a RIG on a link that is not UP, one whose confirmed patch is the one called for, and one that calls for none. -/
theorem witness_ResumeRequestsJudged_unsent :
    (let s := station .seek stoppedBook
     (s.ch 0).assigned.kind = .rig ∧ (s.ch 0).assigned.role ≠ .unused ∧ (s.ch 0).link.state ≠ .up) ∧
    (let s := patch1 (fun p => { p with expected := some ⟨0, 5⟩, confirmed := some ⟨0, 5⟩ }) (station .up stoppedBook)
     (patchUpTo s.cue.book.cues 10 0).or (s.patchOf 0).expected = (s.patchOf 0).confirmed ∧
      (s.ch 0).link.state = .up) ∧
    (patchUpTo stoppedBook.cue.book.cues 10 0).or (stoppedBook.patchOf 0).expected = none := by decide +kernel

theorem witness_EndAndQuery :
    s0.admits 1 ∧ s0.ctl.state = .dark ∧ (show2 .running).admits 1 ∧ (show2 .running).ctl.state ≠ .dark ∧
    (show2 .running).cue.edit ≠ .pendingApply ∧
    (editing .pendingApply (flying 10 9600 (show2 .running))).cue.edit = .pendingApply :=
  ⟨admits_s0, by decide, ⟨rfl, by decide, by decide⟩, by decide, by decide, by decide⟩

/-- R102: START_PRESHOW puts the first cue on standby. -/
theorem test_start_preshow :
    after (.startPreshow 1) (show2 .dark) (fun t => (t.ctl.state, t.cue.standby, t.cue.warned))
      = some (.preshow, some 10, some 10) := by decide +kernel
/-- R104: a HOLD at the first beat of a map holds there. -/
theorem test_hold :
    after (.hold 1) (onAir [metered] .running) (fun t => t.click.holdPoint) = some (some 4800) := by
  decide +kernel
/-- R42: the hold point reached holds the engine and the show. -/
theorem test_hold_reached :
    after .holdReached (inShow .running holdAt) (fun t => (t.click.held, t.click.holdPoint, t.ctl.state))
      = some (true, none, .holding) := by decide +kernel
/-- R106: CONTINUE clamps a count-in above 4. -/
theorem test_continue :
    after (.continueShow 1 5) (onAir [metered] .holding)
        (fun t => t.ctl.continuePending.map ContinuePending.countIn) = some (some 4) := by decide +kernel
/-- R110, R111: a stop in RUNNING halts the engine. -/
theorem test_stop :
    after (.stop 1) (onAir [metered] .running) (fun t => (t.ctl.state, t.click.state))
      = some (.stopped, .held) := by decide +kernel
/-- R108: an active line qualifies for 20 ms. -/
theorem test_line :
    after .stopLineActive s0 (fun t => (t.ctl.qualifier, t.ctl.timerEnd)) = some (.qualifying, some 960) := by
  decide +kernel
/-- R109: a qualified line stops the show. -/
theorem test_qualified :
    after .qualifierTimerExpiry (timed .qualifying (show2 .running)) (fun t => t.ctl.state)
      = some .stopped := by decide +kernel
/-- R115, R116: RESUME of bar 9 of a map of 4 bars takes bar 4, and the show is RESUMING. -/
theorem test_resume :
    after (.resume 1 10 9 0) stoppedBook
        (fun t => (t.ctl.state, t.click.kept.map fun b => (b.onset, b.bar)))
      = some (.resuming, [(4800, 4)]) := by decide +kernel
/-- R43: CONTINUE from a held map end discards the context. -/
theorem test_continue_map_end :
    after (.continueShow 1 0) ((playing ended (inShow .holding s0)).mapClick fun e => { e with held := true })
        (fun t => (t.ctl.state, t.click.context, t.click.held)) = some (.running, none, false) := by
  decide +kernel
/-- R60, R77: a stop with an edit pending finds the reverted standby again in the new book. -/
theorem test_stop_applies :
    after (.stop 1) (editing .pendingApply (flying 10 9600 (show2 .running)))
        (fun t => (t.cue.edit, t.cue.standby, t.cue.serial)) = some (.closed, none, 1) := by decide +kernel
/-- R117: END_SHOW takes the show to DARK. -/
theorem test_end_show : after (.endShow 1) (show2 .running) (fun t => t.ctl.state) = some .dark := by
  decide +kernel

/-! ## Pit link (07) -/

/-- An assigned part as STATION_SET carries it. -/
def rawPart : RawAssigned :=
  ⟨1, 1, [65, 126], ⟨true, 8, true, false, 16⟩, ⟨false, false, false, false, false⟩, 0, 16⟩
/-- Station 2 has role MD. -/
def mdAt2 (s : State) : State :=
  s.setCh 1 { s.ch 1 with assigned := { (s.ch 1).assigned with role := .md } }
/-- Station 1's refresh sample. -/
def refreshed (s : State) : State := link1 (fun l => { l with refreshAt := some 48000 }) (at_ 48000 s)
/-- Station 1 as a CLICK player. -/
def clicker (s : State) : State :=
  s.setCh 0 { s.ch 0 with assigned := { (s.ch 0).assigned with kind := .click } }

/-- Station 1 UNUSED with kind RIG. -/
def unusedRig (s : State) : State :=
  s.setCh 0 { s.ch 0 with assigned := { (s.ch 0).assigned with kind := .rig } }

theorem witness_StationSettings :
    s0.admits 1 ∧ rawPart.name.length ≤ 8 ∧ (24 < 25 ∧ 2 < 3 ∧ (5 : Nat) ∉ [1, 2, 3, 4, 6, 8]) ∧
    (¬ (2 < rawPart.role ∨ 1 < rawPart.kind ∨ rawPart.click.subdivision ∉ [1, 2, 3, 4, 6, 8] ∨
      ∃ x ∈ rawPart.name, x < 32 ∨ 126 < x)) ∧
    ((mdAt2 s0).admits 1 ∧ ((mdAt2 s0).ch 1).assigned.role = .md ∧ (1 : Station) ≠ 0) ∧
    (((mdAt2 rig).ch 0).assigned.role ≠ .unused ∧ ((mdAt2 rig).ch 1).assigned.role ≠ .unused) ∧
    ((s0.ch 0).assigned.role = .unused ∧ (s0.ch 0).link.state ≠ .up) ∧
    ((rig.ch 0).assigned.role ≠ .unused ∧ (rig.ch 0).link.state = .up ∧ (rig.ch 0).assigned.kind = .rig) ∧
    (((station .seek s0).ch 0).assigned.role ≠ .unused ∧ ((station .seek s0).ch 0).link.state ≠ .up) ∧
    (((refreshed rig).ch 0).link.refreshAt = some 48000 ∧ 48000 ≤ (refreshed rig).time.S ∧
      ((refreshed rig).ch 0).link.state = .up) ∧
    ({ rawPart with kind := 0 }.kind = 0 ∧ ((station .seek s0).ch 0).assigned.kind = .rig ∧ (0 : Nat) ≠ rawPart.role) ∧
    (((unusedRig s0).ch 0).assigned.role = .unused ∧ ((unusedRig s0).ch 0).assigned.kind = .rig ∧
      ((unusedRig s0).ch 0).link.state ≠ .up) :=
  ⟨admits_s0, by decide, by decide, by decide, ⟨⟨rfl, by decide, by decide⟩, by decide +kernel⟩,
    by decide +kernel, by decide +kernel, by decide +kernel, by decide +kernel, by decide +kernel,
    by decide +kernel, by decide +kernel⟩

/-- The MD's station with every enable set, and one with none. -/
def mdAll (s : State) : State := md1 ⟨true, true, true, true, true⟩ (station .up s)
/-- The MD's station with no enable. -/
def mdNone (s : State) : State := md1 ⟨false, false, false, false, false⟩ (station .up s)
/-- A TAP segment that waits, with one tap. -/
def waiting : State := (onAir [tap] .running).mapClick fun e => { e with taps := [0] }

theorem witness_MdInputs :
    ((rig.ch 0).link.state = .up ∧ (rig.ch 0).assigned.role ≠ .md) ∧
    (((mdNone s0).ch 0).assigned.role = .md ∧ ((mdNone s0).ch 0).assigned.md.tap = false ∧
      (mdNone s0).cue.mode = .remote) ∧
    (let s := mdNone (s0.mapCue fun c => { c with mode := .local_ })
     (s.ch 0).assigned.role = .md ∧ s.cue.mode = .local_ ∧ (s.ch 0).assigned.md.go = false) ∧
    (let s := mdAll (onAir [vamp] .running)
     (s.ch 0).assigned.md.release = true ∧ s.click.context = some (ctx [vamp]) ∧
      (ctx [vamp]).segments[(ctx [vamp]).currentIndex]? = some vamp ∧ vamp.kind = .vamp) ∧
    ((mdAll s0).click.context = none ∧ (mdAll s0).click.state = .silent ∧
      ((mdAll s0).ch 0).assigned.md.tap = true ∧ (mdAll s0).ctl.state = .dark) ∧
    (let s := (onAir [vamp, tap] .running)
     s.click.state = .vamping ∧ (ctx [vamp, tap]).segments[(ctx [vamp, tap]).currentIndex + 1]? = some tap ∧
      storeTap s.click.taps 4800 = .stored [4800]) ∧
    (waiting.click.state = .waitTap ∧ waiting.click.context = some (ctx [tap]) ∧
      (ctx [tap]).moveDue = false ∧ storeTap waiting.click.taps 24000 = .stored [0, 24000] ∧
      2 ≤ [0, 24000].length) ∧
    (let s := mdAll (onAir [metered] .running)
     s.ctl.state = .running ∧ s.ctl.holdPending = none ∧ (s.ch 0).assigned.md.hold = true) ∧
    (mdAll (heldAt (onAir [metered] .running))).ctl.holdPending ≠ none := by
  decide +kernel

/-- R39: a tap in COUNT_IN, in a TAP segment that plays, and in one that waits for its first tap. -/
theorem witness_MdInputs_taps :
    (let s := mdAll (playing { ctx [tap] with tapPlaced := true } (inShow .running s0))
     s.click.state = .playing ∧ s.click.context = some { ctx [tap] with tapPlaced := true } ∧
      (ctx [tap]).segments[(ctx [tap]).currentIndex]? = some tap ∧ tap.kind = .tap ∧
      storeTap s.click.taps 4800 = .stored [4800] ∧ storeTap [0] 7199 = .bounce ∧
      (ctx [tap]).moveDue = false ∧ (ctx [tap]).segment.map Segment.kind = some .tap) ∧
    (let s := mdAll (playing (Context.build 1 [metered, tap] 4800 1) (inShow .running s0))
     s.click.state = .countIn ∧ (Context.build 1 [metered, tap] 4800 1).currentIndex = 0 ∧
      (Context.build 1 [metered, tap] 4800 1).segments[1]? = some tap) ∧
    (let s := mdAll (onAir [tap] .running)
     s.click.state = .waitTap ∧ s.click.context = some (ctx [tap]) ∧
      storeTap s.click.taps 4800 = .stored [4800] ∧ [4800].length < 2) := by decide +kernel

/-- R107, R110: the MD's HOLD in HOLDING, and its STOP_CALL in every show state. -/
theorem witness_MdInputs_holds_and_stops :
    (let s := mdAll (onAir [metered] .holding)
     (s.ch 0).link.state = .up ∧ (s.ch 0).assigned.role = .md ∧ s.ctl.state = .holding ∧
      s.ctl.continuePending = none ∧ s.click.context = some (ctx [metered]) ∧
      (ctx [metered]).segment = some metered ∧ (ctx [metered]).moveDue = false ∧ 1 ≤ metered.beatsPerBar ∧
      s.click.limit = none ∧ s.click.holdPoint = none ∧ s.reports = []) ∧
    (mdAll (continuing (onAir [metered] .holding))).ctl.continuePending ≠ none ∧
    ((mdAll (playing ended (inShow .holding s0))).click.context = some ended ∧ ended.segment = none ∧
      (mdAll (playing ended (inShow .holding s0))).ctl.continuePending = none) ∧
    ({ ctx [tap] with tapPlaced := true }.tapPlaced = true ∧ (ctx [tap]).moveDue = false) ∧
    ((mdAll (inShow .holding s0)).click.context = none ∧ (mdAll (inShow .holding s0)).reports = []) ∧
    ((ctx [free]).segment = some free ∧ (ctx [tap]).segment = some tap ∧ (ctx [tap]).tapPlaced = false) ∧
    ShowState.resuming ∈ [ShowState.dark, .preshow, .stopped, .resuming] ∧
    ((mdAll (stopped s0)).ctl.stopRecord = some stopRecord ∧ stopRecord.causes.md = false) ∧
    ((mdAll (stoppedByAll s0)).ctl.stopRecord.map fun r => r.causes.md) = some true ∧
    ((mdAll (show2 .running)).ctl.state = .running ∧ (mdAll (show2 .running)).cue.edit ≠ .pendingApply ∧
      ((mdAll (show2 .running)).ch 0).assigned.md.stopCall = true) ∧
    (mdAll (editing .pendingApply (show2 .running))).cue.edit = .pendingApply := by decide +kernel

/-- R66 to R68: the outcomes of the MD's GO. -/
theorem witness_MdInputs_calls :
    ((mdAll (lockedTo 1 (show2 .running))).cue.lockoutEnd = some 1 ∧
      (mdAll (lockedTo 1 (show2 .running))).time.S < 1) ∧
    (mdAll (inShow .running s0)).cue.standby.bind (mdAll (inShow .running s0)).cue.book.cue? = none ∧
    (let s := mdAll (queueing (flying 10 9600 (show2 .running)))
     (s.cue.standby.bind s.cue.book.cue?).isSome = true ∧ s.cue.inFlight ≠ none ∧ s.cue.queued ≠ none) ∧
    (let s := mdAll (flying 10 9600 (show2 .running))
     s.cue.standby.bind s.cue.book.cue? = some (cue 10) ∧ s.reports = [] ∧ s.cue.inFlight ≠ none ∧
      s.cue.queued = none) ∧
    (let s := mdAll later
     s.ctl.state = .preshow ∧ s.cue.inFlight = none ∧
      s.time.S + 4800 < s.click.changePoint (s.time.S + 4800) .nextBeat) ∧
    (let s := mdAll (show2 .preshow)
     s.cue.lockoutEnd = none ∧ s.cue.inFlight = none ∧ s.cue.queued = none ∧ s.cue.edit ≠ .pendingApply ∧
      s.click.changePoint (s.time.S + 4800) .immediate ≤ s.time.S + 4800 ∧
      (s.cue.book.numberAfter 10).bind s.cue.book.cue? = some (cue 20) ∧ (cue 20).goMode = .manual ∧
      s.port.mask.getLsbD 11 = true ∧ s.port.notices.length < 28) := by decide +kernel

/-- Station 1 seeking with a hold end and a burst due. -/
def seeking : State :=
  link1 (fun l => { l with seekHoldEnd := some 48000, nextBurst := some 48000 }) (at_ 48000 (station .seek s0))
/-- Station 1 in training with a page awaiting its reply. -/
def training (k : PageKind) (r : LinkRate) (tries : Nat) (s : State) : State :=
  link1 (fun l => { l with page := some ⟨k, true, 0, 240, none⟩, rate := r, tries := tries })
    (station .training s)

theorem witness_SeekingAndRetrying :
    ((seeking.ch 0).link.state = .seek ∧ (seeking.ch 0).link.nextBurst = some 48000 ∧
      (seeking.ch 0).link.seekHoldEnd = some 48000 ∧ 48000 ≤ seeking.time.S) ∧
    (((station .seek s0).ch 0).link.seekHoldEnd = none) ∧
    (((at_ 47999 seeking).ch 0).link.seekHoldEnd = some 48000 ∧ (at_ 47999 seeking).time.S < 48000) ∧
    (let s := at_ 960 (training .ident .full 2 s0)
     (s.ch 0).link.state = .training ∧ (s.ch 0).link.page = some ⟨.ident, true, 0, 240, none⟩ ∧
      240 ≤ s.time.S ∧ 0 + 960 ≤ s.time.S ∧ (s.ch 0).assigned.linkTries ≤ 2 + 1 ∧
      (s.ch 0).link.rate = .full) ∧
    (1 + 1 < ((training .ident .full 1 s0).ch 0).assigned.linkTries) ∧
    ((training .ident .reduced 2 s0).ch 0).link.rate = .reduced := by decide +kernel

theorem witness_TrainingReplies :
    (∀ k, ((training k .full 0 s0).ch 0).link.state = .training ∧
      ((training k .full 0 s0).ch 0).link.page = some ⟨k, true, 0, 240, none⟩) ∧
    (((training .ability .full 0 s0).ch 0).link.rate = .full ∧
      ((training .ability .full 0 s0).ch 0).link.tries + 1 <
        ((training .ability .full 0 s0).ch 0).assigned.linkTries) ∧
    ((0 + 0 ≤ (at_ 2400 s0).time.S) ∧ (2400 - 0 - 0 + 1) / 2 ≤ 1200 ∧ 1200 < (2401 - 0 - 0 + 1) / 2) ∧
    (s0.ch 0).link.state ≠ .training ∧
    ((training .settings .full 0 s0).patchOf 0).entry = none ∧
    (let s := pends (.sent 9600 false 1 12000) (training .settings .full 0 s0)
     (s.patchOf 0).entry = some ⟨⟨0, 5⟩, 9600, .sent 9600 false 1 12000⟩ ∧
      (PendingPhase.sent 9600 false 1 12000).sentAs = some (9600, 1)) ∧
    (let s := holds (pends (.waitingRelease 2 33600 none) (training .ready .full 0 s0))
     (s.patchOf 0).entry = some ⟨⟨0, 5⟩, 9600, .waitingRelease 2 33600 none⟩ ∧
      (s.patchOf 0).held = .held ∧ (PendingPhase.waitingRelease 2 33600 none).sentAs = none) ∧
    ((pends (.waitingRelease 2 33600 none) (training .ready .full 0 s0)).patchOf 0).held = .clear := by
  refine ⟨fun k => by cases k <;> decide +kernel, by decide +kernel, by decide +kernel, by decide +kernel,
    by decide +kernel, by decide +kernel, by decide +kernel, by decide +kernel⟩

/-- Station 1 UP with its windows and some check errors. -/
def watched (k : Nat) : State :=
  link1 (fun l => { l with silenceEnd := some 12000, windowEnd := some 12000, errorCount := k })
    (at_ 12000 rig)

theorem witness_LinksKeptAndLost :
    (((watched 2).ch 0).link.state = .up ∧ ((watched 2).ch 0).link.silenceEnd = some 12000 ∧
      ((watched 2).ch 0).link.windowEnd = some 12000 ∧ 12000 ≤ (watched 2).time.S ∧
      ((watched 2).ch 0).assigned.errorLimit ≤ ((watched 2).ch 0).link.errorCount + 1) ∧
    ((watched 1).ch 0).link.errorCount + 1 < ((watched 1).ch 0).assigned.errorLimit ∧
    ((seeking.ch 0).link.state ≠ .up ∧ (seeking.ch 0).link.state = .seek ∧
      (seeking.ch 0).assigned.role ≠ .unused) ∧
    ((training .ident .reduced 2 s0).ch 0).link.state = .training ∧
    ((s0.ch 0).assigned.role = .unused ∧ s0.admits 1 ∧ 24 < 25 ∧ 1 = (0 : Station).val + 1) ∧
    seeking.admits 1 ∧ (watched 2).admits 1 ∧ (training .ident .reduced 2 s0).admits 1 ∧
    ((watched 2).ch 0).assigned.role ≠ .unused :=
  ⟨by decide +kernel, by decide +kernel, by decide +kernel, by decide +kernel,
    ⟨by decide +kernel, admits_s0, by decide, by decide⟩, ⟨rfl, by decide, by decide⟩,
    ⟨rfl, by decide, by decide⟩, ⟨rfl, by decide, by decide⟩, by decide +kernel⟩

/-- A link that is UP with a queue. -/
def upWith (q : List Event) : Link := { Link.powerUp with state := .up, queue := q }
/-- 31 CLICKs behind one LAMP, and 32 LAMPs. -/
def fullOfClicks : List Event :=
  .lamp 1 .cue (.level true) :: List.replicate 31 (.click 2 .beat)
/-- 32 LAMPs. -/
def fullOfLamps : List Event := List.replicate 32 (.lamp 1 .cue (.level true))

theorem witness_EventsPlaced :
    Link.powerUp.state ≠ .up ∧ (upWith []).state = .up ∧
    ((Event.patch 5 ⟨0, 0⟩ false 0).isPatch = true ∧
      ∃ x ∈ (upWith [.patch 4 ⟨0, 0⟩ false 0]).queue, x.isPatch = true) ∧
    ((Event.click 5 .beat).isClick = true ∧ ¬ 32 ≤ (upWith []).queue.length ∧
      32 ≤ (upWith fullOfClicks).queue.length) ∧
    ((Event.lamp 5 .cue (.level true)).isClick = false ∧ (Event.lamp 5 .cue (.level true)).isLamp = true ∧
      (upWith fullOfClicks).queue =
        [.lamp 1 .cue (.level true)] ++ .click 2 .beat :: List.replicate 30 (.click 2 .beat) ∧
      ∀ y ∈ [Event.lamp 1 .cue (.level true)], y.isClick = false) ∧
    ((∀ y ∈ (upWith fullOfLamps).queue, y.isClick = false) ∧ 32 ≤ (upWith fullOfLamps).queue.length ∧
      (upWith fullOfLamps).queue =
        [] ++ .lamp 1 .cue (.level true) :: List.replicate 31 (.lamp 1 .cue (.level true))) := by
  decide +kernel

/-- A lamp as LAMP carries it. -/
def rawLamp : RawLamp := ⟨1, 0, 635, 0x80#8, 16⟩

theorem witness_EventsSentAndLamps :
    ((rig.ch 0).link.state = .up ∧ (rig.ch 0).link.test = none ∧ rig.admits 1) ∧
    (seeking.ch 0).link.state ≠ .up ∧
    (¬ (24 < 1 ∨ 1 < rawLamp.lamp ∨ 1 < rawLamp.tick ∨
      (rawLamp.tick = 1 ∧ rawLamp.tickValue ≠ 1 ∧ rawLamp.tickValue ≠ 2 ∧ rawLamp.tickValue ≠ 4)) ∧
      rawLamp.lamp = 1 ∧ rawLamp.tick = 0) ∧
    (let p : RawLamp := { rawLamp with tick := 1, tickValue := 4 }
     ¬ (1 < p.lamp ∨ 1 < p.tick ∨ (p.tick = 1 ∧ p.tickValue ≠ 1 ∧ p.tickValue ≠ 2 ∧ p.tickValue ≠ 4))) ∧
    (let p : RawLamp := { rawLamp with tick := 1, tickValue := 3 }
     p.tick = 1 ∧ p.tickValue ≠ 1 ∧ p.tickValue ≠ 2 ∧ p.tickValue ≠ 4) ∧
    (rig.ch 0).assigned.role ≠ .unused :=
  ⟨⟨by decide +kernel, by decide +kernel, ⟨rfl, by decide, by decide⟩⟩, by decide +kernel, by decide,
    by decide, by decide, by decide +kernel⟩

/-- Station 1 with a link test in progress. -/
def testing (next frame : Nat) (x : Sample) : State :=
  link1 (fun l => { l with test := some ⟨9, 0, next, [⟨frame, 0⟩], 0⟩ }) (at_ x rig)

theorem witness_LinkTests :
    ((rig.ch 0).link.state = .up ∧ (rig.ch 0).link.test = none ∧ rig.ctl.state = .dark ∧ rig.admits 1) ∧
    ((inShow .running rig).ctl.state ≠ .dark ∧ (inShow .running rig).ctl.state ≠ .preshow) ∧
    (((testing 255 0 12240).ch 0).link.test = some ⟨9, 0, 255, [⟨0, 0⟩], 0⟩ ∧ 255 ≤ 255 ∧
      0 + 255 * 48 ≤ (testing 255 0 12240).time.S) ∧
    ([TestFrame.mk 0 0].find? (fun f => decide (f.number = 0)) = some ⟨0, 0⟩ ∧
      0 + 2 * (((testing 255 0 12240).ch 0).link.delay.getD 0 + 96) ≤ (testing 255 0 12240).time.S) ∧
    (((testing 256 255 12300).ch 0).link.test = some ⟨9, 0, 256, [⟨255, 0⟩], 0⟩ ∧
      [TestFrame.mk 255 0].find? (fun f => decide (f.number = 255)) = some ⟨255, 0⟩ ∧
      ((testing 256 255 12300).ch 0).link.state = .up ∧
      0 + 2 * (((testing 256 255 12300).ch 0).link.delay.getD 0 + 96) ≤ (testing 256 255 12300).time.S) :=
  ⟨⟨by decide +kernel, by decide +kernel, by decide +kernel, ⟨rfl, by decide, by decide⟩⟩, by decide +kernel,
    by decide +kernel, by decide +kernel, by decide +kernel⟩

/-- Station 1 with a relay in flight. -/
def relaying : State := link1 (fun l => { l with relay := some ⟨9, 255, 0, true⟩ }) (at_ 2400 rig)

theorem witness_RelaysAndQueries :
    ((rig.ch 0).link.state = .up ∧ (rig.ch 0).link.relay = none ∧ rig.admits 1) ∧
    (s0.ch 0).link.state ≠ .up ∧
    ((relaying.ch 0).link.relay = some ⟨9, 255, 0, true⟩ ∧ 0 + 2400 ≤ relaying.time.S ∧ (0 : Nat) ≠ 255) ∧
    (0 = 0 ∨ 24 < 0) :=
  ⟨⟨by decide +kernel, by decide +kernel, ⟨rfl, by decide, by decide⟩⟩, by decide +kernel, by decide +kernel,
    by decide⟩

/-- R120: a level above 15 is clamped, and 0 tries become 1. -/
theorem test_station_set :
    after (.stationSet 1 1 rawPart) s0 (fun t =>
        ((t.ch 0).assigned.click.level, (t.ch 0).assigned.linkTries, (t.ch 0).link.state))
      = some (15, 1, .seek) := by decide +kernel
/-- R127: a round trip of 7 samples gives a delay of 4. -/
theorem test_delay :
    after (.delayProbeReply 0 true 100 10) (at_ 117 (training .delayProbe .full 0 s0))
        (fun t => (t.ch 0).link.delay) = some (some 4) := by decide +kernel
/-- R129: the READY reply brings the link UP. -/
theorem test_ready :
    after (.readyReply 0 true) (training .ready .full 0 s0)
        (fun t => ((t.ch 0).link.state, (t.ch 0).link.silenceEnd)) = some (.up, some 12000) := by
  decide +kernel
/-- R131: the third check error of a window loses the link. -/
theorem test_errors :
    after (.backChannelCheckError 0) (watched 2) (fun t => (t.ch 0).link.state) = some .seek := by
  decide +kernel
/-- R135: a CLICK that comes too late is dropped and counted. -/
theorem test_late_click :
    after (.eventSendPoint 0) (link1 (fun l => { l with queue := [.click 99 .beat, .click 100 .down] }) rig)
        (fun t => ((t.ch 0).link.lateCount, t.emitted))
      = some (1, [.link 0 0 (.event (.click 100 .down))]) := by decide +kernel
/-- R140: a TIME tick goes down to a multiple of 10 ms. -/
theorem test_lamp :
    after (.lamp 1 1 ⟨0, 0, 125, 0x80#8, 0⟩) rig (fun t => (t.ch 0).link.queue)
      = some [.lamp 0 .cue (.pattern ⟨.time 120, 0x80#8, 0⟩)] := by decide +kernel
/-- R142: a good echo of frame 255 passes the test. -/
theorem test_link_test :
    after (.testEcho 0 255 true) (testing 256 255 200) (fun t => t.port.sending) = some (some .reply) := by
  decide +kernel
/-- R142: frame 255 without an echo by its time-out ends the test as FAIL. -/
theorem test_link_test_timeout :
    after (.testEchoTimeout 0 255) (testing 256 255 12300) (fun t =>
        ((t.ch 0).link.test, t.port.replies.map Reply.answer))
      = some (none, [.ok false (.testResult (.fail 1) 0 12300)]) := by decide +kernel
/-- R141: the GO of the MD with its enable fires the standby. -/
theorem test_md_go :
    after (.statusFrame 0 ⟨report, [], none, .clear, [⟨.go, 0⟩]⟩) (mdAll (show2 .preshow))
        (fun t => t.cue.running.map RunningCue.number) = some (some 10) := by decide +kernel

/-! ## Video inputs (08) -/

/-- The input monitor changed. -/
def vid (f : VideoIn → VideoIn) (s : State) : State := { s with vin := f s.vin }
/-- Input A changed. -/
def inA (f : InputRecord → InputRecord) (s : State) : State :=
  vid (fun v => { v with inputA := f v.inputA }) s
/-- Input B changed. -/
def inB (f : InputRecord → InputRecord) (s : State) : State :=
  vid (fun v => { v with inputB := f v.inputB }) s
/-- An input that searches, with a measured frame of 750 lines and `k` matches of entry 2. -/
def searches (k : Nat) (r : InputRecord) : InputRecord :=
  { r with
    lock := .searching, syncPresent := true, valid := true, edges := 750, matched := some 2
    matchCount := k, lastFrame := some 0, missEnd := some 1602, syncWatchEnd := some 4800 }
/-- An input that is LOCKED to entry 2, with `k` misses. -/
def locked (k : Nat) (r : InputRecord) : InputRecord :=
  { searches 8 r with lock := .locked, missCount := k, lockStart := some 0 }
/-- A host entry in place 10. -/
def hostEntry (s : State) : State :=
  vid (fun v => { v with formats := v.formats.set 10 (some ⟨200, 50000, 500, .progressive, 1, 1⟩) }) s
/-- A format entry as FORMAT_PUT carries it. -/
def rawFormat : RawFormat := ⟨199, 50001, 501, 1, 0, 136⟩

theorem witness_FormatEntries :
    (∃ f, s0.format 2 = some f ∧ f.lines = 750 ∧ f.period ≤ 16676 + f.tolerance ∧
      16676 ≤ f.period + f.tolerance) ∧
    (s0.matchEntry 750 16676 = some 2 ∧ s0.matchEntry 750 16675 = none ∧ s0.matchEntry 750 16674 = some 3) ∧
    s0.admits 1 ∧ 15 < 16 ∧ ((9 : EntryNo).val < 10 ∧ 10 ≤ (10 : EntryNo).val) ∧
    ((inA (fun r => { r with mode := .forced 10 }) (hostEntry s0)).vin.inputA.mode = .forced 10) ∧
    (rawFormat.lines ≠ 0 ∧ rawFormat.scan ≤ 1) ∧ ({ rawFormat with lines := 0 } : RawFormat).lines = 0 ∧
    1 < ({ rawFormat with scan := 2 } : RawFormat).scan ∧
    ¬ (s0.vin.inputA.mode = .forced 10 ∨ s0.vin.inputB.mode = .forced 10) :=
  ⟨⟨⟨750, 16683, 7, .progressive, 160, 90⟩, by decide⟩, by decide +kernel, admits_s0, by decide, by decide,
    by decide, by decide, by decide, by decide, by decide⟩

theorem witness_FramesMeasured :
    (s0.input .a).lock = .noSignal ∧
    (let s := inA (searches 7) s0
     (s.input .a).lock = .searching ∧ (s.input .a).mode = .autoDetect ∧ (s.input .a).valid = true ∧
      s.matchEntry (min 4095 (s.input .a).edges) (min 999999 16683) = some 2 ∧
      (s.input .a).lockCount ≤ min 31 ((s.input .a).matchCount + 1) ∧
      min 31 (6 + 1) < (s.input .a).lockCount ∧
      s.matchEntry (min 4095 (s.input .a).edges) (min 999999 18000) = none) ∧
    ((inA (fun r => { searches 0 r with valid := false }) s0).input .a).valid = false ∧
    (let s := inA (locked 2) s0
     (s.input .a).lock = .locked ∧ (s.input .a).mode = .autoDetect ∧ (s.input .a).valid = true ∧
      s.matchEntry 750 16683 = (s.input .a).matched ∧
      (s.input .a).unlockCount ≤ min 7 ((s.input .a).missCount + 1) ∧
      min 7 (1 + 1) < (s.input .a).unlockCount) ∧
    (let s := inA (fun r => { searches 0 r with mode := .forced 2 }) s0
     (s.input .a).mode = .forced 2 ∧ (s.input .a).lock = .searching) ∧
    (let s := inA (fun r => { locked 0 r with mode := .forced 2 }) s0
     (s.input .a).mode = .forced 2 ∧ (s.input .a).lock = .locked ∧ (s.input .a).matched = some 2 ∧
      s.matchEntry 750 16683 = some 2 ∧ s.matchEntry 750 18000 ≠ some 2) := by decide +kernel

theorem witness_SyncAndMissingFrames :
    (s0.input .a).lock = .noSignal ∧ ((inA (searches 0) s0).input .a).lock ≠ .noSignal ∧
    (let s := at_ 4800 (inA (locked 2) s0)
     (s.input .a).syncWatchEnd = some 4800 ∧ 4800 ≤ s.time.S ∧ (s.input .a).missEnd = some 1602 ∧
      1602 ≤ s.time.S ∧ (s.input .a).lock = .locked ∧ (s.input .a).mode = .autoDetect ∧
      (s.input .a).unlockCount ≤ min 7 ((s.input .a).missCount + 1)) ∧
    min 7 (((inA (locked 1) s0).input .a).missCount + 1) < ((inA (locked 1) s0).input .a).unlockCount ∧
    (((at_ 1602 (inA (searches 3) s0)).input .a).lock = .searching ∧
      ((at_ 1602 (inA (searches 3) s0)).input .a).missEnd = some 1602) := by decide +kernel

/-- The selection changed. -/
def chooses (f : Selection → Selection) (s : State) : State :=
  vid (fun v => { v with selection := f v.selection }) s

/-- Both inputs LOCKED, A chosen from none by its return time at this very sample. -/
def bothLocked : State :=
  vid (fun v => { v with returnReached := some 240000 })
    (at_ 240000 (inA (locked 0) (inB (locked 0) (chooses (fun x => { x with chosen := some .a }) s0))))

theorem witness_LocksAndChoice :
    (some Input.b ≠ s0.vin.selection.chosen ∧ some Input.b ≠ s0.vin.selection.inEffect ∧
      (s0.input .b).lock ≠ .locked) ∧
    ((inB (locked 0) s0).input .b).lock = .locked ∧
    (chooses (fun x => { x with chosen := some .b }) s0).vin.selection.inEffect = some .a ∧
    (chooses (fun x => { x with pendingChange := some .b }) s0).vin.selection.pendingChange = some .b ∧
    ((inB (locked 0) s0).vin.selection.mode = .auto ∧
      (inB (locked 0) s0).vin.selection.chosen ≠ some .b ∧ (inB (locked 0) s0).vin.inputA.lock ≠ .locked) ∧
    (LockState.searching ≠ ((inA (locked 0) s0).input .a).lock ∧
      ((inA (locked 0) s0).input .a).lock = .locked ∧
      (inA (locked 0) s0).vin.inputA.lockStart.map (· + 48000 * 5) = some 240000) ∧
    (LockState.locked ≠ (s0.input .a).lock ∧ s0.vin.selection.chosen = some .a) ∧
    ((bothLocked.input .b).lock = .locked ∧ bothLocked.vin.selection.mode = .auto ∧
      bothLocked.vin.selection.chosen = some .a ∧ (bothLocked.input .a).lock = .locked ∧
      bothLocked.vin.returnReached = some bothLocked.time.S) ∧
    (let s := chooses (fun x => { x with chosen := none, hold := 0 }) (inA (locked 0) s0)
     s.vin.selection.chosen = none ∧ s.vin.inputA.lockStart.map (· + 48000 * 0) = some 0 ∧ 0 ≤ s.time.S) := by
  decide +kernel

/-- A return time of A reached. -/
def returning : State :=
  chooses (fun x => { x with chosen := some .b, returnTime := some 240000 }) (at_ 240000 s0)

theorem witness_SelectionAndInputSettings :
    (returning.vin.selection.returnTime = some 240000 ∧ 240000 ≤ returning.time.S ∧
      returning.vin.selection.mode = .auto ∧ returning.vin.selection.chosen ≠ some .a ∧
      returning.vin.returnSpent = false) ∧
    (chooses (fun x => { x with mode := .forceB }) returning).vin.selection.mode ≠ .auto ∧
    (s0.admits 1 ∧ 2 < 3 ∧ s0.vin.selection.mode = .auto) ∧
    (chooses (fun x => { x with mode := .forceB }) s0).vin.selection.mode ≠ .auto ∧
    s0.vin.selection.mode ≠ .forceB ∧ s0.vin.selection.mode ≠ .forceA ∧
    (returning.vin.selection.returnTime ≠ none ∧ returning.vin.inputA.lockStart = none ∧
      (inA (locked 0) returning).vin.inputA.lockStart ≠ none) ∧
    (∃ e : EntryNo, e.val = 2 ∧ s0.format e ≠ none) ∧ s0.format 15 = none ∧ ((0 = 0) ∧ 1 ≤ 1) :=
  ⟨by decide, by decide, ⟨admits_s0, by decide, by decide⟩, by decide, by decide, by decide,
    by decide +kernel, ⟨2, by decide⟩, by decide, by decide⟩

/-- R150: the eighth matching frame locks the input. -/
theorem test_lock :
    after (.inputFrameStart .a 16683) (inA (searches 7) s0) (fun t => (t.input .a).lock) = some .locked := by
  decide +kernel
/-- R151: the third miss unlocks it. -/
theorem test_unlock :
    after (.missingWatchExpiry .a) (at_ 1602 (inA (locked 2) s0)) (fun t => (t.input .a).lock)
      = some .searching := by decide +kernel
/-- R156: B locking is chosen while A is not LOCKED, and takes effect at its frame start. -/
theorem test_choice :
    after (.inputFrameStart .b 16683) (inB (searches 7) s0)
        (fun t => (t.vin.selection.chosen, t.vin.selection.inEffect)) = some (some .b, some .b) := by
  decide +kernel
/-- R154's last sentence: B's lock taken after A's return time, at one sample, leaves B chosen. -/
theorem test_locks_at_one_sample :
    (bothLocked.lockChanged .b .searching).vin.selection.chosen = some .b := by decide +kernel
/-- R155: in FORCE_B the return time is kept while A leaves LOCKED, and AUTO clears it. -/
theorem test_return_time_kept :
    ([SelectionMode.forceB, .auto].map fun m =>
      ((chooses (fun x => { x with mode := m }) returning).lockChanged .a .locked).vin.selection.returnTime)
      = [some 240000, none] := by decide +kernel
/-- R146: FORMAT_PUT clamps each field of a host entry. -/
theorem test_format_put :
    after (.formatPutWrite 1 10 rawFormat) s0 (fun t => t.format 10)
      = some (some ⟨200, 50000, 500, .interlaced, 1, 135⟩) := by decide +kernel

/-! ## Video outputs and overlay (09) -/

/-- A layout staged, with output 1 to adopt it. -/
def staged : State :=
  { s0 with
    vout :=
      { s0.vout with
        staged := some Layout.powerUp
        outputs := s0.vout.outputs.set 0 { s0.output 0 with adoptionDue := true } } }

theorem witness_OutputAndOverlayRequests :
    s0.admits 1 ∧ (0 = 0 ∨ 4 < 0) ∧ 4 < 5 ∧ 2 < 3 ∧
    ((0, OutputSource.selected) ∈ [(0, OutputSource.selected), (1, .a), (2, .b)] ∧
      (2, Fallback.card) ∈ [(0, Fallback.black), (1, .bars), (2, .card)]) ∧
    (7 < 8 ∧ (7 : Fin 8).val = 7) ∧ (5 < 6 ∧ 5 ≤ 5) ∧
    (16 < (List.replicate 17 65).length ∧ [31].length ≤ 16 ∧ (∃ c ∈ [31], c < 32 ∨ 126 < c) ∧
      ∀ c ∈ [32, 126], 32 ≤ c ∧ c ≤ 126) ∧
    staged.vout.outputs.toList.any OutputRecord.adoptionDue = true :=
  ⟨admits_s0, by decide, by decide, by decide, by decide, by decide, by decide, by decide, by decide⟩

/-- An output frame in progress of the default format. -/
def framing : State :=
  { s0 with
    vout :=
      { s0.vout with
        outputs := s0.vout.outputs.set 0
          { s0.output 0 with
            lastFrame := some 0
            frame := some ⟨.fallback, none, ⟨750, 16683, 7, .progressive, 160, 90⟩⟩ } } }

theorem witness_OutputFrames :
    ((s0.output 0).enabled = true ∧ (s0.output 0).lastFrame = none) ∧
    ((framing.output 0).lastFrame = some 0 ∧ (framing.output 0).enabled = true ∧
      (framing.output 0).frame.map (fun f => f.format.period) = some 16683 ∧ 16683 ≤ 16683) ∧
    (s0.output 1).enabled = false ∧
    ((inA (locked 0) s0).vin.selection.inEffect = some .a ∧
      ((inA (locked 0) s0).input .a).lock = .locked) := by decide +kernel

/-- R159: an output without a source frame falls back. -/
theorem test_own_frame :
    after (.outputOwnFrameStart 0 16683) framing
        (fun t => (t.output 0).frame.map FrameInProgress.state) = some (some .fallback) := by decide +kernel
/-- R165: a commit with one output enabled is adopted at its next frame start. -/
theorem test_commit_overlay :
    after (.overlayCommit 1) s0 (fun t => (t.output 0).adoptionDue) = some true := by decide +kernel
/-- R162: each character takes a cell, and an unused cell is background. -/
theorem test_cells :
    let r : FieldRecord := Layout.powerUp.cue
    (((FieldContent.text [65]).cells .cue r).headD []).take 2
      = [⟨some 65, r.foreground, r.background⟩, ⟨none, r.foreground, r.background⟩] := by decide +kernel
/-- R161: PALETTE sets its entry. -/
theorem test_palette :
    after (.palette 1 7 1 2 3) s0 (fun t => t.vout.palette[7]) = some ⟨1, 2, 3⟩ := by decide +kernel

/-! ## Control Port (10) -/

/-- The assembler in a phase. -/
def assembling (x : Phase) (bytes : List Byte) (k : Nat) : State :=
  port1 (fun p => { p with phase := x, bytes := bytes, expected := k, lastByteAt := some 0 }) s0

theorem witness_FrameBytes :
    (port1 (fun p => { p with restarting := true }) s0).port.restarting = true ∧
    (s0.port.restarting = false ∧ s0.port.phase = .hunt) ∧
    ((assembling .header [] 3).port.phase = .header ∧ (assembling .header [] 3).port.expected = 3) ∧
    ((assembling .header [0#8, 1#8] 1).port.bytes = 0#8 :: [1#8]) ∧
    ((assembling .body [1#8, 2#8, 1#8] 1).port.phase = .body) ∧
    (let s := assembling .check [0#8, 1#8, 1#8, 0xEF#8] 1
     s.port.phase = .check ∧ s.port.bytes = 0#8 :: 1#8 :: 1#8 :: [] ++ [0xEF#8] ∧
      checkBytes [0#8, 1#8, 1#8] = [0xEF#8, 0x8C#8] ∧ checkBytes [0#8, 1#8, 1#8] ≠ [0xEF#8, 0x8D#8] ∧
      s.port.placesHeld < 4) ∧
    (readPayload 1 1 [] = .request (.status 1) ∧ readPayload 1 1 [0#8] = .badLength ∧
      isRequestKind 255 = false ∧ isRequestKind 1 = true ∧ isRequestKind 2 = true ∧
      readPayload 2 1 [2#8] = .badValue ∧ (0x49, 2) ∈ [(0x35, 2), (0x49, 2)]) ∧
    (let s := at_ 241 (assembling .header [] 3)
     s.port.phase ≠ .hunt ∧ s.port.lastByteAt = some 0 ∧ 0 + 241 ≤ s.time.S) ∧
    1 < (2#8).toNat := by
  refine ⟨rfl, by decide, by decide, by decide, by decide, by decide +kernel, ⟨rfl, rfl, by decide⟩,
    by decide, by decide⟩

/-- Four replies that hold places. -/
def busy : State :=
  port1 (fun p => { p with replies := List.replicate 4 ⟨1, 1, .ok false .empty, true⟩ }) s0
/-- Control is LOCAL. -/
def local1 : State := s0.mapCue fun c => { c with mode := .local_, localEntry := some ⟨0, 2⟩ }

theorem witness_RequestsTaken :
    ((requestOf (.status 1)).isSome = true ∧ (requestOf (.status 1)).map Request.tag = some 1 ∧
      (requestOf (.status 0)).map Request.tag = some 0) ∧
    (s0.port.restarting = false ∧ s0.port.placesHeld < 4) ∧ 4 ≤ busy.port.placesHeld ∧
    (requestOf (.overlayPutBannerText 1 (List.replicate 17 65))).map Request.lengthOk = some false ∧
    s0.cue.mode = .remote ∧ (local1.cue.mode = .local_ ∧ local1.cue.localEntry = some ⟨0, 2⟩) :=
  ⟨⟨rfl, rfl, rfl⟩, by decide, by decide, by decide, by decide, by decide⟩

theorem witness_PortRequests :
    s0.admits 1 ∧ ∀ k, k < 13 → (0x1FFF#13).getLsbD k = (0xFFFF#16).getLsbD k :=
  ⟨admits_s0, by decide⟩

/-- A notice. -/
def notice : Notice := .mapEnd 1 4800 4800
/-- A reply to RESTART at the head, being sent. -/
def restarting : State :=
  port1 (fun p =>
    { p with replies := [⟨3, 1, .ok false .empty, true⟩], sending := some .reply, restarting := true }) s0

theorem witness_FramesSent :
    (restarting.port.sending ≠ none ∧ s0.port.sending = none) ∧
    (let p : ControlPort := { s0.port with rejects := [⟨.busy, 1⟩] }
     p.rejects = ⟨.busy, 1⟩ :: []) ∧
    (busy.port.rejects = [] ∧ busy.port.replies ≠ []) ∧
    (let p : ControlPort := { s0.port with notices := [notice] }
     p.rejects = [] ∧ p.replies = [] ∧ p.notices ≠ [] ∧ p.restarting = false) ∧
    (s0.port.mask.getLsbD notice.kind = true ∧ s0.port.notices.length < 32 ∧
      (0#13).getLsbD notice.kind = false ∧ 32 ≤ (List.replicate 32 notice).length) ∧
    (restarting.port.sending = some .reply ∧
      restarting.port.replies = ⟨3, 1, .ok false .empty, true⟩ :: []) ∧
    (({ s0.port with sending := some (.reject ⟨.busy, 1⟩) } : ControlPort).sending =
      some (.reject ⟨.busy, 1⟩)) ∧
    ((1 : Nat) ≠ 0x03) := by decide

/-- R169: the check of a valid frame closes it, and its request is answered. -/
theorem test_frame :
    after (.byteReceived 0x8C#8 true) (assembling .check [0#8, 1#8, 1#8, 0xEF#8] 1)
        (fun t => (t.port.phase, t.port.sending)) = some (.hunt, some .reply) := by
  decide +kernel
/-- R169: a wrong check is answered with a REJECT. -/
theorem test_bad_frame :
    after (.byteReceived 0x8D#8 true) (assembling .check [0#8, 1#8, 1#8, 0xEF#8] 1)
        (fun t => t.port.sending) = some (some (.reject ⟨.badFrame, 0⟩)) := by decide +kernel
/-- R173: the reply of NOTICE_MASK carries the enable of kind 0xC0 + k in bit k. -/
theorem test_mask_bytes :
    (Reply.mk 0x02 1 (.ok false (.noticeMask 0x1801#13)) true).contents = [0x18#8, 0x01#8] := by
  decide +kernel
/-- R174: STATUS reports the power-up state. -/
theorem test_status :
    after (.status 1) s0 (fun t => t.port.replies.map Reply.tag) = some [1] := by decide +kernel
/-- R175: the last byte of the reply to RESTART brings the reset. -/
theorem test_restart :
    after .frameSent restarting (fun t => (t.port.lastReset, t.port.replies)) = some (.restart, []) := by
  decide +kernel

/-! ## The machine -/

/-- A command at the front of the queue, after reset. -/
def queued (i : Instr) : State := { s0 with pending := [i, .wordClockEdge] }

theorem witness_StepRunsTheFrontCommand :
    (queued (.stop 1)).pending = .stop 1 :: [.wordClockEdge] ∧ s0.pending = [] := by decide

/-- A stopped show with an UP link whose queue holds two LAMPs, a book, a pending entry with its
expected patch, one MD, a notice and a reply, and the send point of station 1 next. -/
def busyStop : State :=
  let s := pends (.sent 9600 false 1 12000) (mdAll (stopped (twoCues s0)))
  let s := s.mapClick fun e => { e with held := true }
  let s := (List.finRange 24).foldl
    (fun s n => if n = 0 then s
      else s.setCh n { s.ch n with link := { (s.ch n).link with state := .off } }) s
  let s := link1 (fun l => { l with queue := [.lamp 5 .stop (.level true), .lamp 6 .cue (.level true)] }) s
  { (port1 (fun p => { p with notices := [notice], replies := [⟨1, 1, .ok false .empty, true⟩] }) s) with
    pending := [.eventSendPoint 0] }

theorem witness_StepKeepsQueues : busyStop.QueueInv ∧ busyStop.Runs := by
  refine ⟨?_, _, rfl⟩
  unfold State.QueueInv QueueOrdered
  decide +kernel

theorem witness_StepKeepsTheStop :
    busyStop.StoppedInv ∧ busyStop.ctl.state = .stopped ∧ busyStop.Runs := by
  refine ⟨⟨?_, fun _ => ⟨by decide +kernel, by decide +kernel, by decide +kernel, stopRecord,
    by decide +kernel, .inl rfl, fun n => ⟨?_, ?_⟩⟩⟩, by decide +kernel, _, rfl⟩
  · unfold State.LinkInv
    decide +kernel
  · have h : ∀ n e, (busyStop.patchOf n).entry = some e → e.phase = .sent 9600 false 1 12000 := by
      intro n
      by_cases hn : n = 0
      · subst hn
        intro e he
        have : (busyStop.patchOf 0).entry = some ⟨⟨0, 5⟩, 9600, .sent 9600 false 1 12000⟩ := by decide +kernel
        rw [this] at he
        cases he
        rfl
      · intro e he
        have : ∀ n, n ≠ 0 → (busyStop.patchOf n).entry = none := by decide +kernel
        rw [this n hn] at he
        cases he
    intro e he
    rw [h n e he]
    trivial
  · have h : ∀ n, ∀ e ∈ (busyStop.ch n).link.queue, e.isLamp = true := by decide +kernel
    intro e he hl
    rw [h n e he] at hl
    cases hl

theorem witness_StepKeepsTheBook : busyStop.BookInv ∧ busyStop.cue.book.cues ≠ [] ∧ busyStop.Runs := by
  refine ⟨?_, by decide +kernel, _, rfl⟩
  unfold State.BookInv Book.Ordered Book.Complete
  decide +kernel

theorem witness_StepKeepsRecords :
    busyStop.PortInv ∧ busyStop.SlotInv ∧ busyStop.PatchInv ∧ busyStop.MdInv ∧ busyStop.Runs := by
  refine ⟨?_, fun _ => by decide +kernel, ?_, ?_, _, rfl⟩
  · unfold State.PortInv
    decide +kernel
  · intro n e he
    by_cases hn : n = 0
    · subst hn
      have h : (busyStop.patchOf 0).entry = some ⟨⟨0, 5⟩, 9600, .sent 9600 false 1 12000⟩ := by decide +kernel
      rw [h] at he
      cases he
      decide +kernel
    · have h : ∀ n, n ≠ 0 → (busyStop.patchOf n).entry = none := by decide +kernel
      rw [h n hn] at he
      cases he
  · unfold State.MdInv
    decide +kernel

/-- A step takes the command at the front and leaves the rest. -/
theorem test_step :
    (match step (queued .internalPeriod) with
     | .next t => some (t.time.S, t.pending)
     | _ => none) = some (1, [.wordClockEdge]) := by decide +kernel

end Sys2Proof.Tests
end

section
/-! PROOFS. The CLOCK requests of R9 and R10, and the places of the subdivision clicks of R17. -/

namespace Sys2Proof.Machine

/-! ## A request its owner answers at once -/

/-- R170: an admitted request of the right length that its owner does not defer is replied with the owner's
answer. -/
theorem exec_request_replied {i : Instr} {r : Request} {s t : State} {a : Answer} (hr : requestOf i = some r)
    (hlen : r.lengthOk = true) (hadm : s.admits r.tag) (hact : r.owner s.taken = (t, a))
    (hnow : a ≠ .deferred) : exec i s = .next (t.replied r.kind r.tag a) := by
  rw [exec_request i s r hr, hlen, serve_admitted _ _ _ _ hadm, hact, State.answer_done _ _ _ _ hnow]

/-! ## The owner's judgement of a CLOCK request (R9, R10) -/

@[simp] theorem Timebase.record_eq_clockRecordOf (t : Timebase) : t.record = clockRecordOf t := rfl

/-- R9: the OK of a CLOCK request carries the record of the state it leaves. -/
theorem clockReply_eq (s : State) : clockReply s = (s, .ok false (.clock (clockRecordOf s.time))) := rfl

/-- R10, first row: in WORD, or with a switch pending, only the auto-switch mark is cleared. -/
theorem actClockSelectWord_settled {s : State}
    (h : s.time.clockState = .word ∨ s.time.pendingSwitch ≠ none) :
    actClockSelectWord s = clockReply (s.mapTime fun t => { t with autoSwitch := false }) := by
  rw [actClockSelectWord, if_pos h]

/-- R10, second row: elsewhere a good word clock starts the switch for the host. -/
theorem actClockSelectWord_starts {s : State} (hstate : s.time.clockState ≠ .word)
    (hpend : s.time.pendingSwitch = none) (hgood : s.time.goodRun = 48000) :
    actClockSelectWord s =
      clockReply (s.mapTime fun t => { t with autoSwitch := false, pendingSwitch := some .host }) := by
  rw [actClockSelectWord, if_neg (by simp [hstate, hpend]),
    if_pos (by simpa [Timebase.wordClockGood] using hgood)]

/-- R10, third row: elsewhere a word clock that is not good leaves the request refused. -/
theorem actClockSelectWord_refused {s : State} (hstate : s.time.clockState ≠ .word)
    (hpend : s.time.pendingSwitch = none) (hbad : s.time.goodRun ≠ 48000) :
    actClockSelectWord s = (s, .refused .notReady (.clock (clockRecordOf s.time))) := by
  rw [actClockSelectWord, if_neg (by simp [hstate, hpend]),
    if_neg (by simpa [Timebase.wordClockGood] using hbad), Timebase.record_eq_clockRecordOf]

/-- R10: a SELECT_WORD whose judgement is known is replied with it. -/
theorem exec_clockSelectWord {s t : State} {tag : Nat} {a : Answer} (hadm : s.admits tag)
    (hact : actClockSelectWord s.taken = (t, a)) (hnow : a ≠ .deferred) :
    exec (.clockSelectWord tag) s = .next (t.replied 0x08 tag a) :=
  exec_request_replied (i := .clockSelectWord tag) rfl rfl hadm hact hnow

/-- R9: QUERY is replied with the record and changes nothing else. -/
theorem exec_clockQuery {s : State} {tag : Nat} (hadm : s.admits tag) :
    exec (.clockQuery tag) s =
      .next (s.taken.replied 0x08 tag (.ok false (.clock (clockRecordOf s.time)))) := by
  rw [← s.taken_time]
  exact exec_request_replied (i := .clockQuery tag) rfl rfl hadm (clockReply_eq s.taken) nofun

/-- Settles O3: QUERY by its owner's one answer, SELECT_WORD by the three rows of R10. -/
theorem clockRequests : Obligations.ClockRequests := by
  intro s tag hadm
  refine ⟨exec_clockQuery hadm, fun hsettled => ?_, fun hstate hpend hgood => ?_,
    fun hstate hpend hbad => ?_⟩
  · have hact := actClockSelectWord_settled (s := s.taken) (by simpa using hsettled)
    simpa [State.mapTime] using exec_clockSelectWord hadm (hact.trans (clockReply_eq _)) nofun
  · have hact := actClockSelectWord_starts (s := s.taken) (by simpa using hstate)
      (by simpa using hpend) (by simpa using hgood)
    simpa [State.mapTime] using exec_clockSelectWord hadm (hact.trans (clockReply_eq _)) nofun
  · have hact := actClockSelectWord_refused (s := s.taken) (by simpa using hstate)
      (by simpa using hpend) (by simpa using hbad)
    simpa using exec_clockSelectWord hadm hact nofun

/-! ## The subdivision clicks of a beat (R17) -/

@[simp] theorem subOnsets_length (acc p d : Nat) : (subOnsets acc p d).length = d - 1 := by
  simp [subOnsets]

/-- R17: click `i + 1` of a beat stands at place `i` of the list. -/
theorem subOnsets_getElem? {d i : Nat} (acc p : Nat) (h : i < d - 1) :
    (subOnsets acc p d)[i]? = some (onsetOf (acc + (i + 1) * p / d)) := by
  simp [subOnsets, h]

theorem subdivisionsOf_pick_one (acc p : Nat) : (subdivisionsOf acc p).pick 1 = [] := rfl

/-- R17: a beat record holds the onsets of each subdivision a station can have. -/
theorem subdivisionsOf_pick {d : Nat} (acc p : Nat) (h : d ∈ [2, 3, 4, 6, 8]) :
    (subdivisionsOf acc p).pick d = subOnsets acc p d := by
  simp only [List.mem_cons, List.not_mem_nil, or_false] at h
  rcases h with rfl | rfl | rfl | rfl | rfl <;> rfl

/-- R15: no beat of the tempo range is shorter than 7,200 samples. -/
theorem le_beatPeriod {T : Nat} (hlow : 2000 ≤ T) (hhigh : T ≤ 40000) :
    7200 * 65536 ≤ beatPeriod T :=
  (Nat.le_div_iff_mul_le (by omega)).mpr (by simp only [Config.periodConstant]; omega)

/-- R16: accumulators `k` samples of fractions apart have onsets at least `k` samples apart. -/
theorem onsetOf_add_le {a b k : Nat} (h : a + k * 65536 ≤ b) : onsetOf a + k ≤ onsetOf b := by
  show a / 65536 + k ≤ b / 65536
  omega

/-- R17: with at most 8 clicks to a beat of 7,200 samples or more, each share of the period is at least 900
samples beyond the one before. -/
theorem share_add_le_share_succ {p d : Nat} (hd : 0 < d) (hd8 : d ≤ 8) (hp : 7200 * 65536 ≤ p) (j : Nat) :
    j * p / d + 900 * 65536 ≤ (j + 1) * p / d := by
  have hshare : 900 * 65536 ≤ p / d := (Nat.le_div_iff_mul_le hd).mpr (by omega)
  calc j * p / d + 900 * 65536 ≤ j * p / d + p / d := Nat.add_le_add_left hshare _
    _ ≤ (j * p + p) / d := Nat.div_add_div_le_add_div
    _ = (j + 1) * p / d := by rw [Nat.succ_mul]

/-- R17: so the first click and every later one lie at least 900 samples into the beat. -/
theorem le_share_succ {p d : Nat} (hd : 0 < d) (hd8 : d ≤ 8) (hp : 7200 * 65536 ≤ p) (j : Nat) :
    900 * 65536 ≤ (j + 1) * p / d :=
  (Nat.le_add_left _ _).trans (share_add_le_share_succ hd hd8 hp j)

/-- R17: no share up to the last runs past the period. -/
theorem share_le_period {p d j : Nat} (h : j ≤ d) : j * p / d ≤ p :=
  Nat.div_le_of_le_mul (Nat.mul_le_mul_right p h)

/-- Settles O6: every gap comes from one share of the period being at least 900 samples. -/
theorem subdivisionPlaces : Obligations.SubdivisionPlaces := by
  intro acc T hlow hhigh p
  have hp : 7200 * 65536 ≤ p := le_beatPeriod hlow hhigh
  refine ⟨subdivisionsOf_pick_one acc p, fun d hd => ?_⟩
  obtain ⟨hpos, hd8⟩ : 0 < d ∧ d ≤ 8 := by
    simp only [List.mem_cons, List.not_mem_nil, or_false] at hd
    omega
  rw [subdivisionsOf_pick acc p hd]
  refine ⟨subOnsets_length acc p d, fun j hj hjd => ?_⟩
  obtain ⟨i, rfl⟩ : ∃ i, j = i + 1 := ⟨j - 1, by omega⟩
  have hbefore := le_share_succ hpos hd8 hp i
  have hafter := share_add_le_share_succ hpos hd8 hp (i + 1)
  have hlast : (i + 1 + 1) * p / d ≤ p := share_le_period (by omega)
  refine ⟨subOnsets_getElem? acc p (by omega), onsetOf_add_le ?_, onsetOf_add_le ?_,
    onsetOf_add_le (k := 899) ?_⟩ <;> omega

end Sys2Proof.Machine
end

section
/-! PROOFS. What the acts of the machine keep: an outbound queue's order (R134), then every invariant, act by
act, for the statements about every step. -/

namespace Sys2Proof.Machine

/-! ## Outbound queues (R134, R136) -/

theorem insertDue_perm (e : Event) (q : List Event) : (insertDue e q).Perm (e :: q) := by
  induction q with
  | nil => exact .refl _
  | cons x xs ih =>
    simp only [insertDue]
    split
    · exact (ih.cons x).trans (.swap ..)
    · exact .refl _

@[simp] theorem insertDue_length (e : Event) (q : List Event) : (insertDue e q).length = q.length + 1 := by
  simpa using (insertDue_perm e q).length_eq

theorem mem_insertDue {e x : Event} {q : List Event} : x ∈ insertDue e q ↔ x = e ∨ x ∈ q := by
  simpa using (insertDue_perm e q).mem_iff (a := x)

/-- R134: an event placed by its due leaves an ordered queue ordered. -/
theorem insertDue_pairwise {q : List Event} (e : Event) (h : q.Pairwise fun a b => a.due ≤ b.due) :
    (insertDue e q).Pairwise fun a b => a.due ≤ b.due := by
  induction q with
  | nil => simp [insertDue]
  | cons x xs ih =>
    obtain ⟨hx, hxs⟩ := List.pairwise_cons.mp h
    simp only [insertDue]
    split
    next hle =>
      refine List.pairwise_cons.mpr ⟨fun y hy => ?_, ih hxs⟩
      rcases mem_insertDue.mp hy with rfl | hy
      · exact hle
      · exact hx y hy
    next hlt =>
      have hex : e.due ≤ x.due := Nat.le_of_lt (Nat.lt_of_not_le hlt)
      refine List.pairwise_cons.mpr ⟨fun y hy => ?_, h⟩
      rcases List.mem_cons.mp hy with rfl | hy
      · exact hex
      · exact Nat.le_trans hex (hx y hy)

theorem insertDue_patches (e : Event) (q : List Event) :
    ((insertDue e q).filter Event.isPatch).length =
      (q.filter Event.isPatch).length + if e.isPatch = true then 1 else 0 := by
  rw [((insertDue_perm e q).filter _).length_eq, List.filter_cons]
  split <;> simp

theorem removeFirst_sublist (p : Event → Bool) (q : List Event) : (removeFirst p q).Sublist q := by
  induction q with
  | nil => exact .slnil
  | cons x xs ih =>
    simp only [removeFirst]
    split
    · exact .cons x (.refl xs)
    · exact ih.cons_cons x

theorem removeFirst_length {p : Event → Bool} {q : List Event} (h : q.any p = true) :
    (removeFirst p q).length + 1 = q.length := by
  induction q with
  | nil => simp at h
  | cons x xs ih =>
    simp only [removeFirst]
    split
    next => simp
    next hx =>
      rw [List.any_cons, Bool.or_eq_true] at h
      simp [ih (h.resolve_left hx)]

/-- A part of an ordered queue is ordered. -/
theorem QueueOrdered.sublist {p q : List Event} (h : QueueOrdered q) (hp : p.Sublist q) : QueueOrdered p := by
  obtain ⟨hlen, hord, hone⟩ := h
  exact ⟨hp.length_le.trans hlen, hord.sublist hp, (hp.filter _).length_le.trans hone⟩

theorem QueueOrdered.nil : QueueOrdered [] := ⟨by simp, .nil, by simp⟩

/-- R134: an event placed in an ordered queue with room and no second PATCH leaves it ordered. -/
theorem QueueOrdered.insertDue {q : List Event} (h : QueueOrdered q) (e : Event) (hroom : q.length < 32)
    (hone : e.isPatch = true → q.any Event.isPatch = false) : QueueOrdered (insertDue e q) := by
  refine ⟨by rw [insertDue_length]; omega, insertDue_pairwise e h.2.1, ?_⟩
  rw [insertDue_patches]
  split
  next hp =>
    have hnone : q.filter Event.isPatch = [] := by simpa [List.filter_eq_nil_iff] using hone hp
    simp [hnone]
  next => exact h.2.2

theorem any_isPatch_removeFirst {p : Event → Bool} {q : List Event} (h : q.any Event.isPatch = false) :
    (removeFirst p q).any Event.isPatch = false := by
  rw [List.any_eq_false] at h ⊢
  exact fun x hx => h x ((removeFirst_sublist p q).mem hx)

/-- R136: a full queue without a CLICK or a PATCH holds a LAMP. -/
theorem any_isLamp_of_full {q : List Event} (hfull : 32 ≤ q.length) (hclick : q.any Event.isClick = false)
    (hpatch : q.any Event.isPatch = false) : q.any Event.isLamp = true := by
  cases q with
  | nil => simp at hfull
  | cons x xs => cases x <;> simp_all [Event.isClick, Event.isPatch, Event.isLamp]

/-- R134, R136: an event handed to a link that is UP leaves its queue ordered. -/
theorem Link.place_ordered {l : Link} (h : QueueOrdered l.queue) (e : Event) :
    QueueOrdered (l.place e).1.queue := by
  unfold Link.place
  split
  next hp =>
    rw [Bool.and_eq_true] at hp
    have hlt : (l.queue.filter fun x => !x.isPatch).length < l.queue.length := by
      obtain ⟨x, hx, hxp⟩ := List.any_eq_true.mp hp.2
      exact List.length_filter_lt_length_iff_exists.mpr ⟨x, hx, by simp [hxp]⟩
    exact (h.sublist List.filter_sublist).insertDue e (hlt.trans_le h.1) fun _ => by simp
  next hp =>
    have hone : e.isPatch = true → l.queue.any Event.isPatch = false := fun he => by
      simpa [he] using hp
    split
    next hroom => exact h.insertDue e hroom hone
    next hfull =>
      simp only [Config.queueCapacity, Nat.not_lt] at hfull
      split
      next => exact h
      next =>
        split
        next hc =>
          have hlen := removeFirst_length hc
          have hmax := h.1
          exact (h.sublist (removeFirst_sublist _ _)).insertDue e (by omega)
            fun he => any_isPatch_removeFirst (hone he)
        next hc =>
          split
          next he =>
            have hlen := removeFirst_length
              (any_isLamp_of_full hfull (Bool.eq_false_iff.mpr hc) (hone he))
            have hmax := h.1
            exact (h.sublist (removeFirst_sublist _ _)).insertDue e (by omega)
              fun he => any_isPatch_removeFirst (hone he)
          next => exact h

/-- R134: a handed event is the only one that may join the queue. -/
theorem Link.mem_place {l : Link} {e x : Event} (h : x ∈ (l.place e).1.queue) : x = e ∨ x ∈ l.queue := by
  unfold Link.place at h
  split at h
  · exact (mem_insertDue.mp h).imp_right fun h => List.mem_of_mem_filter h
  split at h
  · exact mem_insertDue.mp h
  split at h
  · exact .inr h
  split at h
  · exact (mem_insertDue.mp h).imp_right (removeFirst_sublist _ _).mem
  split at h
  · exact (mem_insertDue.mp h).imp_right (removeFirst_sublist _ _).mem
  · exact .inr h

@[simp] theorem Link.place_state (l : Link) (e : Event) : (l.place e).1.state = l.state := by
  unfold Link.place
  repeat' split
  all_goals rfl

/-! ## Links fed with events -/

/-- What an act that feeds a link keeps: the state, an ordered queue, an empty queue where the link is not UP, and,
where `q` holds, that no CLICK or PATCH joins the queue. -/
structure Link.Feeds (q : Prop) (l m : Link) : Prop where
  state : m.state = l.state
  ordered : QueueOrdered l.queue → QueueOrdered m.queue
  idle : l.state ≠ .up → l.queue = [] → m.queue = []
  quiet : q → ∀ e ∈ m.queue, e.isLamp = false → e ∈ l.queue

namespace Link.Feeds

variable {q : Prop} {l m n : Link}

/-- An act that leaves the state and thins the queue. -/
theorem of_sublist (hs : m.state = l.state) (hq : m.queue.Sublist l.queue) : l.Feeds q m where
  state := hs
  ordered h := h.sublist hq
  idle _ h := List.sublist_nil.mp (h ▸ hq)
  quiet _ _ h _ := hq.mem h

theorem refl (l : Link) : l.Feeds q l := of_sublist rfl (.refl _)

theorem trans (h : l.Feeds q m) (k : m.Feeds q n) : l.Feeds q n where
  state := k.state.trans h.state
  ordered hl := k.ordered (h.ordered hl)
  idle hs hl := k.idle (h.state ▸ hs) (h.idle hs hl)
  quiet hq e he hn := h.quiet hq e (k.quiet hq e he hn) hn

theorem hand (e : Event) (h : q → e.isLamp = true) : l.Feeds q (l.hand e).1 := by
  unfold Link.hand
  split
  next hup =>
    refine ⟨l.place_state e, fun hl => l.place_ordered hl e, fun hs => absurd hup hs, ?_⟩
    intro hq x hx hn
    rcases Link.mem_place hx with rfl | hx
    · exact absurd (h hq) (by simp [hn])
    · exact hx
  next => exact refl l

theorem handAll (es : List Event) (h : q → ∀ e ∈ es, e.isLamp = true) : l.Feeds q (l.handAll es) := by
  unfold Link.handAll
  induction es generalizing l with
  | nil => exact refl l
  | cons e es ih =>
    exact (hand e fun hq => h hq e List.mem_cons_self).trans
      (ih fun hq x hx => h hq x (List.mem_cons_of_mem _ hx))

theorem setLampState (k : Lamp) (x : Option LampState) : l.Feeds q (l.setLampState k x) := by
  cases k <;> exact of_sublist rfl (.refl _)

theorem setLamp (k : Lamp) (src : LampSource) (p : LampPattern) (d : Sample) :
    l.Feeds q (l.setLamp k src p d).1 := by
  have cleared : l.Feeds q
      { l with queue := l.queue.filter fun x => !(x.isFor k && decide (d ≤ x.due)) } :=
    of_sublist rfl List.filter_sublist
  unfold Link.setLamp
  split
  · exact (cleared.trans (setLampState k _)).trans (hand (.lamp d k (.pattern p)) fun _ => rfl)
  · exact cleared.trans (setLampState k _)

theorem tickLamp (k : Lamp) (x : Sample) : l.Feeds q (l.tickLamp k x) := by
  unfold Link.tickLamp
  split
  · split
    · dsimp only
      split
      · exact setLampState k _
      · exact (setLampState k _).trans (hand (.lamp x k _) fun _ => rfl)
    · exact refl l
  · exact refl l

theorem runLamp (b : BeatRecord) (k : Lamp) : l.Feeds q (l.runLamp b k) := by
  unfold Link.runLamp
  split
  next r _ =>
    suffices h : ∀ (ts : List Sample) (l : Link), l.Feeds q (ts.foldl (Link.tickLamp k) l) from h _ l
    intro ts
    induction ts with
    | nil => exact refl
    | cons t ts ih => exact fun l => (tickLamp k t).trans (ih _)
  next => exact refl l

end Link.Feeds

end Sys2Proof.Machine
end

section
/-! PROOFS. The relation between two states of one act that carries every invariant, and what the named updates of
the state and the acts on one station need for it. -/

namespace Sys2Proof.Machine

/-! ## What an act keeps -/

/-- Table 7.4, R132, R134: a link is OFF just where the role is UNUSED, and holds events only while it is UP. -/
def Channel.LinkOk (c : Channel) : Prop :=
  (c.link.state = .off ↔ c.assigned.role = .unused) ∧ (c.link.state ≠ .up → c.link.queue = [])

/-- R111: no patch waits, and no CLICK or PATCH due at or after `y` is queued. -/
def State.QuietFrom (s : State) (y : Sample) : Prop :=
  ∀ n, (∀ e, (s.patchOf n).entry = some e → e.phase.notWaiting) ∧
    ∀ e ∈ (s.ch n).link.queue, e.isLamp = false → e.due < y

/-- R112: there is a stop record of the stop sample `y`, and it names a cause. -/
def State.RecordAt (s : State) (y : Sample) : Prop :=
  ∃ r, s.ctl.stopRecord = some r ∧ r.causes.Nonempty ∧ r.stopSample = y

/-- R65: both slots are empty. -/
def State.NoneFired (s : State) : Prop := s.cue.inFlight = none ∧ s.cue.queued = none

theorem State.stoppedQuiet_iff (s : State) :
    s.StoppedQuiet ↔ (s.ctl.state = .stopped →
      s.click.held = true ∧ s.NoneFired ∧ ∃ y, s.RecordAt y ∧ s.QuietFrom y) := by
  refine imp_congr_right fun _ => and_congr_right fun _ => ?_
  constructor
  · rintro ⟨hf, hq, r, hr, hc, hn⟩
    exact ⟨⟨hf, hq⟩, r.stopSample, ⟨r, hr, hc, rfl⟩, hn⟩
  · rintro ⟨⟨hf, hq⟩, y, ⟨r, hr, hc, rfl⟩, hn⟩
    exact ⟨hf, hq, r, hr, hc, hn⟩

/-- R170, R172, R173: what an act may do to the bounds of the port. -/
structure ControlPort.Keeps (p q : ControlPort) : Prop where
  notices : p.notices.length ≤ 32 → q.notices.length ≤ 32
  rejects : p.rejects.length ≤ 4 → q.rejects.length ≤ 4
  places : q.placesHeld ≤ p.placesHeld

theorem ControlPort.Keeps.refl (p : ControlPort) : p.Keeps p := ⟨id, id, Nat.le_refl _⟩

theorem ControlPort.Keeps.trans {p q r : ControlPort} (h : p.Keeps q) (k : q.Keeps r) : p.Keeps r :=
  ⟨k.notices ∘ h.notices, k.rejects ∘ h.rejects, k.places.trans h.places⟩

theorem ControlPort.Keeps.offer (p : ControlPort) (n : Notice) : p.Keeps (p.offer n) :=
  ⟨p.offer_notices_length n, by simp, by simp⟩

theorem ControlPort.Keeps.arbitrate (p : ControlPort) : p.Keeps p.arbitrate :=
  ⟨by simp, p.arbitrate_rejects_length.trans, by simp⟩

/-- What one act keeps: the invariants of O57 to O60; where `roles` holds, those of the roles and of the link states; and where `hush` holds, that a stopped show stays halted. -/
structure Keeps (hush roles : Prop) (s t : State) : Prop where
  port : s.port.Keeps t.port
  queues : s.QueueInv → t.QueueInv
  slots : s.SlotInv → t.SlotInv
  patches : s.PatchInv → t.PatchInv
  book : s.BookInv → t.BookInv
  md : roles → s.MdInv → t.MdInv
  links : roles → s.LinkInv → t.LinkInv
  shows : t.ctl.state = .stopped → s.ctl.state = .stopped
  quiet : hush → ∀ y, s.QuietFrom y → t.QuietFrom y
  held : hush → s.click.held = true → t.click.held = true
  empty : hush → s.NoneFired → t.NoneFired
  record : hush → ∀ y, s.RecordAt y → t.RecordAt y

namespace Keeps

variable {hush roles : Prop} {s t u : State}

theorem refl (s : State) : Keeps hush roles s s :=
  ⟨.refl _, id, id, id, id, fun _ => id, fun _ => id, id, fun _ _ => id, fun _ => id, fun _ => id,
    fun _ _ => id⟩

theorem trans (h : Keeps hush roles s t) (k : Keeps hush roles t u) : Keeps hush roles s u where
  port := h.port.trans k.port
  queues := k.queues ∘ h.queues
  slots := k.slots ∘ h.slots
  patches := k.patches ∘ h.patches
  book := k.book ∘ h.book
  md hr := k.md hr ∘ h.md hr
  links hr := k.links hr ∘ h.links hr
  shows := h.shows ∘ k.shows
  quiet hq y := k.quiet hq y ∘ h.quiet hq y
  held hq := k.held hq ∘ h.held hq
  empty hq := k.empty hq ∘ h.empty hq
  record hq y := k.record hq y ∘ h.record hq y

/-- An act that may be made while the show is STOPPED may be made in any show state. -/
theorem loud (h : Keeps True roles s t) : Keeps hush roles s t :=
  { h with
    quiet := fun _ => h.quiet trivial, held := fun _ => h.held trivial
    empty := fun _ => h.empty trivial, record := fun _ => h.record trivial }

theorem ite {c : Prop} [Decidable c] (h : c → Keeps hush roles s t) (k : ¬ c → Keeps hush roles s u) :
    Keeps hush roles s (if c then t else u) := by
  split
  · exact h ‹_›
  · exact k ‹_›

/-- Acts on stations in turn. -/
theorem forStations {f : Station → State → State} (h : ∀ n s, Keeps hush roles s (f n s))
    (ns : List Station) (s : State) : Keeps hush roles s (forStations f ns s) :=
  forStations_rel (Keeps hush roles) refl (fun _ _ _ => trans) f h ns s

theorem forAll {f : Station → State → State} (h : ∀ n s, Keeps hush roles s (f n s)) (s : State) :
    Keeps hush roles s (forAll f s) := forStations h allStations s

theorem foldl {α : Type} {f : State → α → State} (h : ∀ s a, Keeps hush roles s (f s a)) (as : List α)
    (s : State) : Keeps hush roles s (as.foldl f s) := by
  induction as generalizing s with
  | nil => exact refl s
  | cons a as ih => exact (h s a).trans (ih _)

/-! ## The named updates -/

/-- An act outside the Click Engine, the Cue Engine, the show state and the stations' records. -/
theorem same (hclick : t.click = s.click) (hcue : t.cue = s.cue) (hpatches : t.patches = s.patches)
    (hctl : t.ctl = s.ctl) (hchan : t.chan = s.chan) (hport : s.port.Keeps t.port) :
    Keeps hush roles s t := by
  have hch : t.ch = s.ch := funext fun n => State.ch_congr hchan n
  have hpo : t.patchOf = s.patchOf := funext fun n => State.patchOf_congr hpatches n
  refine ⟨hport, ?_, ?_, ?_, ?_, fun _ => ?_, fun _ => ?_, ?_, fun _ y => ?_, fun _ => ?_, fun _ => ?_,
    fun _ y => ?_⟩ <;>
  simp only [State.QueueInv, State.SlotInv, State.PatchInv, State.BookInv, State.MdInv,
    State.LinkInv, State.QuietFrom, State.NoneFired, State.RecordAt, hch, hpo, hcue, hclick, hctl, imp_self]

theorem offer (n : Notice) : Keeps hush roles s (s.offer n) :=
  same rfl rfl rfl rfl rfl (.offer s.port n)

theorem emit (e : Emission) : Keeps hush roles s (s.emit e) := same rfl rfl rfl rfl rfl (.refl _)

theorem send (n : Station) (f : LinkFrame) : Keeps hush roles s (s.send n f) := emit _

theorem report (r : Report) : Keeps hush roles s (s.report r) := same rfl rfl rfl rfl rfl (.refl _)

theorem mapTime (f : Timebase → Timebase) : Keeps hush roles s (s.mapTime f) :=
  same rfl rfl rfl rfl rfl (.refl _)

theorem atS (x : Sample) : Keeps hush roles s (s.atS x) := same rfl rfl rfl rfl rfl (.refl _)

/-- R170: a deferred reply holds no place. -/
theorem deferredReply (kind tag : Nat) (a : Answer) : Keeps hush roles s (s.deferredReply kind tag a) := by
  cases a with
  | deferred => exact refl s
  | _ =>
    exact same rfl rfl rfl rfl rfl
      ⟨id, id, by simp [State.deferredReply, State.answer, ControlPort.answer, ControlPort.placesHeld]⟩

theorem mapClick (f : ClickEngine → ClickEngine) (h : hush → s.click.held = true → (f s.click).held = true) :
    Keeps hush roles s (s.mapClick f) :=
  { (refl s : Keeps hush roles s s) with held := h }

theorem mapCue (f : CueEngine → CueEngine)
    (hslots : (s.cue.inFlight = none → s.cue.queued = none) →
      (f s.cue).inFlight = none → (f s.cue).queued = none)
    (hbook : s.BookInv → (s.mapCue f).BookInv) (hempty : hush → s.NoneFired → (s.mapCue f).NoneFired) :
    Keeps hush roles s (s.mapCue f) :=
  { (refl s : Keeps hush roles s s) with slots := hslots, book := hbook, empty := hempty }

/-- A change of the Cue Engine that leaves the book, the buffer, the edit state and the slots. -/
theorem mapCue_aside (f : CueEngine → CueEngine) (hb : (f s.cue).book = s.cue.book)
    (hbuf : (f s.cue).buffer = s.cue.buffer) (he : (f s.cue).edit = s.cue.edit)
    (hf : (f s.cue).inFlight = s.cue.inFlight) (hq : (f s.cue).queued = s.cue.queued) :
    Keeps hush roles s (s.mapCue f) := by
  refine mapCue f ?_ ?_ fun _ => ?_
  · rw [hf, hq]; exact id
  · simp only [State.BookInv, State.mapCue_cue, hb, hbuf, he]; exact id
  · simp only [State.NoneFired, State.mapCue_cue, hf, hq]; exact id

theorem mapCtl (f : ShowControl → ShowControl)
    (hstate : (f s.ctl).state = .stopped → s.ctl.state = .stopped)
    (hrecord : hush → ∀ y, s.RecordAt y → (s.mapCtl f).RecordAt y) : Keeps hush roles s (s.mapCtl f) :=
  { (refl s : Keeps hush roles s s) with shows := hstate, record := hrecord }

/-- A change of the Show State Controller that leaves the stop record and stops no show. -/
theorem mapCtl_aside (f : ShowControl → ShowControl)
    (hstate : (f s.ctl).state = .stopped → s.ctl.state = .stopped)
    (hrecord : (f s.ctl).stopRecord = s.ctl.stopRecord) : Keeps hush roles s (s.mapCtl f) :=
  mapCtl f hstate fun _ y => by simp only [State.RecordAt, State.mapCtl_ctl, hrecord]; exact id

/-- R84: a patch record written. -/
theorem setPatch (n : Station) (p : PatchRecord)
    (hmatch : (∀ e, (s.patchOf n).entry = some e → (s.patchOf n).expected = some e.patch) →
      ∀ e, p.entry = some e → p.expected = some e.patch)
    (hwait : hush → (∀ e, (s.patchOf n).entry = some e → e.phase.notWaiting) →
      ∀ e, p.entry = some e → e.phase.notWaiting) : Keeps hush roles s (s.setPatch n p) := by
  refine { (refl s : Keeps hush roles s s) with patches := fun h m => ?_, quiet := fun hq y h m => ?_ }
  · rw [State.patchOf_setPatch]
    split
    · exact hmatch (h n)
    · exact h m
  · refine ⟨?_, (h m).2⟩
    rw [State.patchOf_setPatch]
    split
    · exact hwait hq (h n).1
    · exact (h m).1

/-- A channel written: what its queue, its role and its link state need. -/
theorem setCh (n : Station) (c : Channel)
    (hqueue : QueueOrdered (s.ch n).link.queue → QueueOrdered c.link.queue)
    (hrole : roles → c.assigned.role = (s.ch n).assigned.role) (hlink : roles → (s.ch n).LinkOk → c.LinkOk)
    (hquiet : hush → ∀ e ∈ c.link.queue, e.isLamp = false → e ∈ (s.ch n).link.queue) :
    Keeps hush roles s (s.setCh n c) := by
  refine
    { (refl s : Keeps hush roles s s) with
      queues := fun h m => ?_, md := fun hr h a b => ?_, links := fun hr h m => ?_
      quiet := fun hq y h m => ?_ }
  · rw [State.ch_setCh]
    split
    · exact hqueue (h n)
    · exact h m
  · have role : ∀ m, ((s.setCh n c).ch m).assigned.role = (s.ch m).assigned.role := fun m => by
      rw [State.ch_setCh]
      split
      next e => rw [hrole hr, e]
      next => rfl
    rw [role, role]
    exact h a b
  · rw [State.ch_setCh]
    split
    · exact hlink hr (h n)
    · exact h m
  · refine ⟨(h m).1, ?_⟩
    rw [State.ch_setCh]
    split
    · exact fun e he hn => (h n).2 e (hquiet hq e he hn) hn
    · exact (h m).2

/-- A channel written that keeps its role, its link state and its queue. -/
theorem setCh_aside (n : Station) (c : Channel) (hrole : c.assigned.role = (s.ch n).assigned.role)
    (hstate : c.link.state = (s.ch n).link.state) (hqueue : c.link.queue = (s.ch n).link.queue) :
    Keeps hush roles s (s.setCh n c) :=
  setCh n c (by rw [hqueue]; exact id) (fun _ => hrole)
    (fun _ => by simp only [Channel.LinkOk, hrole, hstate, hqueue]; exact id) fun _ e he _ => hqueue ▸ he

/-- A link fed with events. -/
theorem feed (n : Station) (f : Link → Link) (h : (s.ch n).link.Feeds hush (f (s.ch n).link)) :
    Keeps hush roles s (s.mapLink n f) :=
  setCh n _ h.ordered (fun _ => rfl)
    (fun _ k => ⟨by rw [h.state]; exact k.1, fun hs => h.idle (h.state ▸ hs) (k.2 (h.state ▸ hs))⟩) h.quiet

/-- A change of a link that leaves its state and its queue. -/
theorem link_aside (n : Station) (f : Link → Link) (hstate : (f (s.ch n).link).state = (s.ch n).link.state)
    (hqueue : (f (s.ch n).link).queue = (s.ch n).link.queue) : Keeps hush roles s (s.mapLink n f) :=
  setCh_aside n _ rfl hstate hqueue

/-- A change of the state of a link in use, not UP before it or with an empty queue, to another state in use. -/
theorem link_moved (n : Station) (f : Link → Link) (hqueue : (f (s.ch n).link).queue = (s.ch n).link.queue)
    (hidle : (s.ch n).link.state = .up → (s.ch n).link.queue = [])
    (hbefore : roles → (s.ch n).link.state ≠ .off) (hafter : (f (s.ch n).link).state ≠ .off) :
    Keeps hush roles s (s.mapLink n f) := by
  refine setCh n _ (by rw [hqueue]; exact id) (fun _ => rfl) (fun hr k => ⟨?_, fun _ => ?_⟩)
    fun _ e he _ => hqueue ▸ he
  · exact iff_of_false hafter fun h => hbefore hr (k.1.mpr h)
  · rw [hqueue]
    by_cases h : (s.ch n).link.state = .up
    · exact hidle h
    · exact k.2 h

end Keeps

end Sys2Proof.Machine
end

section
/-! PROOFS. A state with one station's two records, the port and what was put out written: the form in which every
act on one station is said once. -/

namespace Sys2Proof.Machine

/-! ## One station written -/

/-- The state with the channel and the patch record of station `n`, the port and what was put out replaced. -/
def State.written (s : State) (n : Station) (c : Channel) (p : PatchRecord) (q : ControlPort)
    (es : List Emission) : State :=
  { (s.setCh n c).setPatch n p with port := q, emitted := es }

/-- R132: the part of the port's notices that comes before LINK_STATE. -/
def ControlPort.downed (q : ControlPort) (n : Station) (c : Channel) (p : PatchRecord)
    (y : Sample) : ControlPort :=
  let q1 : ControlPort := { q with replies := q.replies ++ c.link.endings y }
  match p.entry with
  | some ⟨patch, _, .sent due _ serial _⟩ =>
    q1.offer (.patchState n .linkLost y .unconfirmed patch (some (due, serial)))
  | _ => q1

namespace State

variable (s : State) (n : Station) (c d : Channel) (p r : PatchRecord) (q : ControlPort) (es : List Emission)

theorem written_self : s.written n (s.ch n) (s.patchOf n) s.port s.emitted = s := by simp [written]

theorem eq_written {s : State} {n : Station} {t : State}
    (h : s.written n (s.ch n) (s.patchOf n) s.port s.emitted = t) : s = t := (s.written_self n).symm.trans h

@[simp] theorem written_time : (s.written n c p q es).time = s.time := rfl
@[simp] theorem written_click : (s.written n c p q es).click = s.click := rfl
@[simp] theorem written_cue : (s.written n c p q es).cue = s.cue := rfl
@[simp] theorem written_ctl : (s.written n c p q es).ctl = s.ctl := rfl
@[simp] theorem written_vin : (s.written n c p q es).vin = s.vin := rfl
@[simp] theorem written_vout : (s.written n c p q es).vout = s.vout := rfl
@[simp] theorem written_port : (s.written n c p q es).port = q := rfl
@[simp] theorem written_reports : (s.written n c p q es).reports = s.reports := rfl
@[simp] theorem written_emitted : (s.written n c p q es).emitted = es := rfl
@[simp] theorem written_pending : (s.written n c p q es).pending = s.pending := rfl
@[simp] theorem written_ch : (s.written n c p q es).ch n = c := s.ch_setCh_self n c
@[simp] theorem written_patchOf : (s.written n c p q es).patchOf n = p := s.patchOf_setPatch_self n p

theorem written_ch_other {m : Station} (h : m ≠ n) : (s.written n c p q es).ch m = s.ch m :=
  (s.ch_setCh n m c).trans (if_neg h)

theorem written_patchOf_other {m : Station} (h : m ≠ n) : (s.written n c p q es).patchOf m = s.patchOf m :=
  (s.patchOf_setPatch n m p).trans (if_neg h)

@[simp] theorem written_setCh : (s.written n c p q es).setCh n d = s.written n d p q es := by
  simp [written, setCh, setPatch]

@[simp] theorem written_mapLink (f : Link → Link) :
    (s.written n c p q es).mapLink n f = s.written n { c with link := f c.link } p q es := by
  simp [mapLink]

@[simp] theorem written_setPatch : (s.written n c p q es).setPatch n r = s.written n c r q es := by
  simp [written, setCh, setPatch]

@[simp] theorem written_offer (x : Notice) : (s.written n c p q es).offer x = s.written n c p (q.offer x) es :=
  rfl

@[simp] theorem written_emit (x : Emission) : (s.written n c p q es).emit x = s.written n c p q (es ++ [x]) :=
  rfl

@[simp] theorem written_send (f : LinkFrame) :
    (s.written n c p q es).send n f = s.written n c p q (es ++ [.link n s.time.S f]) := rfl

@[simp] theorem written_handEvent (e : Event) :
    (s.written n c p q es).handEvent n e = s.written n (c.handed e) p q es := by
  simp [handEvent, Channel.handed]

@[simp] theorem written_atS (x : Sample) :
    (s.written n c p q es).atS x = (s.atS x).written n c p q es := rfl

/-! ## The Patch Tracker (05) -/

@[simp] theorem written_sendPatch (patch : Patch) (due : Sample) (force : Bool) (cp : Sample) :
    (s.written n c p q es).sendPatch n patch due force cp =
      s.written n (c.handed (.patch due patch force ((p.serial + 1) % 256)))
        (p.sent patch due force cp c.link.lead) q es := by
  simp [sendPatch, PatchRecord.sent, Config.ackMargin]

@[simp] theorem written_patchState (cause : PatchStateCause) (after : PendingState) (e : PendingEntry) :
    (s.written n c p q es).patchState n cause after e =
      s.written n c p (q.offer (.patchState n cause s.time.S after e.patch e.phase.sentAs)) es := rfl

@[simp] theorem written_patchMismatch (cause : MismatchCause) :
    (s.written n c p q es).patchMismatch n cause =
      s.written n c p (q.offer (.patchMismatch n cause s.time.S p.confirmed p.expected)) es := by
  simp [patchMismatch]

theorem written_dropPatchRecord :
    (s.written n c p q es).dropPatchRecord n =
      s.written n { c with link := c.link.withdrawPatch } PatchRecord.powerUp q es := by
  simp [dropPatchRecord]

/-! ## Links (07) -/

@[simp] theorem written_linkNotice (before : LinkState) (cause : LinkCause)
    (e : Option (Nat × Nat × Nat × Bool)) :
    (s.written n c p q es).linkNotice n before cause e =
      s.written n c p (q.offer (.linkState n before c.link.state c.link.rate cause s.time.S e)) es := by
  simp [linkNotice]

@[simp] theorem written_burst :
    (s.written n c p q es).burst n =
      s.written n { c with link := { c.link with nextBurst := some (s.time.S + 4800) } } p q
        (es ++ [.link n s.time.S .seekBurst]) := by
  simp [burst, Config.seekInterval]

@[simp] theorem written_enterSeek (x : Option Sample) :
    (s.written n c p q es).enterSeek n x =
      s.written n { c with link := c.link.seeking s.time.S x } p q (es ++ [.link n s.time.S .seekBurst]) := by
  simp [enterSeek, Link.seeking]

@[simp] theorem written_linkOff :
    (s.written n c p q es).linkOff n = s.written n { c with link := c.link.off } p q es := by
  simp [linkOff, Link.off]

/-- R125: a page sent, with its contents made up. -/
theorem written_sendPage (k : PageKind) :
    (s.written n c p q es).sendPage n k =
      s.written n
        { c with
          link := c.link.paged k s.time.S
            (if k = .settings then some ((s.written n c p q es).settingsPage n) else none) } p q
        (es ++ [c.link.pageFrame n k s.time.S
          (if k = .settings then some ((s.written n c p q es).settingsPage n) else none)]) := by
  simp [sendPage, Link.paged, Link.pageFrame, Config.pageRepeat]

@[simp] theorem written_startAttempt (rate : LinkRate) :
    (s.written n c p q es).startAttempt n rate =
      s.written n { c with link := c.link.attempting rate s.time.S } p q
        (es ++ [c.link.pageFrame n .ident s.time.S none]) := by
  simp [startAttempt, written_sendPage, Link.attempting, Link.pageFrame]

/-- R132, R142: a test ended with a result, or none to end. -/
theorem written_abortTest :
    abortTest n (s.written n c p q es) =
      s.written n { c with link := { c.link with test := none } } p
        { q with
          replies := q.replies ++
            (c.link.test.map fun t =>
              (⟨0x34, t.tag, .ok false (.testResult .aborted t.began s.time.S), false⟩ : Reply)).toList } es := by
  obtain ⟨a, b, l⟩ := c
  cases h : l.test with
  | none =>
    have hl : { l with test := none } = l := by rw [← h]
    simp [abortTest, endTest, h, hl]
  | some t =>
    simp [abortTest, endTest, h, deferredReply, answer, ControlPort.answer]
    rfl

/-- R132, R143: a relay ended with a refusal, or none to end. -/
theorem written_endRelay_refused (x : Reason) :
    (s.written n c p q es).endRelay n (.refused x .none_) =
      s.written n { c with link := { c.link with relay := none } } p
        { q with
          replies := q.replies ++
            (c.link.relay.map fun r => (⟨0x35, r.tag, .refused x .none_, false⟩ : Reply)).toList } es := by
  obtain ⟨a, b, l⟩ := c
  cases h : l.relay with
  | none =>
    have hl : { l with relay := none } = l := by rw [← h]
    simp [endRelay, h, hl]
  | some r =>
    simp [endRelay, h, deferredReply, answer, ControlPort.answer]
    rfl

/-- R94: a SENT entry's notice at a link loss. -/
theorem written_patchLinkLost :
    (s.written n c p q es).patchLinkLost n =
      s.written n c p.linkLost
        (match p.entry with
          | some ⟨patch, _, .sent due _ serial _⟩ =>
            q.offer (.patchState n .linkLost s.time.S .unconfirmed patch (some (due, serial)))
          | _ => q) es := by
  obtain ⟨a, b, x, k, entry⟩ := p
  rcases entry with _ | ⟨patch, cp, _ | ⟨due, force, serial, ackEnd⟩ | _⟩ <;>
  simp [patchLinkLost, PatchRecord.linkLost, PendingPhase.sentAs]

/-- R132, steps 1 to 3: the channel emptied and the tracker told, before the link's new state. -/
def downed (s : State) (n : Station) : State :=
  let s1 := (abortTest n (s.mapLink n fun l => { l with queue := [] })).endRelay n (.refused .aborted .none_)
  (s1.setCh n (s1.ch n).clearUp).patchLinkLost n

theorem written_downed :
    (s.written n c p q es).downed n = s.written n c.down p.linkLost (q.downed n c p s.time.S) es := by
  obtain ⟨a, b, l⟩ := c
  simp only [downed, written_mapLink, written_abortTest, written_endRelay_refused, written_ch, written_setCh,
    written_patchLinkLost, Channel.clearUp, Channel.down, ControlPort.downed, Link.endings]
  cases l.test <;> cases l.relay <;> simp <;> rfl

theorem leaveUp_eq_downed (cause : LinkCause) :
    s.leaveUp n cause =
      (match cause with
        | .role => (s.downed n).linkOff n
        | .retrain => ((s.downed n).mapLink n fun l => { l with tries := 0 }).startAttempt n .full
        | _ => (s.downed n).enterSeek n none).linkNotice n .up cause none := by
  cases cause <;> rfl

/-- R121, R132: a link that leaves UP for OFF. -/
theorem written_leaveUp_role :
    (s.written n c p q es).leaveUp n .role =
      s.written n { c.down with link := c.down.link.off } p.linkLost
        (q.linkLost n c p .off .role s.time.S) es := by
  simp [leaveUp_eq_downed, written_downed]
  rfl

/-- R132, R133: a link that leaves UP for a new attempt. -/
theorem written_leaveUp_retrain :
    (s.written n c p q es).leaveUp n .retrain =
      s.written n { c.down with link := { c.down.link with tries := 0 }.attempting .full s.time.S } p.linkLost
        (q.linkLost n c p .training .retrain s.time.S)
        (es ++ [c.link.pageFrame n .ident s.time.S none]) := by
  simp [leaveUp_eq_downed, written_downed]
  rfl

/-- R132: a link that leaves UP for SEEK. -/
theorem written_leaveUp_seek {cause : LinkCause} (h : cause ≠ .role) (k : cause ≠ .retrain) :
    (s.written n c p q es).leaveUp n cause =
      s.written n { c.down with link := c.down.link.seeking s.time.S none } p.linkLost
        (q.linkLost n c p .seek cause s.time.S) (es ++ [.link n s.time.S .seekBurst]) := by
  rw [leaveUp_eq_downed, written_downed]
  cases cause
  case role => exact absurd rfl h
  case retrain => exact absurd rfl k
  all_goals
    simp
    rfl

end State

end Sys2Proof.Machine
end

section
/-! PROOFS. The acts on stations (05, 07) keep the invariants. -/

namespace Sys2Proof.Machine

theorem PendingPhase.not_notWaiting {p : PendingPhase} (h : ¬ p.isSent = true) :
    ¬ p.notWaiting := by
  cases p <;> simp_all [PendingPhase.isSent, PendingPhase.notWaiting]

namespace Keeps

variable {hush roles : Prop} {s : State} {n : Station}

/-! ## Queues and lamps -/

theorem handEvent (e : Event) (h : hush → e.isLamp = true) : Keeps hush roles s (s.handEvent n e) :=
  feed n _ (.hand e h)

theorem handClicks (b : BeatRecord) : Keeps False roles s (State.handClicks b n s) :=
  ite (fun _ => feed n _ (.handAll _ False.elim)) fun _ => refl s

theorem runLamps (b : BeatRecord) : Keeps hush roles s (State.runLamps b n s) :=
  ite (fun _ => feed n _ ((Link.Feeds.runLamp b .cue).trans (.runLamp b .stop))) fun _ => refl s

theorem setLamp (k : Lamp) (src : LampSource) (p : LampPattern) (d : Sample) :
    Keeps hush roles s (s.setLamp n k src p d) :=
  ite (fun _ => feed n _ (.setLamp k src p d)) fun _ => refl s

theorem stopLamp (st : ShowState) : Keeps hush roles s (State.stopLamp st n s) := setLamp _ _ _ _

theorem cueLampChange (old new : List Station) (due : Sample) :
    Keeps hush roles s (State.cueLampChange old new due n s) :=
  ite (fun _ => setLamp _ _ _ _) fun _ => ite (fun _ => setLamp _ _ _ _) fun _ => refl s

theorem cancel (s0 : Sample) : Keeps hush roles s (State.cancel s0 n s) :=
  ite (fun _ => (send n _).trans (feed n _ (.of_sublist rfl List.filter_sublist))) fun _ => refl s

/-- R135: the events in reach leave the head of the queue. -/
theorem splitDue_append (S lead : Nat) (q : List Event) :
    (splitDue S lead q).1 ++ (splitDue S lead q).2 = q := by
  induction q with
  | nil => rfl
  | cons x xs ih =>
    simp only [splitDue]
    split
    · simpa using ih
    · rfl

theorem transmit (n : Station) : Keeps hush roles s (s.transmit n) := by
  have hq : (splitDue s.time.S (s.ch n).link.lead (s.ch n).link.queue).2.Sublist (s.ch n).link.queue := by
    conv_rhs => rw [← splitDue_append s.time.S (s.ch n).link.lead (s.ch n).link.queue]
    exact List.sublist_append_right _ _
  refine ite (fun _ => (feed n _ (.of_sublist rfl hq)).trans (foldl (fun t e => ?_) _ _)) fun _ => refl s
  exact ite (fun _ => link_aside n _ rfl rfl) fun _ => send n _

/-! ## The Patch Tracker -/

theorem patchState (cause : PatchStateCause) (after : PendingState) (e : PendingEntry) :
    Keeps hush roles s (s.patchState n cause after e) := offer _

theorem patchMismatch (cause : MismatchCause) : Keeps hush roles s (s.patchMismatch n cause) := offer _

/-- A patch record written without an entry. -/
theorem setPatch_clear (p : PatchRecord) (h : p.entry = none) : Keeps hush roles s (s.setPatch n p) :=
  setPatch n p (fun _ e he => by simp [h] at he) fun _ _ e he => by simp [h] at he

/-- A patch record written with the entry and the expected patch it had. -/
theorem setPatch_same (p : PatchRecord) (he : p.entry = (s.patchOf n).entry)
    (hx : p.expected = (s.patchOf n).expected) : Keeps hush roles s (s.setPatch n p) :=
  setPatch n p (by rw [he, hx]; exact id) fun _ => by rw [he]; exact id

/-- A patch record written with an entry of the same patch, in a phase that waits only where the old one did. -/
theorem setPatch_phase {e e' : PendingEntry} (p : PatchRecord) (h : (s.patchOf n).entry = some e)
    (h' : p.entry = some e') (hx : p.expected = (s.patchOf n).expected) (hp : e'.patch = e.patch)
    (hwait : e.phase.notWaiting → e'.phase.notWaiting) : Keeps hush roles s (s.setPatch n p) := by
  refine setPatch n p (fun k x hx' => ?_) fun _ k x hx' => ?_ <;>
  obtain rfl : e' = x := Option.some.inj (h'.symm.trans hx')
  · rw [hx, k e h, hp]
  · exact hwait (k e h)

theorem dropPatchRecord : Keeps hush roles s (s.dropPatchRecord n) :=
  (setPatch_clear _ rfl).trans (feed n _ (.of_sublist rfl List.filter_sublist))

/-- R86: a PATCH goes out only where the show is not stopped. -/
theorem sendPatch (patch : Patch) (due : Sample) (force : Bool) (cp : Sample) :
    Keeps False roles s (s.sendPatch n patch due force cp) :=
  (handEvent (.patch due patch force _) False.elim).trans
    (setPatch n _ (fun _ e he => by obtain rfl := Option.some.inj he; rfl) False.elim)

theorem takeEntry (c0 : Sample) (e : PatchEntry) : Keeps False roles s (State.takeEntry c0 s e) := by
  unfold State.takeEntry
  refine ite (fun _ => refl s) fun _ => ite (fun _ => setPatch_clear _ rfl) fun _ => ite (fun h => ?_)
    fun _ => ite (fun _ => sendPatch _ _ _ _) fun _ => ?_
  · rw [Bool.and_eq_true, Option.isNone_iff_eq_none] at h
    exact setPatch_clear _ h.1
  · exact (setPatch _ _ (fun _ x hx => by obtain rfl := Option.some.inj hx; rfl) False.elim).trans
      (feed _ _ (.of_sublist rfl List.filter_sublist))

theorem takeEntries (c0 : Sample) (es : List PatchEntry) :
    Keeps False roles s (State.takeEntries c0 es s) := foldl (fun _ _ => takeEntry _ _) _ _

theorem countBeat (onset : Sample) : Keeps hush roles s (State.countBeat onset n s) := by
  unfold State.countBeat
  dsimp only
  split
  next h => exact ite (fun _ => setPatch_phase _ h rfl rfl rfl id) fun _ => refl s
  next => exact refl s

theorem sendWaiting (e : PendingEntry) (force : Bool) : Keeps False roles s (s.sendWaiting n e force) :=
  sendPatch _ _ _ _

/-- An act that only a waiting entry brings about is not made while the show is stopped. -/
theorem of_waiting {t : State} {e : PendingEntry} (h : Keeps False roles s t)
    (he : (s.patchOf n).entry = some e) (hw : ¬ e.phase.notWaiting)
    (hheld : s.click.held = true → t.click.held = true) (hempty : s.NoneFired → t.NoneFired)
    (hrecord : ∀ y, s.RecordAt y → t.RecordAt y) : Keeps hush roles s t :=
  { h with
    quiet := fun _ _ k => absurd ((k n).1 e he) hw, held := fun _ => hheld, empty := fun _ => hempty
    record := fun _ => hrecord }

theorem sendWaiting_of_waiting {e : PendingEntry} (force : Bool) (he : (s.patchOf n).entry = some e)
    (hw : ¬ e.phase.notWaiting) : Keeps hush roles s (s.sendWaiting n e force) :=
  of_waiting (sendWaiting e force) he hw id id fun _ => id

theorem heldReport (h : HeldState) : Keeps hush roles s (s.heldReport n h) := by
  have keep : Keeps hush roles s (s.setPatch n { s.patchOf n with held := h }) := setPatch_same _ rfl rfl
  unfold State.heldReport
  dsimp only
  refine ite (fun _ => ?_) fun _ => keep
  split
  next e he =>
    refine ite (fun _ => keep) fun hs => keep.trans ?_
    exact sendWaiting_of_waiting false (by simpa using he) (PendingPhase.not_notWaiting hs)
  next => exact keep

theorem patchDone (done : Patch × Nat) : Keeps hush roles s (State.patchDone n s done) := by
  have confirm : Keeps hush roles s (s.setPatch n { s.patchOf n with confirmed := some done.1 }) :=
    setPatch_same _ rfl rfl
  have settled : Keeps hush roles s
      (s.setPatch n { s.patchOf n with confirmed := some done.1, entry := none }) := setPatch_clear _ rfl
  unfold State.patchDone
  dsimp only
  split
  · exact ite (fun _ => confirm.trans (patchMismatch _)) fun _ => confirm
  · split
    · exact ite (fun _ => settled) fun _ => confirm
    · refine ite (fun _ => ?_) fun _ => confirm
      exact ite (fun _ => settled.trans (patchMismatch _)) fun _ => settled
    · refine ite (fun _ => ?_) fun _ => confirm
      exact (ite (fun _ => settled.trans (patchMismatch _)) fun _ => settled).trans (patchState _ _ _)

theorem localChange (patch : Patch) : Keeps hush roles s (s.localChange n patch) := by
  have confirm : Keeps hush roles s (s.setPatch n { s.patchOf n with confirmed := some patch }) :=
    setPatch_same _ rfl rfl
  unfold State.localChange
  dsimp only
  split
  · exact ite (fun _ => confirm.trans (patchMismatch _)) fun _ => confirm
  · exact ite (fun _ => setPatch_clear _ rfl) fun _ => confirm

theorem patchLinkLost : Keeps hush roles s (s.patchLinkLost n) := by
  unfold State.patchLinkLost
  dsimp only
  split
  next patch cp due force serial _ h =>
    refine (setPatch_phase (e' := ⟨patch, cp, .unconfirmed due force serial⟩) _ h ?_ ?_ rfl fun _ => ?_).trans
      (patchState _ _ _)
    · rfl
    · rfl
    · trivial
  next => exact setPatch_same _ rfl rfl

theorem patchTrained (patch : Option Patch) (h : HeldState) : Keeps hush roles s (s.patchTrained n patch h) := by
  have confirm : Keeps hush roles s (s.setPatch n { s.patchOf n with confirmed := patch, held := h }) :=
    setPatch_same _ rfl rfl
  have settled : Keeps hush roles s
      (s.setPatch n { s.patchOf n with confirmed := patch, held := h, entry := none }) := setPatch_clear _ rfl
  unfold State.patchTrained
  dsimp only
  split
  · exact ite (fun _ => confirm.trans (patchMismatch _)) fun _ => confirm
  · refine ite (fun _ => ?_) fun _ => ite (fun _ => settled) fun _ => confirm
    exact ite (fun _ => settled.trans (patchState _ _ _))
      fun _ => (settled.trans (patchState _ _ _)).trans (patchMismatch _)

theorem patchLinkUp : Keeps hush roles s (s.patchLinkUp n) := by
  unfold State.patchLinkUp
  dsimp only
  split
  next h =>
    exact ite (fun _ => sendWaiting_of_waiting true h id)
      fun _ => ite (fun _ => sendWaiting_of_waiting false h id) fun _ => refl s
  next => exact refl s

theorem patchStop (s0 : Sample) : Keeps hush roles s (State.patchStop s0 n s) := by
  unfold State.patchStop
  dsimp only
  split
  · exact ite (fun _ => setPatch_clear _ rfl) fun _ => refl s
  · exact refl s

/-- R97: the expected patch rebuilt and sent in one. -/
theorem setPatch_sendPatch (p : PatchRecord) (patch : Patch) (due : Sample) (force : Bool) (cp : Sample) :
    (s.setPatch n p).sendPatch n patch due force cp =
      (s.handEvent n (.patch due patch force ((p.serial + 1) % 256))).setPatch n
        { p with
          expected := some patch
          serial := (p.serial + 1) % 256
          entry := some ⟨patch, cp,
            .sent due force ((p.serial + 1) % 256) (due + (s.ch n).link.lead + Config.ackMargin)⟩ } := by
  have hq : ∀ e, (s.setPatch n p).handEvent n e = (s.handEvent n e).setPatch n p := fun _ => rfl
  simp [State.sendPatch, hq]

theorem patchResume (target : Nat) (r : Sample) : Keeps False roles s (State.patchResume target r n s) := by
  unfold State.patchResume
  refine ite (fun _ => refl s) fun _ => ?_
  dsimp only
  split
  · rw [setPatch_sendPatch]
    exact (handEvent _ False.elim).trans
      (setPatch n _ (fun _ e he => by obtain rfl := Option.some.inj he; rfl) False.elim)
  · refine setPatch n _ (fun _ e he => ?_) False.elim
    obtain ⟨-, hx⟩ := Option.filter_eq_some_iff.mp he
    exact of_decide_eq_true (Bool.and_eq_true_iff.mp hx).2

theorem idleMark (n : Station) : Keeps hush roles s (actIdleMark n s) := by
  unfold actIdleMark
  dsimp only
  split
  next h => exact setPatch_phase _ h rfl rfl rfl id
  next => exact refl s

theorem ackTimeout (n : Station) : Keeps hush roles s (actAckTimeout n s) := by
  unfold actAckTimeout
  dsimp only
  split
  next patch cp due force serial _ h =>
    refine (setPatch_phase (e' := ⟨patch, cp, .unconfirmed due force serial⟩) _ h ?_ ?_ rfl fun _ => ?_).trans
      (patchState _ _ _)
    · rfl
    · rfl
    · trivial
  next => exact refl s

/-- R90: a deadline is one of a waiting entry. -/
theorem patchDeadline {x : Sample} (n : Station) (h : s.deadlineOf n = some x) :
    Keeps hush roles s (actPatchDeadline n s) := by
  unfold actPatchDeadline
  split
  next e he =>
    refine ite (fun _ => ?_) fun _ => refl s
    have hw : ¬ e.phase.notWaiting := by
      unfold State.deadlineOf at h
      split at h
      next k => rw [he] at k; obtain rfl := Option.some.inj k; exact id
      next => cases h
    have sent : Keeps hush roles s (s.sendWaiting n e true) := sendWaiting_of_waiting true he hw
    dsimp only
    split
    · exact sent.trans (patchState _ _ _)
    · exact sent
  next => exact refl s

/-! ## Links -/

theorem linkNotice (before : LinkState) (cause : LinkCause) (e : Option (Nat × Nat × Nat × Bool)) :
    Keeps hush roles s (s.linkNotice n before cause e) := offer _

theorem endTest (r : LinkTest → TestResult) : Keeps hush roles s (s.endTest n r) := by
  unfold State.endTest
  split
  · exact (link_aside n _ rfl rfl).trans (deferredReply _ _ _)
  · exact refl s

theorem abortTest : Keeps hush roles s (State.abortTest n s) := endTest _

theorem endRelay (a : Answer) : Keeps hush roles s (s.endRelay n a) := by
  unfold State.endRelay
  split
  · exact (link_aside n _ rfl rfl).trans (deferredReply _ _ _)
  · exact refl s

theorem burst : Keeps hush roles s (s.burst n) := (send n _).trans (link_aside n _ rfl rfl)

theorem enterSeek (holdEnd : Option Sample) (hq : (s.ch n).link.state = .up → (s.ch n).link.queue = [])
    (hr : roles → (s.ch n).link.state ≠ .off) : Keeps hush roles s (s.enterSeek n holdEnd) :=
  (link_moved n _ rfl hq hr (by simp)).trans burst

theorem sendPage (k : PageKind) : Keeps hush roles s (s.sendPage n k) :=
  Keeps.trans (send n _) (link_aside n (fun l => { l with page := some _, toggle := _ }) rfl rfl)

theorem startAttempt (rate : LinkRate) (hq : (s.ch n).link.state = .up → (s.ch n).link.queue = [])
    (hr : roles → (s.ch n).link.state ≠ .off) : Keeps hush roles s (s.startAttempt n rate) :=
  (link_moved n _ rfl hq hr (by simp)).trans (sendPage _)

theorem failAttempt (cause : LinkCause) (h : (s.ch n).link.state = .training) :
    Keeps hush roles s (s.failAttempt n cause) := by
  unfold State.failAttempt
  refine (link_aside n _ rfl rfl).trans (ite (fun _ => startAttempt _ (by simp [h]) (by simp [h])) fun _ => ?_)
  split
  · exact ((link_aside n _ rfl rfl).trans (linkNotice _ _ _)).trans
      (startAttempt _ (by simp [State.linkNotice, h]) (by simp [State.linkNotice, h]))
  · exact (enterSeek _ (by simp [h]) (by simp [h])).trans (linkNotice _ _ _)

theorem clearUp : Keeps hush roles s (s.setCh n (s.ch n).clearUp) := setCh_aside n _ rfl rfl rfl

theorem setReported (r : StationReport) : Keeps hush roles s (s.setReported n r) := setCh_aside n _ rfl rfl rfl

theorem sendSettings : Keeps hush roles s (s.sendSettings n) :=
  ite (fun _ => (send n _).trans (link_aside n _ rfl rfl)) fun _ => refl s

end Keeps

end Sys2Proof.Machine
end

section
/-! PROOFS. The acts that move a link, and the writing of a station (R121, R132), keep the invariants. -/

namespace Sys2Proof.Machine

/-! ## The station an act of a link leaves -/

@[simp] theorem State.downed_ch (s : State) (n : Station) : (s.downed n).ch n = (s.ch n).down := by
  rw [← s.written_self n, State.written_downed]
  simp

namespace Keeps

variable {hush roles : Prop} {s : State} {n : Station}

theorem downed : Keeps hush roles s (s.downed n) :=
  (((feed n _ (.of_sublist rfl (List.nil_sublist _))).trans abortTest).trans (endRelay _)).trans
    (clearUp.trans patchLinkLost)

theorem linkOff (hr : roles → False) : Keeps hush roles s (s.linkOff n) :=
  setCh n _ id (fun _ => rfl) (fun r => (hr r).elim) fun _ _ he _ => he

theorem leaveUp (cause : LinkCause) (hr : roles → (s.ch n).link.state ≠ .off)
    (hrole : roles → cause ≠ .role) : Keeps hush roles s (s.leaveUp n cause) := by
  have hoff : roles → ((s.downed n).ch n).link.state ≠ .off := by simpa [Channel.down] using hr
  have hq : ((s.downed n).ch n).link.state = .up → ((s.downed n).ch n).link.queue = [] := by
    simp [Channel.down]
  rw [State.leaveUp_eq_downed]
  refine (downed (n := n)).trans (Keeps.trans ?_ (linkNotice _ _ _))
  split
  · exact linkOff fun r => hrole r rfl
  · exact (link_aside n _ rfl rfl).trans (startAttempt _ (by simpa using hq) (by simpa using hoff))
  · exact enterSeek _ hq hoff

theorem retrainOne : Keeps hush roles s (State.retrainOne n s) := by
  unfold State.retrainOne
  dsimp only
  split
  next h => exact leaveUp _ (by simp [h]) (by simp)
  next h =>
    refine Keeps.trans
      (t := if (s.ch n).link.rate = .reduced then
          (s.mapLink n fun l => { l with rate := .full, tries := 0, page := none }).linkNotice n .training
            .retrain none
        else s.mapLink n fun l => { l with rate := .full, tries := 0, page := none }) ?_ ?_
    · exact ite (fun _ => (link_aside n _ rfl rfl).trans (linkNotice _ _ _)) fun _ => link_aside n _ rfl rfl
    · have state : ∀ b : Bool, (((if b then
          (s.mapLink n fun l => { l with rate := .full, tries := 0, page := none }).linkNotice n .training
            .retrain none
        else s.mapLink n fun l => { l with rate := .full, tries := 0, page := none }).ch n).link).state
          = .training := by
        rintro (_ | _) <;> simp [State.linkNotice, h]
      have := state (decide ((s.ch n).link.rate = .reduced))
      simp only [decide_eq_true_eq] at this
      exact startAttempt _ (by simp [this]) (by simp [this])
  next => exact (link_aside n _ rfl rfl).trans burst
  next => exact refl s

theorem roleLink (before after : StationRole) (hr : roles → False)  :
    Keeps hush roles s (s.roleLink n before after) := by
  unfold State.roleLink
  refine ite (fun _ => ?_) fun _ => ite (fun _ => ite (fun _ => ?_) fun _ => ?_) fun _ => refl s
  · refine Keeps.trans ?_ (linkNotice _ _ _)
    refine Keeps.trans (t := s.mapLink n _) ?_ burst
    exact setCh n _ id (fun _ => rfl) (fun r => (hr r).elim) fun _ _ he _ => he
  · exact leaveUp _ (fun r => (hr r).elim) fun r => (hr r).elim
  · exact (linkOff hr).trans (linkNotice _ _ _)

/-- R120, R121: a station written, but for what the roles say of the links. -/
theorem writeStation (a : Assigned) (hr : roles → False) : Keeps hush roles s (State.writeStation a n s) := by
  unfold State.writeStation
  refine Keeps.trans ?_ sendSettings
  have moved : Keeps hush roles s ((s.setCh n { s.ch n with assigned := a }).roleLink n
      (s.ch n).assigned.role a.role) := by
    refine Keeps.trans ?_ (roleLink _ _ hr)
    exact setCh n _ id (fun r => (hr r).elim) (fun r => (hr r).elim) fun _ _ he _ => he
  exact ite (fun _ => moved.trans dropPatchRecord) fun _ => moved

end Keeps

/-! ## A station written -/

/-- R121: the channel of a station after its role has moved it. -/
def Channel.moved (c : Channel) (before after : StationRole) (y : Sample) : Channel :=
  if before = .unused ∧ after ≠ .unused then { c with link := c.link.seeking y none }
  else if before ≠ .unused ∧ after = .unused then
    if c.link.state = .up then { c.down with link := c.down.link.off } else { c with link := c.link.off }
  else c

/-- R121: the settings frame's refresh restarted on an UP link. -/
def Channel.refreshed (c : Channel) (y : Sample) : Channel :=
  if c.link.state = .up then { c with link := { c.link with refreshAt := some (y + 48000) } } else c

/-- R84, R121: the station leaves use or turns CLICK. -/
def Assigned.drops (before after : Assigned) : Bool :=
  decide (before.role ≠ .unused ∧ after.role = .unused) || decide (before.kind = .rig ∧ after.kind = .click)

namespace State

variable (s : State) (n : Station) (c : Channel) (p : PatchRecord) (q : ControlPort) (es : List Emission)

theorem written_sendSettings :
    (s.written n c p q es).sendSettings n =
      s.written n (c.refreshed s.time.S) p q
        (if c.link.state = .up then es ++ [.link n s.time.S (.settings c.assigned)] else es) := by
  unfold sendSettings Channel.refreshed
  by_cases up : c.link.state = .up <;> simp [up, Channel.isUp, Config.settingsRefresh]

theorem written_roleLink (before after : StationRole) :
    ∃ p' q' es', (s.written n c p q es).roleLink n before after =
      s.written n (c.moved before after s.time.S) p' q' es' := by
  unfold roleLink Channel.moved
  by_cases h : before = .unused ∧ after ≠ .unused
  · simp only [if_pos h, written_enterSeek, written_linkNotice]
    exact ⟨_, _, _, rfl⟩
  · simp only [if_neg h]
    by_cases k : before ≠ .unused ∧ after = .unused
    · simp only [if_pos k, written_ch, Channel.isUp, decide_eq_true_eq]
      by_cases up : c.link.state = .up
      · simp only [if_pos up, written_leaveUp_role]
        exact ⟨_, _, _, rfl⟩
      · simp only [if_neg up, written_linkOff, written_linkNotice]
        exact ⟨_, _, _, rfl⟩
    · simp only [if_neg k]
      exact ⟨_, _, _, rfl⟩

theorem writeStation_eq (a : Assigned) :
    writeStation a n s =
      (let t := (s.setCh n { s.ch n with assigned := a }).roleLink n (s.ch n).assigned.role a.role
       if (s.ch n).assigned.drops a then t.dropPatchRecord n else t).sendSettings n := rfl

/-- R120, R121: the channel of a station written. -/
theorem writeStation_ch (a : Assigned) :
    (writeStation a n s).ch n =
      (let c := Channel.moved { s.ch n with assigned := a } (s.ch n).assigned.role a.role s.time.S
       (if (s.ch n).assigned.drops a then { c with link := c.link.withdrawPatch } else c).refreshed
          s.time.S) := by
  obtain ⟨p, q, es, h⟩ := s.written_roleLink n { s.ch n with assigned := a } (s.patchOf n) s.port s.emitted
    (s.ch n).assigned.role a.role
  have hs : s.setCh n { s.ch n with assigned := a } =
      s.written n { s.ch n with assigned := a } (s.patchOf n) s.port s.emitted := by
    conv_lhs => rw [← s.written_self n]
    simp
  rw [writeStation_eq, hs, h]
  dsimp only
  split
  · rw [written_dropPatchRecord, written_sendSettings, written_ch]
  · rw [written_sendSettings, written_ch]

end State

@[simp] theorem Channel.refreshed_state (c : Channel) (y : Sample) :
    (c.refreshed y).link.state = c.link.state := by
  unfold Channel.refreshed; split <;> rfl

@[simp] theorem Channel.refreshed_queue (c : Channel) (y : Sample) :
    (c.refreshed y).link.queue = c.link.queue := by
  unfold Channel.refreshed; split <;> rfl

@[simp] theorem Channel.refreshed_assigned (c : Channel) (y : Sample) :
    (c.refreshed y).assigned = c.assigned := by
  unfold Channel.refreshed; split <;> rfl

@[simp] theorem Channel.moved_assigned (c : Channel) (b a : StationRole) (y : Sample) :
    (c.moved b a y).assigned = c.assigned := by
  unfold Channel.moved
  repeat' split
  all_goals rfl

/-- R121: a role moved to or from UNUSED moves the link as Table 7.4 has it. -/
theorem Channel.LinkOk.moved {c : Channel} (h : c.LinkOk) (a : Assigned) (y : Sample) :
    (Channel.moved { c with assigned := a } c.assigned.role a.role y).LinkOk := by
  obtain ⟨hoff, hidle⟩ := h
  unfold Channel.moved
  split
  next k =>
    refine ⟨iff_of_false (by simp [Link.seeking]) k.2, fun _ => hidle ?_⟩
    simp [hoff.mpr k.1]
  next k =>
    split
    next j =>
      split
      next => exact ⟨iff_of_true rfl j.2, fun _ => rfl⟩
      next up => exact ⟨iff_of_true rfl j.2, fun _ => hidle up⟩
    next j =>
      refine ⟨?_, hidle⟩
      show c.link.state = .off ↔ a.role = .unused
      rw [hoff]
      by_cases hb : c.assigned.role = .unused <;> by_cases ha : a.role = .unused <;> simp_all

theorem Channel.LinkOk.refreshed {c : Channel} (h : c.LinkOk) (y : Sample) : (c.refreshed y).LinkOk := by
  simpa [Channel.LinkOk] using h

theorem Channel.LinkOk.withdrawPatch {c : Channel} (h : c.LinkOk) :
    Channel.LinkOk { c with link := c.link.withdrawPatch } :=
  ⟨h.1, fun up => by simp [Link.withdrawPatch, h.2 up]⟩

/-- R120, R121: a station written keeps what the roles say of the links. -/
theorem State.LinkInv.writeStation {s : State} (h : s.LinkInv) (a : Assigned) (n : Station) :
    (State.writeStation a n s).LinkInv := by
  intro m
  by_cases hm : m = n
  · subst hm
    rw [State.writeStation_ch]
    have moved := Channel.LinkOk.moved (h m) a s.time.S
    dsimp only
    split
    · exact moved.withdrawPatch.refreshed _
    · exact moved.refreshed _
  · rw [(ActsOn.writeStation a).otherCh s m hm]
    exact h m

@[simp] theorem State.writeStation_assigned (s : State) (n : Station) (a : Assigned) :
    ((State.writeStation a n s).ch n).assigned = a := by
  rw [State.writeStation_ch]
  dsimp only
  split <;> simp

/-- R120, R121: stations written, each once, keep what the roles say of the links. -/
theorem State.LinkInv.writeStations {s : State} (h : s.LinkInv) (a : Assigned) (ns : List Station) :
    (forStations (State.writeStation a) ns s).LinkInv := by
  induction ns generalizing s with
  | nil => exact h
  | cons n ns ih => exact ih (h.writeStation a n)

/-- R120: the assigned part of each station after stations are written. -/
theorem State.writeStations_assigned (s : State) (a : Assigned) (ns : List Station) (m : Station) :
    ((forStations (State.writeStation a) ns s).ch m).assigned = if m ∈ ns then a else (s.ch m).assigned := by
  induction ns generalizing s with
  | nil => rfl
  | cons n ns ih =>
    rw [forStations, ih]
    by_cases hm : m = n
    · subst hm; simp
    · rw [(ActsOn.writeStation a).otherCh s m hm]
      simp [hm]

end Sys2Proof.Machine
end

section
/-! PROOFS. The acts of the Click Engine, the Cue Engine and the Show State Controller (02, 04, 06) keep the
invariants. -/

namespace Sys2Proof.Machine

namespace Keeps

variable {hush roles : Prop} {s : State}

/-! ## The Click Engine -/

/-- A change of the Click Engine that leaves HELD to no other state. -/
theorem mapClick_aside (f : ClickEngine → ClickEngine) (h : (f s.click).held = s.click.held) :
    Keeps hush roles s (s.mapClick f) := mapClick f fun _ k => h.trans k

theorem handBeat (b : BeatRecord) (mute : Bool) : Keeps False roles s (s.handBeat b mute) := by
  unfold State.handBeat
  refine Keeps.trans (Keeps.trans ?_ (forAll (fun n s => runLamps b) _)) (forAll (fun n s => countBeat _) _)
  exact ite (fun _ => refl s) fun _ => forAll (fun n s => handClicks b) s

theorem produceBeat : Keeps False roles s s.produceBeat := by
  unfold State.produceBeat
  split
  · exact refl s
  · split
    · exact refl s
    · have made : ∀ c g, Keeps False roles s
          ((s.mapClick fun e => e.afterBeat c g).handBeat (c.record g) c.muteFirst) := fun c g =>
        (mapClick_aside _ rfl).trans (handBeat _ _)
      dsimp only
      split
      · exact (made _ _).trans (report _)
      · exact made _ _

theorem placeTap : Keeps hush roles s s.placeTap := by
  unfold State.placeTap
  split
  · exact refl s
  · exact ite (fun _ => mapClick_aside _ rfl) fun _ => refl s

theorem takeTap (stamp : Sample) : Keeps hush roles s (s.takeTap stamp) := by
  unfold State.takeTap
  split
  · exact refl s
  · exact (mapClick_aside _ rfl).trans placeTap

theorem setHoldPoint (x : Sample) : Keeps hush roles s (s.setHoldPoint x) :=
  (mapClick_aside (fun e => { e with holdPoint := some x }) rfl).trans
    (mapCtl_aside (fun c => { c with holdPending := c.holdPending.map fun h => { h with point := x } }) id rfl)

theorem pullHold : Keeps hush roles s s.pullHold := by
  unfold State.pullHold
  split
  · exact refl s
  · exact setHoldPoint _

/-- R28: the change point of the cue in flight moved. -/
theorem moveFlight (x : Sample) :
    Keeps hush roles s (s.mapCue fun c => { c with inFlight := c.inFlight.map fun f => { f with changePoint := x } }) :=
  mapCue _ (fun h k => h (by simpa using k)) (fun h => h) fun _ h => ⟨by simp [h.1], h.2⟩

theorem pullLimit : Keeps hush roles s s.pullLimit := by
  unfold State.pullLimit
  split
  · exact refl s
  · exact ((mapClick_aside (fun e => { e with limit := none }) rfl).trans (moveFlight s.horizon)).trans
      (report _)

theorem startSegment : Keeps hush roles s s.startSegment := by
  unfold State.startSegment
  refine Keeps.trans (mapClick_aside _ ?_) (pullHold.trans (pullLimit.trans placeTap))
  unfold ClickEngine.startSegment
  split <;> rfl

theorem runEngine : Keeps False roles s s.runEngine := by
  unfold State.runEngine
  split
  · exact refl s
  · refine ite (fun _ => ?_) fun _ => refl s
    split
    · exact produceBeat
    · exact report _
    · exact startSegment

theorem setChangePoint (x : Sample) : Keeps hush roles s (s.setChangePoint x) :=
  ite (fun _ => mapClick_aside _ rfl) fun _ => report _

theorem rehold (c0 : Sample) : Keeps hush roles s (s.rehold c0) := by
  unfold State.rehold
  split
  · exact refl s
  · exact setHoldPoint _

theorem engineHandOver (c0 : Sample) (ref : MapRef) (countIn : Nat) :
    Keeps False roles s (s.engineHandOver c0 ref countIn) := by
  unfold State.engineHandOver
  split
  · exact ((mapClick_aside _ rfl).trans (rehold _)).trans runEngine
  · exact (mapClick_aside _ rfl).trans (rehold _)
  · exact (mapClick_aside _ rfl).trans runEngine

theorem discardMap (e : Sample) : Keeps hush roles s (s.discardMap e) := by
  unfold State.discardMap
  split
  · exact refl s
  · exact (mapClick_aside (fun x => { x with context := none }) rfl).trans (offer _)

theorem release : Keeps hush roles s s.release.1 := by
  unfold State.release
  split
  · exact mapClick_aside (fun e => { e with release := true }) rfl
  · exact refl s

theorem engineContinue (countIn : Nat) : Keeps False roles s (s.engineContinue countIn) := by
  have free : ∀ (f : ClickEngine → ClickEngine), Keeps False roles s (s.mapClick f) :=
    fun f => mapClick f False.elim
  unfold State.engineContinue
  split
  · exact (free _).trans (report _)
  · refine ite (fun _ => (free _).trans runEngine) fun _ => Keeps.trans ?_ (report _)
    exact ite (fun _ => (free _).trans (discardMap _)) fun _ => free _

theorem engineResume (map : Option Nat) (bar countIn : Nat) :
    Keeps False roles s (s.engineResume map bar countIn) := by
  have free : ∀ (f : ClickEngine → ClickEngine), Keeps False roles s (s.mapClick f) :=
    fun f => mapClick f False.elim
  unfold State.engineResume
  dsimp only
  split
  · refine ite (fun _ => (free _).trans (report _)) fun _ => ?_
    split
    · exact (free _).trans (report _)
    · exact (free _).trans runEngine
  · exact (free _).trans (report _)

/-! ## The show state, the standby and the apply -/

theorem stopLamps : Keeps hush roles s s.stopLamps := forAll (fun _ _ => stopLamp _) s

theorem showNotice (before : ShowState) (cause : ShowCause) (beat : Option Sample) :
    Keeps hush roles s (s.showNotice before cause beat) := offer _

theorem changeShow {after : ShowState} (h : after ≠ .stopped) (cause : ShowCause) (beat : Option Sample) :
    Keeps hush roles s (s.changeShow after cause beat) :=
  ((mapCtl_aside (fun c => { c with state := after }) (fun k => absurd k h) rfl).trans stopLamps).trans
    (showNotice _ _ _)

theorem firstGo : Keeps hush roles s s.firstGo :=
  ite (fun _ => changeShow (after := .running) (by decide) _ _) fun _ => refl s

theorem setStandby (n : Option Nat) : Keeps hush roles s (s.setStandby n) := mapCue_aside _ rfl rfl rfl rfl rfl

theorem setWarnedFrom (old : List Station) (n : Option Nat) (due : Sample) :
    Keeps hush roles s (s.setWarnedFrom old n due) :=
  Keeps.trans (mapCue_aside (fun c => { c with warned := n }) rfl rfl rfl rfl rfl)
    (forAll (fun _ _ => cueLampChange _ _ _) _)

theorem setWarned (n : Option Nat) (due : Sample) : Keeps hush roles s (s.setWarned n due) :=
  setWarnedFrom _ _ _

/-- R61: a complete buffer becomes the show book. -/
theorem replaceBook (h : s.BookInv → s.cue.buffer.Complete) :
    Keeps hush roles s (s.mapCue CueEngine.replaceBook) := by
  refine mapCue _ id (fun k => ?_) fun _ => id
  obtain ⟨-, -, hbuffer, -⟩ := id k
  refine ⟨hbuffer, h k, ?_, fun hp => ?_⟩
  · simp [Book.Ordered, CueEngine.replaceBook, Book.empty, entryCount, declaredTotal]
  · simp [CueEngine.replaceBook] at hp

theorem applyEdit (h : s.BookInv → s.cue.buffer.Complete) : Keeps hush roles s s.applyEdit := by
  unfold State.applyEdit
  dsimp only
  exact (replaceBook h).trans ((setStandby _).trans ((setWarnedFrom _ _ _).trans (offer _)))

theorem applyPending : Keeps hush roles s s.applyPending :=
  ite (fun h => applyEdit fun k => k.2.2.2 h.1) fun _ => refl s

/-! ## Firing and the hand-over -/

theorem abortTests : Keeps hush roles s (Machine.forAll State.abortTest s) := forAll (fun _ _ => abortTest) s

theorem placeFlight (f : FiredCue) (x : Sample) : Keeps False roles s (s.placeFlight f x) :=
  mapCue _ (fun _ => nofun) id False.elim

theorem placeQueued (f : FiredCue) (h : s.cue.inFlight ≠ none) :
    Keeps False roles s (s.mapCue fun x => { x with queued := some f }) :=
  mapCue _ (fun _ k => absurd k h) (fun k => k) False.elim

theorem fly (f : FiredCue) (k : ChangeKind) : Keeps False roles s (s.fly f k) :=
  (placeFlight _ _).trans (setChangePoint _)

/-- R70: a taken call places its cue in the slot that is free. -/
theorem fire (c : Cue) (source : GoSource) (bar : Option Nat) : Keeps False roles s (s.fire c source bar) := by
  unfold State.fire
  refine Keeps.trans abortTests (Keeps.trans ?_ (setStandby _))
  exact ite (fun _ => fly _ _) fun h => placeQueued _ fun k => h (Option.isNone_iff_eq_none.mpr k)

/-- R73, R74: the in-flight slot empties, and the queued cue takes it. -/
theorem land : Keeps False roles s (s.mapCue fun x => { x with inFlight := none }).promote := by
  unfold State.promote
  split
  next h => exact mapCue _ (fun _ _ => h) id False.elim
  next q h =>
    have both : Keeps False roles s (s.mapCue fun c => { c with inFlight := none, queued := none }) :=
      mapCue _ (fun _ _ => rfl) id False.elim
    exact both.trans (fly _ _)

/-- R73: steps 1 to 4, before the slot empties. -/
theorem handCue (atEnd : Bool) (f : Flight) (c : Cue) :
    Keeps False roles s (s.handCue atEnd f c).promote := by
  have engine : Keeps False roles s (s.handToEngine atEnd f.changePoint c) :=
    ite (fun _ => discardMap _) fun _ => engineHandOver _ _ _
  have running : ∀ t : State, Keeps False roles t
      (t.mapCue fun x => { x with running := some ⟨c.number, c.label, c.text, f.changePoint⟩ }) :=
    fun t => mapCue_aside _ rfl rfl rfl rfl rfl
  refine Keeps.trans ?_ land
  exact ((engine.trans (takeEntries _ _)).trans (running _)).trans ((setWarned _ _).trans (offer _))

theorem handOver (atEnd : Bool) : Keeps False roles s (s.handOver atEnd) := by
  unfold State.handOver
  split
  · exact refl s
  · split
    · exact Keeps.trans (mapClick_aside _ rfl) land
    · exact (handCue _ _ _).trans applyPending

theorem autoCall (c : Cue) (e : Sample) : Keeps False roles s (s.autoCall c e) := by
  unfold State.autoCall
  dsimp only
  exact Keeps.trans (abortTests.trans ((placeFlight _ _).trans (setStandby _))) (handOver _)

theorem takeMapEnd (e : Sample) : Keeps False roles s (s.takeMapEnd e) := by
  unfold State.takeMapEnd
  split
  · exact discardMap _
  · exact ite (fun _ => discardMap _) fun _ => ite (fun _ => autoCall _ _) fun _ =>
      ite (fun _ => (discardMap _).trans (fire _ _ _)) fun _ => discardMap _

theorem setLockout : Keeps hush roles s s.setLockout := mapCue_aside _ rfl rfl rfl rfl rfl

theorem takeCall (c : Cue) (source : GoSource) : Keeps False roles s (s.takeCall c source) :=
  (Keeps.trans (fire _ _ _) setLockout).trans firstGo

theorem countMdGo : Keeps hush roles s s.countMdGo :=
  ite (fun _ => mapCue_aside _ rfl rfl rfl rfl rfl) fun _ => refl s

/-! ## Holds and returns -/

theorem holdReached (x : Sample) : Keeps hush roles s (State.holdReached x s) :=
  Keeps.trans ((mapClick ClickEngine.hold fun _ _ => rfl).trans
    (mapCtl_aside (fun c => { c with holdPending := none }) id rfl)) (changeShow (after := .holding) (by decide) _ _)

theorem continueReached (x : Sample) : Keeps hush roles s (s.continueReached x) := by
  have spent : Keeps hush roles s (s.mapClick fun e => { e with reach := none }) := mapClick_aside _ rfl
  refine ite (fun _ => spent.trans (Keeps.trans ?_ (changeShow (after := .running) (by decide) _ _)))
    fun _ => spent
  exact mapCtl_aside (fun c => { c with continuePending := none }) id rfl

theorem resumeReached (x : Sample) : Keeps hush roles s (s.resumeReached x) := by
  have spent : Keeps hush roles s (s.mapClick fun e => { e with reach := none }) := mapClick_aside _ rfl
  exact ite (fun _ => spent.trans (changeShow (after := .running) (by decide) _ _)) fun _ => spent

theorem takeHold (source : HoldSource) : Keeps hush roles s (s.takeHold source) :=
  (mapClick_aside (fun e => { e with holdPoint := some _ }) rfl).trans
    (mapCtl_aside (fun c => { c with holdPending := some _ }) id rfl)

theorem hold (source : HoldSource) : Keeps hush roles s (s.hold source).1 := by
  unfold State.hold
  split
  · exact refl s
  · exact takeHold source

/-! ## Opening, resuming and ending a show -/

theorem openCues : Keeps hush roles s s.openCues :=
  ((setStandby _).trans (mapCue_aside _ rfl rfl rfl rfl rfl)).trans (setWarned _ _)

theorem resumeCues (c : Cue) : Keeps hush roles s (s.resumeCues c) :=
  Keeps.trans (mapCue_aside (fun x => { x with running := some _ }) rfl rfl rfl rfl rfl)
    ((setStandby _).trans (setWarned _ _))

/-- R77, R78: both slots emptied. -/
theorem clearSlots : Keeps hush roles s (s.mapCue CueEngine.clearSlots) :=
  mapCue _ (fun _ _ => rfl) id fun _ _ => ⟨rfl, rfl⟩

theorem endCues : Keeps hush roles s s.endCues := by
  refine Keeps.trans (Keeps.trans (Keeps.trans (Keeps.trans
    (t := if s.cue.slotsEmpty then s.mapCue CueEngine.clearSlots
      else (s.mapCue CueEngine.clearSlots).cueCancelled .endShow s.cue none) ?_ (setStandby _))
    (mapCue_aside _ rfl rfl rfl rfl rfl)) (setWarned _ _)) applyPending
  exact ite (fun _ => clearSlots) fun _ => clearSlots.trans (offer _)

theorem stopCues : Keeps hush roles s s.stopCues := by
  refine ite (fun _ => applyPending) fun _ => ?_
  exact (((clearSlots.trans (setStandby _)).trans (setWarned _ _)).trans (offer _)).trans applyPending

/-! ## The stop record and the line -/

theorem addStop (source : StopSource) : Keeps hush roles s (s.addStop source) := by
  unfold State.addStop
  split
  · exact refl s
  next r h =>
    refine ite (fun _ => refl s) fun _ => Keeps.trans ?_ (offer _)
    refine mapCtl _ id fun _ y ⟨r', hr, hc, hy⟩ => ?_
    obtain rfl : r = r' := Option.some.inj (h.symm.trans hr)
    refine ⟨{ r with causes := r.causes.add source }, rfl, ?_, hy⟩
    cases source <;> simp [StopCauses.add, StopCauses.Nonempty]

theorem qualify (q : Qualifier) (timer : Option Sample) : Keeps hush roles s (s.qualify q timer) :=
  mapCtl_aside _ id rfl

end Keeps

end Sys2Proof.Machine
end

section
/-! PROOFS. What a whole act keeps: the reports it hands are taken, and a show may stop, resume or end in it. -/

namespace Sys2Proof.Machine

/-- What a whole act keeps: the invariants of O57 to O60. -/
structure Holds (s t : State) : Prop where
  port : s.port.Keeps t.port
  queues : s.QueueInv → t.QueueInv
  slots : s.SlotInv → t.SlotInv
  patches : s.PatchInv → t.PatchInv
  book : s.BookInv → t.BookInv
  md : s.MdInv → t.MdInv
  stopped : s.StoppedInv → t.StoppedInv

variable {s t u : State}

namespace Holds

theorem refl (s : State) : Holds s s := ⟨.refl _, id, id, id, id, id, id⟩

theorem trans (h : Holds s t) (k : Holds t u) : Holds s u :=
  ⟨h.port.trans k.port, k.queues ∘ h.queues, k.slots ∘ h.slots, k.patches ∘ h.patches, k.book ∘ h.book,
    k.md ∘ h.md, k.stopped ∘ h.stopped⟩

theorem ite {c : Prop} [Decidable c] (h : c → Holds s t) (k : ¬ c → Holds s u) :
    Holds s (if c then t else u) := by
  split
  · exact h ‹_›
  · exact k ‹_›

/-- An act that a stopped show may see. -/
theorem of_keeps (h : Keeps True True s t) : Holds s t where
  port := h.port
  queues := h.queues
  slots := h.slots
  patches := h.patches
  book := h.book
  md := h.md trivial
  stopped := fun ⟨hlink, hquiet⟩ => by
    refine ⟨h.links trivial hlink, t.stoppedQuiet_iff.mpr fun ht => ?_⟩
    obtain ⟨hheld, hnone, y, hrec, hq⟩ := s.stoppedQuiet_iff.mp hquiet (h.shows ht)
    exact ⟨h.held trivial hheld, h.empty trivial hnone, y, h.record trivial y hrec, h.quiet trivial y hq⟩

/-- An act that leaves the show not stopped, whatever it was before. -/
theorem of_unstopped {hush : Prop} (h : Keeps hush True s t) (ht : t.ctl.state ≠ .stopped) : Holds s t where
  port := h.port
  queues := h.queues
  slots := h.slots
  patches := h.patches
  book := h.book
  md := h.md trivial
  stopped := fun k => ⟨h.links trivial k.1, fun e => absurd e ht⟩

/-- An act that only a show that is not stopped sees. -/
theorem of_loud {hush : Prop} (h : Keeps hush True s t) (hs : s.StoppedQuiet → s.ctl.state ≠ .stopped) : Holds s t where
  port := h.port
  queues := h.queues
  slots := h.slots
  patches := h.patches
  book := h.book
  md := h.md trivial
  stopped := fun k => ⟨h.links trivial k.1, fun e => absurd (h.shows e) (hs k.2)⟩


end Holds

/-- A stopped show's engine has no next move. -/
theorem State.StoppedQuiet.of_next {s : State} {m : Move × Sample} (h : s.click.next = some m)
    (k : s.StoppedQuiet) : s.ctl.state ≠ .stopped := fun e => by
  have hheld := (k e).1
  unfold ClickEngine.next at h
  split at h
  · cases h
  · simp [ClickEngine.state, hheld, EngineState.produces] at h

/-- A stopped show has no cue in flight. -/
theorem State.StoppedQuiet.of_inFlight {s : State} {f : Flight} (h : s.cue.inFlight = some f)
    (k : s.StoppedQuiet) : s.ctl.state ≠ .stopped := fun e => by
  have hnone := (k e).2.1
  rw [h] at hnone
  cases hnone

namespace Holds

/-! ## Reports (R73) -/

theorem handOver (atEnd : Bool) : Holds s (s.handOver atEnd) := by
  cases h : s.cue.inFlight with
  | none => rw [State.handOver, h]; exact refl s
  | some f => exact of_loud (.handOver atEnd) (State.StoppedQuiet.of_inFlight h)

theorem takeBarReached (bar : Nat) : Holds s (s.takeBarReached bar) := by
  have spent : Keeps True True s (s.mapCue fun x => { x with barMark := false }) :=
    .mapCue_aside _ rfl rfl rfl rfl rfl
  unfold State.takeBarReached
  split
  · exact refl s
  · dsimp only
    refine ite (fun h => of_loud (spent.loud.trans (.fire _ _ _)) fun _ => ?_) fun _ => of_keeps spent
    have running : s.ctl.state = .running := h.1
    simp [running]

theorem takeReport (r : Report) : Holds s (s.takeReport r) := by
  cases r with
  | barReached bar pass => exact takeBarReached bar
  | changeDue => exact handOver false
  | mapEnd =>
    show Holds s (match s.mapEnded with | some e => s.takeMapEnd e | none => s)
    split
    next e h =>
      refine of_loud (.takeMapEnd e) ?_
      unfold State.mapEnded at h
      split at h
      next k => exact State.StoppedQuiet.of_next k
      next => cases h
    next => exact refl s
  | continueReached x => exact of_keeps (.continueReached x)
  | resumeReached x => exact of_keeps (.resumeReached x)

theorem settle : Holds s (settle s) :=
  settle_rel Holds refl (fun _ _ _ => trans) (fun _ _ => of_keeps (.same rfl rfl rfl rfl rfl (.refl _)))
    (fun _ _ => takeReport _) s

/-! ## Calls and holds -/

theorem takeCall (c : Cue) (source : GoSource) (found : Bool) (h : s.callRefusal found = none) :
    Holds s (s.takeCall c source) := by
  refine of_loud (.takeCall c source) fun _ e => ?_
  simp [State.callRefusal, e] at h

theorem takeContinue (countIn : Nat) (source : HoldSource) (h : s.ctl.state = .holding) :
    Holds s (s.takeContinue countIn source) := by
  have recorded : Keeps False True s
      (s.mapCtl fun c => { c with continuePending := some ⟨s.horizon, countIn, source⟩ }) :=
    .mapCtl_aside _ id rfl
  exact (of_loud (recorded.trans (.engineContinue countIn)) fun _ => by simp [h]).trans settle

/-! ## Stops, resumption and the end of a show -/

/-- R111: each station is quiet from the stop sample on, once its channel is cancelled and its patches discarded. -/
theorem quietFrom_stop (s0 : Sample) (h : s.LinkInv) :
    (Machine.forAll (State.patchStop s0) (Machine.forAll (State.cancel s0) s)).QuietFrom s0 := by
  intro n
  have hch : (Machine.forAll (State.patchStop s0) (Machine.forAll (State.cancel s0) s)).ch n =
      (State.cancel s0 n s).ch n := by
    rw [forAll_ch fun m => ActsOn.patchStop (n := m) s0]
    refine Eq.trans ?_ (forAll_ch (fun m => ActsOn.cancel (n := m) s0) n s)
    generalize Machine.forAll (State.cancel s0) s = t
    unfold State.patchStop
    dsimp only
    split
    · split <;> rfl
    · rfl
  rw [hch, forAll_patchOf fun m => ActsOn.patchStop (n := m) s0]
  constructor
  · generalize Machine.forAll (State.cancel s0) s = t
    unfold State.patchStop
    dsimp only
    split
    next e he =>
      split
      next => simp
      next hd =>
        rw [he]
        rintro _ ⟨⟩
        cases hp : e.phase <;> simp_all [PendingPhase.discardedAt, PendingPhase.notWaiting]
    next he => simp [he]
  · unfold State.cancel
    split
    next =>
      simp only [State.ch_mapLink_self, State.send, State.emit, Link.cancelFrom, List.mem_filter]
      exact fun e he _ => of_decide_eq_true he.2
    next hup =>
      have hq : (s.ch n).link.queue = [] := (h n).2 (by simpa [Channel.isUp] using hup)
      simp [hq]

theorem applyPending_noneFired (h : s.NoneFired) : s.applyPending.NoneFired := by
  unfold State.applyPending
  split
  · simpa [State.NoneFired, State.applyEdit_cue, CueEngine.committed] using h
  · exact h

/-- R77: a stop leaves both slots empty. -/
theorem stopCues_noneFired : s.stopCues.NoneFired := by
  unfold State.stopCues
  split
  next h =>
    simp only [CueEngine.slotsEmpty, Bool.and_eq_true, Option.isNone_iff_eq_none] at h
    exact applyPending_noneFired h
  next =>
    refine applyPending_noneFired ?_
    have frame := State.setWarned_frame ((s.mapCue CueEngine.clearSlots).setStandby s.cue.earliest)
      s.cue.earliest s.time.S
    unfold State.NoneFired State.cueCancelled State.offer
    rw [frame.cue]
    exact ⟨rfl, rfl⟩

/-- R111: a stop taken keeps every invariant, and stops the show. -/
theorem takeStop (source : StopSource) : Holds s (s.takeStop source) := by
  let s1 := (s.mapCtl fun c => c.stop (s.newStopRecord source)).mapClick fun e => e.stop s.time.S
  let s2 := Machine.forAll (State.patchStop s.time.S) (Machine.forAll (State.cancel s.time.S) s1)
  let s3 := (s2.offer (.showStop s.time.S (.new (s.newStopRecord source)))).stopLamps
  have quieted : Keeps True True s1 s2 := (Keeps.forAll (fun _ _ => .cancel _) _).trans (.forAll (fun _ _ => .patchStop _) _)
  have lamps : Keeps True True s2 s3 := (Keeps.offer _).trans .stopLamps
  have ends : Keeps True True s3.stopCues (s.takeStop source) := .abortTests
  have toCues : Keeps True True s1 s3.stopCues := (quieted.trans lamps).trans .stopCues
  have all : Keeps True True s1 (s.takeStop source) := toCues.trans ends
  have hheld : s1.click.held = true := by
    show (s.click.stop s.time.S).held = true
    unfold ClickEngine.stop
    split
    · assumption
    · rfl
  have hrec : s1.RecordAt s.time.S :=
    ⟨s.newStopRecord source, rfl, by cases source <;> simp [State.newStopRecord, StopCauses.add, StopCauses.Nonempty], rfl⟩
  refine ⟨all.port, all.queues, all.slots, all.patches, all.book, all.md trivial, fun ⟨hlink, _⟩ => ?_⟩
  refine ⟨all.links trivial hlink, (State.stoppedQuiet_iff _).mpr fun _ => ?_⟩
  have hquiet : s2.QuietFrom s.time.S := quietFrom_stop (s := s1) s.time.S hlink
  exact ⟨all.held trivial hheld, ends.empty trivial stopCues_noneFired, s.time.S, all.record trivial _ hrec,
    ((lamps.trans .stopCues).trans ends).quiet trivial _ hquiet⟩

theorem judgeStop (source : StopSource) : Holds s (s.judgeStop source) := by
  unfold State.judgeStop
  split
  · exact refl s
  · exact of_keeps (.addStop source)
  · exact takeStop source

theorem qualified : Holds s s.qualified := (of_keeps (.qualify _ _)).trans (judgeStop _)

theorem lineActive : Holds s s.lineActive := by
  unfold State.lineActive
  split
  · exact ite (fun _ => qualified) fun _ => of_keeps (.qualify _ _)
  · exact of_keeps (.qualify _ _)
  · exact refl s
  · exact refl s

theorem lineInactive : Holds s s.lineInactive := by
  unfold State.lineInactive
  split
  · exact of_keeps (.qualify _ _)
  · exact ite (fun _ => of_keeps (.qualify _ _)) fun _ => of_keeps (.qualify _ _)
  · exact refl s
  · exact refl s

theorem judgeLine : Holds s s.judgeLine :=
  ite (fun _ => (of_keeps (.qualify _ _)).trans lineActive) fun _ => of_keeps (.qualify _ _)

/-- A change of the Show State Controller that leaves the show not stopped. -/
theorem mapCtl_unstopped (f : ShowControl → ShowControl) (h : (f s.ctl).state ≠ .stopped) : Holds s (s.mapCtl f) :=
  of_unstopped (hush := False) (.mapCtl f (fun e => absurd e h) False.elim) h

/-- An act that begins with such a change. -/
theorem mapCtl_unstopped_then (f : ShowControl → ShowControl) (k : Keeps False True (s.mapCtl f) t)
    (h : (f s.ctl).state ≠ .stopped) : Holds s t := (mapCtl_unstopped f h).trans (of_loud k fun _ => h)

theorem takeResume (c : Cue) (map : Option Nat) (bar countIn : Nat) : Holds s (s.takeResume c map bar countIn) := by
  refine Holds.trans (mapCtl_unstopped_then (fun x =>
    { x with
      stopRecord := x.stopRecord.map fun r => r.resumed ⟨s.time.S, c.number, bar, map⟩
      state := .resuming }) ?_ (by simp)) settle
  exact ((Keeps.stopLamps.trans (.resumeCues c)).trans (.forAll (fun _ _ => .patchResume _ _) _)).trans
    ((Keeps.engineResume _ _ _).trans (.showNotice _ _ _))

theorem takeEnd : Holds s s.takeEnd := by
  refine mapCtl_unstopped_then
    (fun c => { c with state := .dark, holdPending := none, continuePending := none }) ?_ (by simp)
  exact (((Keeps.mapClick _ False.elim).trans .endCues).trans .stopLamps).trans (.showNotice _ _ _)

end Holds

end Sys2Proof.Machine
end

section
/-! PROOFS. The acts of the video inputs and outputs (08, 09) touch nothing the invariants speak of. -/

namespace Sys2Proof.Machine

namespace Keeps

variable {hush roles : Prop} {s : State}

/-! ## Inputs and the choice -/

theorem setInput (i : Input) (r : InputRecord) : Keeps hush roles s (s.setInput i r) := by
  cases i <;> exact same rfl rfl rfl rfl rfl (.refl _)

/-- A change of the Video Input Monitor alone. -/
theorem setVin (v : VideoIn) : Keeps hush roles s { s with vin := v } := same rfl rfl rfl rfl rfl (.refl _)

theorem mapVout (f : VideoOut → VideoOut) : Keeps hush roles s (s.mapVout f) := same rfl rfl rfl rfl rfl (.refl _)

theorem choose (i : Option Input) : Keeps hush roles s (s.choose i) := by
  have chosen : ∀ x, Keeps hush roles s ((s.setSelection x).choiceNotice .select i) :=
    fun x => Keeps.trans (setVin { s.vin with selection := x }) (offer _)
  exact ite (fun _ => refl s) fun _ => ite (fun _ => chosen _) fun _ => (chosen _).trans (offer _)

theorem takeEffect (i : Input) : Keeps hush roles s (s.takeEffect i) :=
  ite (fun _ => Keeps.trans (setVin { s.vin with selection := _ }) (offer _)) fun _ => refl s

theorem setReturn (i : Input) (locks : Bool) : Keeps hush roles s (s.setReturn i locks) := by
  cases i with
  | a => exact ite (fun _ => setVin _) fun _ => refl s
  | b => exact refl s

theorem spendReturn : Keeps hush roles s s.spendReturn := setVin _

theorem returnToA : Keeps hush roles s s.returnToA := by
  unfold State.returnToA
  exact ite (fun _ => (choose _).trans (setVin _)) fun _ => choose _

theorem returnNow : Keeps hush roles s s.returnNow :=
  ite (fun _ => spendReturn.trans returnToA) fun _ => spendReturn

theorem lockGained (i : Input) : Keeps hush roles s (s.lockGained i) := by
  refine ite (fun _ => ?_) fun _ => refl s
  cases i with
  | a => exact returnNow
  | b => exact ite (fun _ => choose _) fun _ => refl s

theorem lockLost (i : Input) : Keeps hush roles s (s.lockLost i) := ite (fun _ => choose _) fun _ => refl s

theorem lockChanged (i : Input) (before : LockState) : Keeps hush roles s (s.lockChanged i before) := by
  have noticed : Keeps hush roles s (s.lockNotice i before) := offer _
  exact ite (fun _ => refl s) fun _ => ite
    (fun _ => (noticed.trans (setReturn i true)).trans (lockGained i)) fun _ => ite
    (fun _ => ((noticed.trans (setReturn i false)).trans (lockLost i)).trans (takeEffect i)) fun _ => noticed

theorem mapInput (i : Input) (f : InputRecord → InputRecord) : Keeps hush roles s (s.mapInput i f) :=
  Keeps.trans (setInput _ _) (lockChanged _ _)

theorem monitorFrame (i : Input) (micros : Nat) : Keeps hush roles s (s.monitorFrame i micros) :=
  Keeps.trans (setInput _ _) ((lockChanged _ _).trans (takeEffect _))

theorem setHold (hold : Nat) : Keeps hush roles s (s.setHold hold) := by
  unfold State.setHold
  exact ite (fun _ => Keeps.trans (setVin { s.vin with selection := _ }) (setVin _)) fun _ => setVin _

theorem enterMode (m : SelectionMode) : Keeps hush roles s (s.enterMode m) := by
  have moded : Keeps hush roles s (s.setSelection { s.vin.selection with mode := m }) := setVin _
  unfold State.enterMode
  refine Keeps.trans ?_ (choose _)
  exact ite (fun _ => moded.trans (Keeps.trans (setVin _) spendReturn)) fun _ => moded

theorem select (m : SelectionMode) (hold : Nat) : Keeps hush roles s (s.select m hold) := by
  unfold State.select
  refine ite (fun _ => ite (fun _ => (setHold _).trans returnNow) fun _ => setHold _) fun _ =>
    Keeps.trans ?_ (enterMode _)
  exact ite (fun _ => (setHold _).trans spendReturn) fun _ => setHold _

/-! ## Outputs -/

theorem setOutput (o : OutputNo) (r : OutputRecord) : Keeps hush roles s (s.setOutput o r) :=
  same rfl rfl rfl rfl rfl (.refl _)

theorem refreshOutput (o : OutputNo) : Keeps hush roles s (s.refreshOutput o) := setOutput _ _

theorem refreshOutputs : Keeps hush roles s s.refreshOutputs := foldl (fun _ _ => refreshOutput _) _ s

theorem adopt (o : OutputNo) : Keeps hush roles s (s.adopt o) :=
  ite (fun _ => (setOutput o _).trans (mapVout _)) fun _ => refl s

theorem startFrame (o : OutputNo) (st : FrameState) (e : EntryNo) : Keeps hush roles s (s.startFrame o st e) := by
  unfold State.startFrame
  dsimp only
  exact (adopt o).trans (Keeps.trans (setOutput o _) (emit _))

theorem takePicture (i : Input) (o : OutputNo) : Keeps hush roles s (State.takePicture i s o) :=
  ite (fun _ => startFrame _ _ _) fun _ => refl s

theorem handFrame (i : Input) : Keeps hush roles s (s.handFrame i) := foldl (fun _ _ => takePicture _ _) _ s

theorem ownFrame (o : OutputNo) (micros : Nat) : Keeps hush roles s (s.ownFrame o micros) :=
  ite (fun _ => startFrame _ _ _) fun _ => refl s

/-! ## Settings -/

/-- R146: both inputs take a written entry in, and the outputs their frames in progress. -/
theorem rewriteInputs (f : InputRecord → InputRecord) :
    Keeps hush roles s ((s.mapInput .a f).mapInput .b f).refreshOutputs :=
  ((mapInput .a f).trans (mapInput .b f)).trans refreshOutputs

theorem putFormat (e : EntryNo) (f : Option Format) : Keeps hush roles s (s.putFormat e f) :=
  Keeps.trans (setVin { s.vin with formats := s.vin.formats.set e.val f e.isLt }) (rewriteInputs _)

theorem writeInputs (is : List Input) (m : InputMode) (lock unlock : Nat) :
    Keeps hush roles s (s.writeInputs is m lock unlock) := by
  have one : ∀ t i, Keeps hush roles t (State.setInputMode m lock unlock t i) := fun t i =>
    mapInput i fun _ => t.changeMode (t.input i).mode
      { t.input i with mode := m, lockCount := lock, unlockCount := unlock }
  exact (foldl one is s).trans refreshOutputs

end Keeps

end Sys2Proof.Machine
end

section
/-! PROOFS. The edit requests keep the book and the buffer in order, within their capacities, and complete (03). -/

namespace Sys2Proof.Machine

/-! ## Cues and maps in number order (R47, R48, R52) -/

theorem mem_insertCue {c x : Cue} {cs : List Cue} (h : x ∈ insertCue c cs) : x = c ∨ x ∈ cs := by
  induction cs with
  | nil => simpa [insertCue] using h
  | cons y ys ih =>
    simp only [insertCue] at h
    split at h
    · exact (List.mem_cons.mp h).imp_right (List.mem_cons_of_mem _)
    · split at h
      · exact List.mem_cons.mp h
      · rcases List.mem_cons.mp h with rfl | h
        · exact .inr List.mem_cons_self
        · exact (ih h).imp_right (List.mem_cons_of_mem _)

theorem insertCue_pairwise (c : Cue) {cs : List Cue} (h : cs.Pairwise fun x y => x.number < y.number) :
    (insertCue c cs).Pairwise fun x y => x.number < y.number := by
  induction cs with
  | nil => simp [insertCue]
  | cons y ys ih =>
    obtain ⟨hy, hys⟩ := List.pairwise_cons.mp h
    simp only [insertCue]
    split
    next e => exact List.pairwise_cons.mpr ⟨fun x hx => e ▸ hy x hx, hys⟩
    next ne =>
      split
      next lt =>
        refine List.pairwise_cons.mpr ⟨fun x hx => ?_, h⟩
        rcases List.mem_cons.mp hx with rfl | hx
        · exact lt
        · exact lt.trans (hy x hx)
      next ge =>
        refine List.pairwise_cons.mpr ⟨fun x hx => ?_, ih hys⟩
        rcases mem_insertCue hx with rfl | hx
        · omega
        · exact hy x hx

theorem mem_insertMap {m x : MapEntry} {ms : List MapEntry} (h : x ∈ insertMap m ms) : x = m ∨ x ∈ ms := by
  induction ms with
  | nil => simpa [insertMap] using h
  | cons y ys ih =>
    simp only [insertMap] at h
    split at h
    · exact (List.mem_cons.mp h).imp_right (List.mem_cons_of_mem _)
    · split at h
      · exact List.mem_cons.mp h
      · rcases List.mem_cons.mp h with rfl | h
        · exact .inr List.mem_cons_self
        · exact (ih h).imp_right (List.mem_cons_of_mem _)

theorem insertMap_pairwise (m : MapEntry) {ms : List MapEntry} (h : ms.Pairwise fun x y => x.number < y.number) :
    (insertMap m ms).Pairwise fun x y => x.number < y.number := by
  induction ms with
  | nil => simp [insertMap]
  | cons y ys ih =>
    obtain ⟨hy, hys⟩ := List.pairwise_cons.mp h
    simp only [insertMap]
    split
    next e => exact List.pairwise_cons.mpr ⟨fun x hx => e ▸ hy x hx, hys⟩
    next ne =>
      split
      next lt =>
        refine List.pairwise_cons.mpr ⟨fun x hx => ?_, h⟩
        rcases List.mem_cons.mp hx with rfl | hx
        · exact lt
        · exact lt.trans (hy x hx)
      next ge =>
        refine List.pairwise_cons.mpr ⟨fun x hx => ?_, ih hys⟩
        rcases mem_insertMap hx with rfl | hx
        · omega
        · exact hy x hx

/-- R56: a part of a book in order is in order. -/
theorem Book.Ordered.sublist {b : Book} (h : b.Ordered) {cs : List Cue} {ms : List MapEntry}
    (hc : cs.Sublist b.cues) (hm : ms.Sublist b.maps) : Book.Ordered ⟨cs, ms⟩ := by
  obtain ⟨hcues, hmaps, hlen, hent, hdec⟩ := h
  exact ⟨hcues.sublist hc, hmaps.sublist hm, hc.length_le.trans hlen,
    ((hc.map fun c => c.entries.length).sum_le_sum fun _ _ => Nat.zero_le _).trans hent,
    ((hm.map MapEntry.declared).sum_le_sum fun _ _ => Nat.zero_le _).trans hdec⟩

theorem Book.Ordered.empty : Book.empty.Ordered := by
  simp [Book.Ordered, Book.empty, entryCount, declaredTotal]

/-- R58: a buffer without a fault has complete maps. -/
theorem Book.complete_of_fault {b : Book} (h : b.fault = none) : b.Complete := by
  unfold Book.fault at h
  split at h
  · cases h
  next hi =>
    simp only [Book.incompleteMap, Option.map_eq_none_iff, List.find?_eq_none] at hi
    intro m hm
    simpa [MapEntry.complete] using hi m hm

namespace Keeps

variable {hush roles : Prop} {s : State}

/-- A change of the buffer and the edit state that leaves the slots and the book. -/
theorem edited (f : CueEngine → CueEngine) (hbook : (f s.cue).book = s.cue.book)
    (hf : (f s.cue).inFlight = s.cue.inFlight) (hq : (f s.cue).queued = s.cue.queued)
    (h : s.BookInv → (f s.cue).buffer.Ordered ∧ ((f s.cue).edit = .pendingApply → (f s.cue).buffer.Complete)) :
    Keeps hush roles s (s.mapCue f) := by
  refine mapCue f (by rw [hf, hq]; exact id) (fun k => ?_) fun _ => ?_
  · refine ⟨?_, ?_, (h k).1, (h k).2⟩ <;> simp only [State.mapCue_cue, hbook]
    · exact k.1
    · exact k.2.1
  · simp only [State.NoneFired, State.mapCue_cue, hf, hq]; exact id

/-- R54: a request that only an OPEN edit takes. -/
theorem whenOpen {act : State → State × Answer}
    (h : s.cue.edit = .openEdit → Keeps hush roles s (act s).1) : Keeps hush roles s (s.whenOpen act).1 := by
  unfold State.whenOpen
  split
  · exact refl s
  · exact refl s
  · exact h ‹_›

/-- R56, R57: a buffer in order written in OPEN. -/
theorem setBuffer (b : Book) (hopen : s.cue.edit = .openEdit) (h : s.BookInv → b.Ordered) :
    Keeps hush roles s (s.setBuffer b) :=
  edited (fun c => { c with buffer := b }) rfl rfl rfl fun k =>
    ⟨h k, fun e => by rw [hopen] at e; cases e⟩

theorem beginEdit : Keeps hush roles s (actBeginEdit s).1 := by
  unfold actBeginEdit
  split
  · exact refl s
  · exact refl s
  · exact edited (fun c => { c with edit := .openEdit, buffer := c.book, copiedFrom := c.serial }) rfl rfl rfl
      fun k => ⟨k.1, by simp⟩

theorem putCue (raw : RawCue) (hopen : s.cue.edit = .openEdit) : Keeps hush roles s (actPutCue raw s).1 := by
  unfold actPutCue
  split
  · exact refl s
  · dsimp only
    split
    next c _ _ hfit =>
      refine setBuffer _ hopen fun k => ?_
      obtain ⟨-, -, ⟨hcues, hmaps, -, -, hdec⟩, -⟩ := k
      obtain ⟨hlen, hent⟩ := of_decide_eq_true hfit
      exact ⟨insertCue_pairwise c hcues, hmaps, hlen, hent, hdec⟩
    · exact refl s

theorem deleteCue (number : Nat) (hopen : s.cue.edit = .openEdit) :
    Keeps hush roles s (actDeleteCue number s).1 := by
  unfold actDeleteCue
  split
  · exact refl s
  · exact setBuffer _ hopen fun k => k.2.2.1.sublist List.filter_sublist (.refl _)

theorem putMap (map first declared : Nat) (raw : List RawSegment) (hopen : s.cue.edit = .openEdit) :
    Keeps hush roles s (actPutMap map first declared raw s).1 := by
  unfold actPutMap
  split
  · exact refl s
  · split
    · exact refl s
    · split
      · exact refl s
      next m _ =>
        unfold State.putEntry
        dsimp only
        split
        next hdec =>
          refine setBuffer _ hopen fun k => ?_
          obtain ⟨-, -, ⟨hcues, hmaps, hlen, hent, -⟩, -⟩ := k
          exact ⟨hcues, insertMap_pairwise m hmaps, hlen, hent, hdec⟩
        · exact refl s

theorem deleteMap (map : Nat) (hopen : s.cue.edit = .openEdit) : Keeps hush roles s (actDeleteMap map s).1 := by
  unfold actDeleteMap
  split
  · exact refl s
  · exact setBuffer _ hopen fun k => k.2.2.1.sublist (.refl _) List.filter_sublist

theorem commitEdit : Keeps hush roles s (actCommitEdit s).1 := by
  unfold actCommitEdit
  split
  · exact refl s
  next h =>
    split
    · exact applyEdit fun _ => Book.complete_of_fault h
    · exact edited (fun c => { c with edit := .pendingApply }) rfl rfl rfl
        fun k => ⟨k.2.2.1, fun _ => Book.complete_of_fault h⟩

theorem abandonEdit : Keeps hush roles s (actAbandonEdit s).1 := by
  unfold actAbandonEdit
  split
  · exact refl s
  · exact edited (fun c => { c with edit := .closed, buffer := Book.empty }) rfl rfl rfl fun _ => ⟨.empty, by simp⟩

theorem fromSource (source : Nat) {act : Bool → Book → State × Answer} (h : ∀ e b, (act e b).1 = s) :
    Keeps hush roles s (s.fromSource source act).1 := by
  unfold State.fromSource
  split
  · rw [h]
    exact refl s
  · split
    · exact refl s
    · rw [h]
      exact refl s
  · exact refl s

end Keeps

end Sys2Proof.Machine
end

section
/-! PROOFS. The judgement of every request keeps the invariants. -/

namespace Sys2Proof.Machine

variable {s : State}

namespace Holds

/-! ## Calls -/

theorem actCall (target : Option Cue) : Holds s (actCall target s).1 := by
  unfold Machine.actCall
  split
  next c h =>
    dsimp only
    have taken : Holds s (s.takeCall c .host) := takeCall c .host true h
    exact taken.trans settle
  · exact refl s
  · exact refl s

theorem actGo (expected : Nat) : Holds s (actGo expected s).1 := by
  unfold Machine.actGo
  split
  · exact refl s
  · exact actCall _

theorem actGoto (number : Nat) : Holds s (actGoto number s).1 := by
  unfold Machine.actGoto
  split
  · exact refl s
  · exact actCall _

theorem actLockoutSet (ms : Nat) : Holds s (actLockoutSet ms s).1 :=
  of_keeps (Keeps.mapCue_aside (fun c => { c with lockoutMs := min Config.lockoutMax ms }) rfl rfl rfl rfl rfl)

theorem actRelease : Holds s (actRelease s).1 := by
  unfold Machine.actRelease
  dsimp only
  split
  · exact of_keeps .release
  · exact refl s

/-! ## The clock -/

theorem actClockSelectWord : Holds s (actClockSelectWord s).1 := by
  unfold Machine.actClockSelectWord clockReply
  repeat' split
  all_goals dsimp only
  · exact of_keeps (.mapTime (s := s) _)
  · exact of_keeps (.mapTime (s := s) _)
  · exact refl s

theorem actClockSelectInternal : Holds s (actClockSelectInternal s).1 := by
  have moved : Keeps True True s (s.mapTime fun t =>
      { t with clockState := .internal, autoSwitch := false, pendingSwitch := none }) := .mapTime _
  refine of_keeps (Keeps.ite (fun _ => moved) fun _ => moved.trans (.offer _))

/-! ## The show -/

theorem actSilenceSet (limit : Nat) : Holds s (actSilenceSet limit s).1 :=
  of_keeps (Keeps.mapCtl_aside
    (fun c =>
      { c with
        silenceLimit := min Config.silenceLimitMax limit
        silenceEnd :=
          if min Config.silenceLimitMax limit = 0 then none
          else some (s.time.S + min Config.silenceLimitMax limit * Config.silenceUnit) }) id rfl)

theorem actStartPreshow : Holds s (actStartPreshow s).1 := by
  unfold Machine.actStartPreshow
  repeat' split
  · exact refl s
  · exact refl s
  · exact refl s
  · dsimp only
    exact of_keeps ((Keeps.changeShow (after := .preshow) (by decide) _ _).trans .openCues)

theorem actHold : Holds s (actHold s).1 := by
  unfold Machine.actHold
  split
  · exact of_keeps (.hold _)
  · exact refl s

theorem actContinue (countIn : Nat) : Holds s (actContinue countIn s).1 := by
  unfold Machine.actContinue
  split
  · exact refl s
  next h =>
    dsimp only
    split
    · exact refl s
    · exact takeContinue _ _ (by simpa using h)

theorem actStoplineSet (mode time : Nat) : Holds s (actStoplineSet mode time s).1 := by
  unfold Machine.actStoplineSet
  split
  · exact refl s
  next m _ =>
    have stored : Holds s (s.mapCtl fun c => { c with lineMode := m, qualifyMs := min Config.qualifyMax time }) :=
      of_keeps (.mapCtl_aside _ id rfl)
    exact stored.trans judgeLine

theorem actStop : Holds s (actStop s).1 := by
  unfold Machine.actStop
  split
  · exact refl s
  · exact judgeStop _

theorem actResume (cue bar countIn : Nat) : Holds s (actResume cue bar countIn s).1 := by
  unfold Machine.actResume
  repeat' split
  · exact refl s
  · exact refl s
  · exact refl s
  · exact takeResume _ _ _ _

theorem actEndShow : Holds s (actEndShow s).1 := ite (fun _ => refl s) fun _ => takeEnd

/-! ## Stations -/

/-- An act that keeps the roles by what they are and not by leaving them. -/
theorem of_roles {t : State} (h : Keeps True False s t) (hlinks : s.LinkInv → t.LinkInv)
    (hmd : s.MdInv → t.MdInv) : Holds s t :=
  of_keeps { h with links := fun _ => hlinks, md := fun _ => hmd }

theorem writeStations_md (a : Assigned) (ns : List Station)
    (h : a.role = .md → (∀ m ∉ ns, (s.ch m).assigned.role ≠ .md) ∧ ∀ n ∈ ns, ∀ m ∈ ns, n = m) (hmd : s.MdInv) :
    (forStations (State.writeStation a) ns s).MdInv := by
  intro n m hn hm
  rw [State.writeStations_assigned] at hn hm
  by_cases kn : n ∈ ns
  · rw [if_pos kn] at hn
    by_cases km : m ∈ ns
    · exact (h hn).2 n kn m km
    · rw [if_neg km] at hm
      exact absurd hm ((h hn).1 m km)
  · rw [if_neg kn] at hn
    by_cases km : m ∈ ns
    · rw [if_pos km] at hm
      exact absurd hn ((h hm).1 n kn)
    · rw [if_neg km] at hm
      exact hmd n m hn hm

/-- R120: a role MD that is not taken may be written. -/
theorem mdTaken_false {station : Nat} (h : s.mdTaken station = false) (n m : Station) :
    let ns := match stationOf station with
      | some n => [n]
      | none => s.inUse
    (m ∉ ns → (s.ch m).assigned.role ≠ .md) ∧ (n ∈ ns → m ∈ ns → n = m) := by
  unfold State.mdTaken at h
  split at h
  next k hk =>
    simp only [hk, List.mem_singleton]
    refine ⟨fun hm => ?_, fun hn hm => hn.trans hm.symm⟩
    have := List.any_eq_false.mp h m (mem_allStations m)
    simpa [hm] using this
  next hk =>
    simp only [hk]
    have hlen : s.inUse.length ≤ 1 := by simpa using h
    refine ⟨fun hm hmd => hm ?_, fun hn hm => ?_⟩
    · simp [State.inUse, mem_allStations, Channel.inUse, hmd]
    · match hu : s.inUse, hlen, hn, hm with
      | [x], _, hn, hm => exact (List.mem_singleton.mp hn).trans (List.mem_singleton.mp hm).symm

theorem actStationSet (station : Nat) (raw : RawAssigned) : Holds s (actStationSet station raw s).1 := by
  unfold Machine.actStationSet
  split
  · exact refl s
  next a _ _ =>
    split
    · exact refl s
    next h =>
      refine of_roles (.forStations (fun _ _ => .writeStation a False.elim) _ _)
        (fun k => k.writeStations a _) fun k => writeStations_md a _ (fun hmd => ?_) k
      have htaken : s.mdTaken station = false := by
        simpa using fun e => h (.inr ⟨hmd, e⟩)
      exact ⟨fun m => (mdTaken_false htaken m m).1, fun n hn m => (mdTaken_false htaken n m).2 hn⟩

theorem actRetrain (station : Nat) : Holds s (actRetrain station s).1 := by
  unfold Machine.actRetrain
  split
  · exact refl s
  · split
    · split
      · exact of_keeps .retrainOne
      · exact refl s
    · exact of_keeps (.forStations (fun _ _ => .retrainOne) _ _)

theorem actLamp (station : Nat) (raw : RawLamp) : Holds s (actLamp station raw s).1 := by
  unfold Machine.actLamp
  split
  · exact refl s
  · split
    · exact refl s
    · split
      · exact of_keeps (.setLamp _ _ _ _)
      · exact of_keeps (.forStations (fun _ _ => .setLamp _ _ _ _) _ _)

theorem actLinkTest (tag station : Nat) : Holds s (actLinkTest tag station s).1 := by
  unfold Machine.actLinkTest
  repeat' split
  · exact refl s
  · exact refl s
  · exact refl s
  · dsimp only
    exact of_keeps ((Keeps.send _ _).trans (.link_aside _ _ rfl rfl))

theorem actStationParam (tag station number : Nat) (value : Option (BitVec 32)) :
    Holds s (actStationParam tag station number value s).1 := by
  unfold Machine.actStationParam
  repeat' split
  · exact refl s
  · exact refl s
  · exact refl s
  · dsimp only
    exact of_keeps ((Keeps.send _ _).trans (.link_aside _ _ rfl rfl))

theorem actStationQuery (station : Nat) : Holds s (actStationQuery station s).1 := by
  unfold Machine.actStationQuery
  split
  · exact refl s
  · dsimp only
    exact of_keeps (.link_aside _ _ rfl rfl)

/-! ## Video -/

theorem actFormatPutRead (entry : Nat) : Holds s (actFormatPutRead entry s).1 := by
  unfold Machine.actFormatPutRead
  split <;> exact refl s

theorem actFormatPutWrite (entry : Nat) (raw : RawFormat) : Holds s (actFormatPutWrite entry raw s).1 := by
  unfold Machine.actFormatPutWrite
  repeat' split
  · exact refl s
  · exact refl s
  · exact of_keeps (.putFormat _ _)
  · exact refl s

theorem actInputSetRead (address : Nat) : Holds s (actInputSetRead address s).1 := by
  unfold Machine.actInputSetRead
  split <;> exact refl s

theorem actInputSetWrite (address mode entry lock unlock : Nat) :
    Holds s (actInputSetWrite address mode entry lock unlock s).1 := by
  unfold Machine.actInputSetWrite
  split
  · exact of_keeps (.writeInputs _ _ _ _)
  · exact refl s

theorem actSelect (mode hold : Nat) : Holds s (actSelect mode hold s).1 := by
  unfold Machine.actSelect
  split
  · exact refl s
  · exact of_keeps ((Keeps.select _ _).trans .refreshOutputs)

theorem actOutputSetRead (output : Nat) : Holds s (actOutputSetRead output s).1 := by
  unfold Machine.actOutputSetRead
  split <;> exact refl s

theorem actOutputSetWrite (output : Nat) (raw : RawOutput) : Holds s (actOutputSetWrite output raw s).1 := by
  unfold Machine.actOutputSetWrite
  split
  · exact of_keeps (((Keeps.setOutput _ _).trans (.mapVout _)).trans (.refreshOutput _))
  · exact refl s

theorem actPalette (entry red green blue : Nat) : Holds s (actPalette entry red green blue s).1 := by
  unfold Machine.actPalette
  split
  · dsimp only
    exact of_keeps (.mapVout _)
  · exact refl s

theorem actOverlayPutField (field : Nat) (raw : RawField) : Holds s (actOverlayPutField field raw s).1 := by
  unfold Machine.actOverlayPutField
  repeat' split
  · exact refl s
  · exact refl s
  · dsimp only
    exact of_keeps (.mapVout _)

theorem actOverlayPutBannerText (text : Text) : Holds s (actOverlayPutBannerText text s).1 := by
  unfold Machine.actOverlayPutBannerText
  split
  · dsimp only
    exact of_keeps (.mapVout _)
  · exact refl s

theorem actOverlayCommit : Holds s (actOverlayCommit s).1 :=
  of_keeps (Keeps.mapVout fun v => v.stage.settleStaged)

/-! ## The port's own requests -/

/-- A change of the port within its bounds. -/
theorem setPort (p : ControlPort) (h : s.port.Keeps p) : Holds s { s with port := p } :=
  of_keeps (.same rfl rfl rfl rfl rfl h)

end Holds

/-- R170: the judgement of every request keeps the invariants. -/
theorem owner_holds {i : Instr} {r : Request} (h : requestOf i = some r) (s : State) : Holds s (r.owner s).1 := by
  cases i <;> simp only [requestOf, Option.some.injEq, reduceCtorEq] at h <;> subst h
  case clockQuery => exact .refl s
  case clockSelectWord => exact .actClockSelectWord
  case clockSelectInternal => exact .actClockSelectInternal
  case beginEdit => exact .of_keeps .beginEdit
  case putCue => exact .of_keeps (.whenOpen (.putCue _))
  case deleteCue => exact .of_keeps (.whenOpen (.deleteCue _))
  case putMap => exact .of_keeps (.whenOpen (.putMap _ _ _ _))
  case deleteMap => exact .of_keeps (.whenOpen (.deleteMap _))
  case commitEdit => exact .of_keeps (.whenOpen fun _ => .commitEdit)
  case abandonEdit => exact .of_keeps .abandonEdit
  case cueQuerySummary => exact .of_keeps (.fromSource _ fun _ _ => rfl)
  case cueQueryCue => exact .of_keeps (.fromSource _ fun _ _ => by unfold cueReply; split <;> rfl)
  case cueQueryNextCue => exact .of_keeps (.fromSource _ fun _ _ => by unfold cueReply; split <;> rfl)
  case cueQueryMap => exact .of_keeps (.fromSource _ fun _ _ => by split <;> rfl)
  case cueQueryRun => exact .refl s
  case go => exact .actGo _
  case goto => exact .actGoto _
  case lockoutSet => exact .actLockoutSet _
  case release => exact .actRelease
  case silenceSet => exact .actSilenceSet _
  case startPreshow => exact .actStartPreshow
  case hold => exact .actHold
  case continueShow => exact .actContinue _
  case stoplineSet => exact .actStoplineSet _ _
  case stop => exact .actStop
  case resume => exact .actResume _ _ _
  case endShow => exact .actEndShow
  case stopQuery => exact .refl s
  case stationSet => exact .actStationSet _ _
  case retrain => exact .actRetrain _
  case lamp => exact .actLamp _ _
  case linkTest => exact .actLinkTest _ _
  case stationParamRead => exact .actStationParam _ _ _ _
  case stationParamWrite => exact .actStationParam _ _ _ _
  case stationQuery => exact .actStationQuery _
  case formatPutRead => exact .actFormatPutRead _
  case formatPutWrite => exact .actFormatPutWrite _ _
  case inputSetRead => exact .actInputSetRead _
  case inputSetWrite => exact .actInputSetWrite _ _ _ _ _
  case select => exact .actSelect _ _
  case outputSetRead => exact .actOutputSetRead _
  case outputSetWrite => exact .actOutputSetWrite _ _
  case palette => exact .actPalette _ _ _ _
  case overlayPutField => exact .actOverlayPutField _ _
  case overlayPutBannerText => exact .actOverlayPutBannerText _
  case overlayCommit => exact .actOverlayCommit
  case noticeMaskRead => exact .refl s
  case noticeMaskWrite => exact .setPort _ ⟨id, id, Nat.le_refl _⟩
  case status => exact .setPort _ ⟨id, id, Nat.le_refl _⟩
  case restart => exact .setPort _ ⟨id, id, Nat.le_refl _⟩

end Sys2Proof.Machine
end

section
/-! PROOFS. The stations that RESTART (R175) and POWER_UP leave. -/

namespace Sys2Proof.Machine

/-- R175: the part at its RESTART values, before the stations in use enter SEEK. -/
def State.restarted (s : State) : State :=
  { s with
    time := s.time.restart
    click := ClickEngine.powerUp
    cue := s.cue.restart
    patches := Vector.replicate 24 PatchRecord.powerUp
    ctl := s.ctl.restart s.time.S
    chan := s.chan.map Channel.restart
    vin := s.vin.restart
    vout := VideoOut.afterReset s.vout.committed
    port := ControlPort.afterReset s.port.lineRate .restart
    reports := [] }

/-- R175: the channel of a station after RESTART. -/
def Channel.restarted (c : Channel) (y : Sample) : Channel :=
  ⟨c.assigned, Reported.cleared,
    if c.assigned.role = .unused then { Link.powerUp with serialLastUp := c.link.serialLastUp }
    else Link.seeking { Link.powerUp with serialLastUp := c.link.serialLastUp } y none⟩

namespace State

variable (s : State)

theorem restart_eq : s.restart = forAll reseek s.restarted := rfl

theorem restarted_ch (n : Station) : s.restarted.ch n = (s.ch n).restart := by
  simp [ch, restarted]

theorem restarted_patchOf (n : Station) : s.restarted.patchOf n = PatchRecord.powerUp := by
  simp [patchOf, restarted]

/-- R123, R175: a station's SEEK after RESTART. -/
theorem reseek_written (n : Station) :
    reseek n s =
      if (s.ch n).assigned.role = .unused then s
      else s.written n { s.ch n with link := (s.ch n).link.seeking s.time.S none } (s.patchOf n) s.port
        (s.emitted ++ [.link n s.time.S .seekBurst]) := by
  unfold reseek Channel.inUse
  by_cases h : (s.ch n).assigned.role = .unused
  · simp [h]
  · simp only [ne_eq, h, not_false_eq_true, decide_true, if_true, if_false]
    conv_lhs => rw [← s.written_self n]
    rw [written_enterSeek]

theorem restart_frame : s.restarted.PitOnly s.restart := forAll_frame (fun _ => .reseek) _

theorem restart_patchOf (n : Station) : s.restart.patchOf n = PatchRecord.powerUp := by
  rw [restart_eq, forAll_patchOf (fun _ => .reseek), reseek_written]
  split
  · exact s.restarted_patchOf n
  · rw [written_patchOf, restarted_patchOf]

theorem restart_ch (n : Station) : s.restart.ch n = (s.ch n).restarted s.time.S := by
  rw [restart_eq, forAll_ch (fun _ => .reseek), reseek_written]
  have hrole : (s.restarted.ch n).assigned = (s.ch n).assigned := by rw [restarted_ch]; rfl
  unfold Channel.restarted
  by_cases h : (s.ch n).assigned.role = .unused
  · rw [if_pos (by rw [hrole]; exact h), restarted_ch, if_pos h]
    rfl
  · rw [if_neg (by rw [hrole]; exact h), written_ch, restarted_ch, if_neg h]
    rfl

theorem restart_port : s.restart.port = ControlPort.afterReset s.port.lineRate .restart := by
  rw [restart_eq]
  refine forAll_rel (fun s t => t.port = s.port) (fun _ => rfl) (fun _ _ _ h k => k.trans h) _ ?_ _
  intro n t
  rw [reseek_written]
  split <;> rfl

end State

@[simp] theorem State.powerUp_patchOf (straps : Straps) (active : Bool) (cs : List Instr) (n : Station) :
    (State.powerUp straps active cs).patchOf n = PatchRecord.powerUp := by
  simp [State.patchOf, State.powerUp]

@[simp] theorem State.powerUp_ch (straps : Straps) (active : Bool) (cs : List Instr) (n : Station) :
    (State.powerUp straps active cs).ch n = Channel.powerUp := by
  simp [State.ch, State.powerUp]

theorem Channel.restarted_linkOk (c : Channel) (y : Sample) : (c.restarted y).LinkOk := by
  unfold Channel.restarted Channel.LinkOk
  by_cases h : c.assigned.role = .unused <;> simp [h, Link.seeking, Link.powerUp]

theorem Channel.restarted_queue (c : Channel) (y : Sample) : (c.restarted y).link.queue = [] := by
  unfold Channel.restarted
  split <;> rfl

end Sys2Proof.Machine
end

section
/-! PROOFS. Every step keeps the invariants (O57 to O60). -/

namespace Sys2Proof.Machine

/-- What a step keeps, each from any state that has it. -/
structure State.Kept (s t : State) : Prop where
  port : s.PortInv → t.PortInv
  queues : s.QueueInv → t.QueueInv
  slots : s.SlotInv → t.SlotInv
  patches : s.PatchInv → t.PatchInv
  book : s.BookInv → t.BookInv
  md : s.MdInv → t.MdInv
  stopped : s.StoppedInv → t.StoppedInv

namespace State.Kept

variable {s t u : State}

theorem refl (s : State) : s.Kept s := ⟨id, id, id, id, id, id, id⟩

theorem trans (h : s.Kept t) (k : t.Kept u) : s.Kept u :=
  ⟨k.port ∘ h.port, k.queues ∘ h.queues, k.slots ∘ h.slots, k.patches ∘ h.patches, k.book ∘ h.book,
    k.md ∘ h.md, k.stopped ∘ h.stopped⟩

theorem of_holds (h : Holds s t) : s.Kept t where
  port := fun ⟨hn, hr, hp⟩ => ⟨h.port.notices hn, h.port.rejects hr, h.port.places.trans hp⟩
  queues := h.queues
  slots := h.slots
  patches := h.patches
  book := h.book
  md := h.md
  stopped := h.stopped

/-- A change of the port alone, within its bounds. -/
theorem setPort (p : ControlPort) (h : s.PortInv → State.PortInv { s with port := p }) :
    s.Kept { s with port := p } :=
  ⟨h, id, id, id, id, id, id⟩

theorem done : s.Kept s.done := of_holds (.setPort _ (.arbitrate s.port))

theorem quiet : s.Kept s.quiet := ⟨id, id, id, id, id, id, id⟩

/-- R172: a REJECT made. -/
theorem reject (r : Reason) (tag : Nat) : s.Kept { s with port := s.port.reject r tag } := by
  refine setPort _ fun ⟨hn, hr, hp⟩ => ?_
  rcases s.port.reject_cases r tag with ⟨hlt, e⟩ | ⟨-, e⟩ <;> rw [e]
  · refine ⟨hn, ?_, hp⟩
    simp only [List.length_append, List.length_singleton]
    omega
  · exact ⟨hn, hr, hp⟩

/-- R170: an answer with a place, while one is free. -/
theorem answer (kind tag : Nat) (a : Answer) (h : Holds s t) (hfree : s.port.placesHeld < 4) :
    s.Kept (t.answer kind tag a true) := by
  have placed : ∀ a : Answer, s.Kept { t with port := t.port.answer ⟨kind, tag, a, true⟩ } := fun a => by
    refine ⟨fun k => ?_, h.queues, h.slots, h.patches, h.book, h.md, h.stopped⟩
    obtain ⟨hn, hr, -⟩ := (of_holds h).port k
    have held : t.port.placesHeld < 4 := Nat.lt_of_le_of_lt h.port.places hfree
    refine ⟨hn, hr, ?_⟩
    simpa [ControlPort.answer, ControlPort.placesHeld, Nat.lt_succ_iff] using held
  cases a with
  | deferred => exact of_holds h
  | ok c b => exact placed _
  | refused r d => exact placed _

end State.Kept

namespace Holds

variable {s : State}

/-- R2: an act that waits for a sample. -/
theorem whenReached {v : Option Sample} {act : State → State} (h : ∀ x y, v = some x → Holds (s.atS y) (act (s.atS y))) :
    Holds s (s.whenReached v act) := by
  rcases s.whenReached_cases v act with e | ⟨x, hx, -, e⟩ <;> rw [e]
  · exact refl s
  · exact ((of_keeps (.atS _)).trans (h x _ hx)).trans (of_keeps (.atS _))

/-! ## Requests -/

theorem validFrame : Holds s s.validFrame := by
  have silence : Holds s s.restartSilence := of_keeps (Keeps.mapCtl_aside (fun c =>
    { c with
      silenceEnd :=
        if s.ctl.silenceLimit = 0 then none
        else some (s.time.S + s.ctl.silenceLimit * Config.silenceUnit) }) id rfl)
  refine silence.trans ?_
  show Holds s.restartSilence s.restartSilence.returnToRemote
  unfold State.returnToRemote
  split
  · exact refl _
  · exact of_keeps ((Keeps.offer _).trans
      (.mapCue_aside (fun c => { c with mode := .remote, localEntry := none }) rfl rfl rfl rfl rfl))

theorem decodeRequest (tag : Nat) (ok : Bool) {owner : State → State × Answer} (h : ∀ s, Holds s (owner s).1) :
    Holds s (Machine.decodeRequest tag ok owner s).1 := by
  unfold Machine.decodeRequest
  repeat' split
  · exact refl s
  · exact refl s
  · exact h s

theorem decodeFrame (kind tag : Nat) (p : List Byte) : Holds s (Machine.decodeFrame kind tag p s).1 := by
  unfold Machine.decodeFrame Machine.judgeReading
  repeat' split
  · exact refl s
  · exact refl s
  · exact refl s
  · exact refl s
  · exact refl s
  next hr _ => exact owner_holds hr s
  · exact refl s

end Holds

theorem takeFrame_kept (kind tag : Nat) {judge : State → State × Answer} (h : ∀ s, Holds s (judge s).1) (s : State) :
    s.Kept (takeFrame kind tag judge s) := by
  have valid : s.Kept s.validFrame := .of_holds .validFrame
  rcases takeFrame_cases kind tag judge s with ⟨-, e⟩ | ⟨-, -, e⟩ | ⟨-, hfree, e⟩ <;> rw [e]
  · exact .refl s
  · exact valid.trans (.reject _ _)
  · exact valid.trans (.answer _ _ _ (h _) (s.validFrame_port.2.2.2 ▸ hfree))

/-- R169: a received byte. -/
theorem byteReceived_kept (b : Byte) (stopBit : Bool) (s : State) : s.Kept (actByteReceived b stopBit s) := by
  have same : ∀ p : ControlPort, p.notices = s.port.notices → p.rejects = s.port.rejects →
      p.placesHeld = s.port.placesHeld → s.Kept { s with port := p } := fun p hn hr hp =>
    .setPort p fun k => by simpa [State.PortInv, hn, hr, hp] using k
  have abandoned : s.Kept { s with port := s.port.abandon } := (same s.port.hunt rfl rfl rfl).trans (.reject _ _)
  unfold actByteReceived
  split
  · exact .refl s
  · split
    · split
      · exact same _ rfl rfl rfl
      · exact .refl s
    · split
      · unfold ControlPort.headerByte
        repeat' split
        · exact abandoned
        · exact same _ rfl rfl rfl
        · exact same _ rfl rfl rfl
        · exact same _ rfl rfl rfl
      · exact abandoned
    · split
      · unfold ControlPort.bodyByte
        split
        · exact same _ rfl rfl rfl
        · exact same _ rfl rfl rfl
      · exact abandoned
    · split
      · exact abandoned
      · split
        · exact same _ rfl rfl rfl
        · have hunted : s.Kept { s with port := s.port.hunt } := same _ rfl rfl rfl
          unfold State.completeFrame
          dsimp only
          split
          · exact hunted.trans (takeFrame_kept _ _ (fun _ => .decodeFrame _ _ _) _)
          · exact hunted.trans (.reject _ _)

/-- R175: a RESTART taking place. -/
theorem restart_kept (s : State) : s.Kept s.restart := by
  have frame := s.restart_frame
  refine ⟨fun _ => ?_, fun _ n => ?_, fun _ => ?_, fun _ n e he => ?_, fun ⟨hb, hc, _⟩ => ?_, fun h n m => ?_,
    fun _ => ⟨fun n => ?_, fun h => ?_⟩⟩
  · rw [State.PortInv, s.restart_port]
    exact ⟨Nat.zero_le _, Nat.zero_le _, Nat.zero_le _⟩
  · rw [s.restart_ch, Channel.restarted_queue]
    exact .nil
  · rw [State.SlotInv, frame.cue]
    exact fun _ => rfl
  · rw [s.restart_patchOf] at he
    cases he
  · rw [State.BookInv, frame.cue]
    exact ⟨hb, hc, .empty, nofun⟩
  · rw [s.restart_ch, s.restart_ch]
    exact h n m
  · rw [s.restart_ch]
    exact Channel.restarted_linkOk _ _
  · rw [frame.ctl] at h
    cases h

/-- R172: the place or the notice of a sent frame freed. -/
theorem freeSent_kept {s : State} {rs : List Reply} {ns : List Notice} (hrs : rs.Sublist s.port.replies)
    (hns : ns.length ≤ s.port.notices.length) : s.Kept (s.freeSent rs ns) := by
  refine .setPort _ fun ⟨hn, hr, hp⟩ => ?_
  have places : (rs.filter Reply.place).length ≤ s.port.placesHeld := (hrs.filter _).length_le
  exact ⟨hns.trans hn, hr, places.trans hp⟩

theorem frameSent_kept (s : State) : s.Kept (actFrameSent s) := by
  have put : ∀ f, s.Kept (s.emit (.serial f)) := fun f => .of_holds (.of_keeps (.emit _))
  unfold actFrameSent
  dsimp only
  split
  · exact .refl s
  · exact (put _).trans (freeSent_kept (List.Sublist.refl _) (Nat.le_refl _))
  · split
    · exact freeSent_kept (List.nil_sublist _) (Nat.le_refl _)
    next r rs h =>
      have left : s.Kept ((s.emit (.serial (.reply r))).freeSent rs s.port.notices) :=
        (put _).trans (freeSent_kept (h ▸ List.sublist_cons_self r rs) (Nat.le_refl _))
      split
      · exact left.trans (restart_kept _)
      · exact left
  · split
    · exact freeSent_kept (List.Sublist.refl _) (Nat.zero_le _)
    next n ns h => exact (put _).trans (freeSent_kept (List.Sublist.refl _) (by simp [State.emit, h]))

theorem powerUp_kept (straps : Straps) (lineActive : Bool) (s : State) (cs : List Instr) :
    s.Kept (State.powerUp straps lineActive cs) := by
  refine ⟨fun _ => ⟨Nat.zero_le _, Nat.zero_le _, Nat.zero_le _⟩, fun _ n => ?_, fun _ _ => rfl, fun _ n e he => ?_,
    fun _ => ⟨.empty, nofun, .empty, nofun⟩, fun _ n m h => ?_, fun _ => ⟨fun n => ?_, nofun⟩⟩
  all_goals simp only [State.powerUp_ch, State.powerUp_patchOf] at *
  · exact .nil
  · cases he
  · cases h
  · exact ⟨by simp [Channel.powerUp, Link.powerUp, Assigned.powerUp], fun _ => rfl⟩

end Sys2Proof.Machine
end

section
/-! PROOFS. Every event keeps the invariants, and so does every step (O57 to O60). -/

namespace Sys2Proof.Machine

namespace Keeps

variable {hush roles : Prop} {s : State} {n : Station}

/-! ## Links -/

/-- R125: a reply taken is one to a page of TRAINING. -/
theorem takeReply {k : PageKind} {toggle : Bool} {act : State → State}
    (h : ∀ t : State, (t.ch n).link.state = .training → Keeps hush roles t (act t)) :
    Keeps hush roles s (s.takeReply n k toggle act) := by
  unfold State.takeReply
  refine ite (fun ha => ?_) fun _ => refl s
  have training : (s.ch n).link.state = .training := by
    unfold Link.awaits at ha
    split at ha
    · simp only [Bool.and_eq_true, decide_eq_true_eq] at ha
      exact ha.1.1
    · cases ha
  exact Keeps.trans (link_aside n (fun l => { l with page := none }) rfl rfl) (h _ (by simpa using training))

theorem abilityReply (offersFull offersReduced hasRig : Bool) (h : (s.ch n).link.state = .training) :
    Keeps hush roles s (actAbilityReply n offersFull offersReduced hasRig s) := by
  unfold actAbilityReply
  dsimp only
  have stored : Keeps hush roles s (s.mapLink n fun l =>
    { l with ratesOffered := some (offersFull, offersReduced), rigCapable := some hasRig }) := link_aside n _ rfl rfl
  exact ite (fun _ => stored.trans (sendPage _)) fun _ => stored.trans (failAttempt _ (by simpa using h))

theorem delayProbeReply (stamp turnaround : Nat) (h : (s.ch n).link.state = .training) :
    Keeps hush roles s (actDelayProbeReply n stamp turnaround s) :=
  ite (fun _ => failAttempt _ h) fun _ => (link_aside n _ rfl rfl).trans (sendPage _)

theorem readyReply (h : (s.ch n).link.state = .training) : Keeps hush roles s (actReadyReply n s) := by
  have up : Keeps hush roles s (s.mapLink n fun l => l.up s.time.S) :=
    link_moved n _ rfl (by simp [h]) (by simp [h]) (by simp [Link.up])
  have lamps : ∀ t : State, Keeps hush roles t (State.stopLamp (t.setLamp n .cue .cue (t.cueLampAtUp n) t.time.S).ctl.state n
      (t.setLamp n .cue .cue (t.cueLampAtUp n) t.time.S)) := fun t => (setLamp _ _ _ _).trans (stopLamp _)
  have told : ∀ (t : State) e, Keeps hush roles t ((t.linkNotice n .training .trained e).mapLink n fun l =>
      { l with serialLastUp := l.stationSerial }) := fun t e => (linkNotice _ _ _).trans (link_aside n _ rfl rfl)
  exact ((up.trans patchLinkUp).trans (lamps _)).trans (told _ _)

theorem seekAnswer : Keeps hush roles s (actSeekAnswer n s) := by
  unfold actSeekAnswer
  dsimp only
  refine ite (fun h => ?_) fun _ => refl s
  have training : Keeps hush roles s (s.mapLink n fun l => { l with state := .training }) :=
    link_moved n _ rfl (by simp [h.1]) (by simp [h.1]) (by simp)
  exact (training.trans (linkNotice _ _ _)).trans (startAttempt _ (by simp [State.linkNotice]) (by simp [State.linkNotice]))

theorem seekHoldEnd : Keeps hush roles s (actSeekHoldEnd n s) := (link_aside n _ rfl rfl).trans burst

theorem pageRepeat : Keeps hush roles s (actPageRepeat n s) := by
  unfold actPageRepeat
  split
  · exact (send n _).trans (link_aside n _ rfl rfl)
  · exact refl s

/-- R130: an UP link lost. -/
theorem lost (cause : LinkCause) (h : (s.ch n).link.state = .up) (hc : cause ≠ .role) :
    Keeps hush roles s (s.leaveUp n cause) := leaveUp cause (by simp [h]) fun _ => hc

theorem checkError : Keeps hush roles s (actCheckError n s) := by
  unfold actCheckError
  dsimp only
  refine ite (fun h => ?_) fun _ => refl s
  have counted : Keeps hush roles s (s.mapLink n fun l => { l with errorCount := l.errorCount + 1 }) :=
    link_aside n _ rfl rfl
  have up : (s.ch n).link.state = .up := by simpa [Channel.isUp] using h
  exact ite (fun _ => counted.trans (lost _ (by simpa using up) (by decide))) fun _ => counted

/-! ## Tests -/

theorem testFrameSend : Keeps hush roles s (actTestFrameSend n s) := by
  unfold actTestFrameSend
  split
  · exact (send n _).trans (link_aside n _ rfl rfl)
  · exact refl s

theorem judgeEcho (frame : Nat) (good : Bool) : Keeps hush roles s (s.judgeEcho n frame good) := by
  unfold State.judgeEcho
  split
  · dsimp only
    exact ite (fun _ => (link_aside n _ rfl rfl).trans (endTest _)) fun _ => link_aside n _ rfl rfl
  · exact refl s

theorem testEcho (frame : Nat) (correct : Bool) : Keeps hush roles s (actTestEcho n frame correct s) := by
  unfold actTestEcho
  split
  · exact judgeEcho _ _
  · exact refl s

theorem relayAnswer (serial : Nat) (known : Bool) (value : BitVec 32) :
    Keeps hush roles s (actRelayAnswer n serial known value s) := by
  unfold actRelayAnswer
  split
  · exact ite (fun _ => endRelay _) fun _ => refl s
  · exact refl s

/-! ## The clock -/

theorem wordClockEdge : Keeps hush roles s (actWordClockEdge s) := by
  unfold actWordClockEdge
  dsimp only
  split
  · exact (mapTime Timebase.countEdge).trans (mapTime _)
  · exact mapTime _
  · exact ((mapTime Timebase.countEdge).trans (mapTime _)).trans (offer _)

theorem dropSwitch : Keeps hush roles s s.dropSwitch := by
  unfold State.dropSwitch
  split
  · exact refl s
  · exact (mapTime _).trans (offer _)

theorem missingEdgeEvent : Keeps hush roles s (actMissingEdgeEvent s) := by
  unfold actMissingEdgeEvent
  refine ite (fun _ => ?_) fun _ => refl s
  dsimp only
  split
  · exact (((mapTime fun t => { t with edgesAbsent := true, goodRun := 0, windowSpoiled := true }).trans
      (mapTime _)).trans (mapTime _)).trans (offer _)
  all_goals exact (mapTime _).trans dropSwitch

theorem rateWindowEnd : Keeps hush roles s (actRateWindowEnd s) := by
  unfold actRateWindowEnd
  refine ite (fun _ => ?_) fun _ => refl s
  dsimp only
  refine ite (fun _ => ite (fun _ => (mapTime Timebase.endWindow).trans (mapTime _)) fun _ => mapTime _) fun _ => ?_
  split
  · exact ((mapTime Timebase.endWindow).trans (mapTime _)).trans (offer _)
  all_goals exact (mapTime Timebase.endWindow).trans dropSwitch

/-! ## Host silence -/

theorem enterLocal : Keeps hush roles s s.enterLocal :=
  (mapCue_aside (fun c => { c with mode := .local_, localEntry := some ⟨s.time.S, 0⟩ }) rfl rfl rfl rfl rfl).trans
    (offer _)

/-! ## Video -/

theorem inputFrameStart (i : Input) (micros : Nat) : Keeps hush roles s (actInputFrameStart i micros s) :=
  ite (fun _ => refl s) fun _ => ((monitorFrame i micros).trans refreshOutputs).trans (handFrame i)

end Keeps

namespace Holds

variable {s : State} {n : Station}

/-! ## The Click Engine's moves -/

/-- R26, R111: a move the engine is due to make is made in a show that is not stopped. -/
theorem moved {hush : Prop} {act : State → State} {m : Move}
    (h : ∀ t, Keeps hush True t (act t)) :
    Holds s (s.whenReached (s.click.moveAt m) fun x => Machine.settle (act x)) := by
  refine whenReached fun x y hx => (of_loud (h _) fun quiet => ?_).trans settle
  have next : ∃ k, (s.atS y).click.next = some k := by
    show ∃ k, s.click.next = some k
    unfold ClickEngine.moveAt at hx
    split at hx
    next k x hk => exact ⟨_, hk⟩
    next => cases hx
  obtain ⟨k, hk⟩ := next
  exact quiet.of_next hk

theorem changeDue : Holds s (s.whenReached (s.click.limit.map beforeHorizon) fun x => Machine.settle (x.report .changeDue)) :=
  whenReached fun _ _ _ => (of_keeps (.report _)).trans settle

theorem actHoldReached : Holds s (Machine.actHoldReached s) := by
  unfold Machine.actHoldReached
  split
  · exact whenReached fun _ _ _ => of_keeps (.holdReached _)
  · exact refl s

theorem actContinueReached : Holds s (Machine.actContinueReached s) := by
  unfold Machine.actContinueReached
  split
  · exact whenReached fun _ _ _ => of_keeps (.continueReached _)
  · exact refl s

theorem actResumeReached : Holds s (Machine.actResumeReached s) := by
  unfold Machine.actResumeReached
  split
  · exact whenReached fun _ _ _ => of_keeps (.resumeReached _)
  · exact refl s

/-! ## The stop line -/

theorem setLine (active : Bool) : Holds s (s.setLine active) := of_keeps (.mapCtl_aside _ id rfl)

theorem actQualifierTimer : Holds s (Machine.actQualifierTimer s) := by
  unfold Machine.actQualifierTimer
  split
  · exact qualified
  · exact of_keeps (.qualify _ _)
  · exact refl s
  · exact refl s

/-! ## Status frames -/

theorem mdGo (enabled : Bool) : Holds s (s.mdGo enabled).1 := by
  unfold State.mdGo
  split
  · exact refl s
  · dsimp only
    split
    next c h ht =>
      have taken : Holds s (s.takeCall c .md) := takeCall c .md _ h
      have counted : Holds s (s.takeCall c .md).countMdGo := taken.trans (of_keeps .countMdGo)
      dsimp only
      exact counted.trans settle
    · exact refl s
    · exact refl s

theorem mdTap (enabled : Bool) (stamp : Sample) : Holds s (s.mdTap enabled stamp).1 := by
  unfold State.mdTap
  repeat' split
  · exact refl s
  · exact of_keeps (.takeTap _)
  · exact refl s

theorem mdRelease (enabled : Bool) : Holds s (s.mdRelease enabled).1 := by
  unfold State.mdRelease
  split
  · exact refl s
  · exact of_keeps .release

theorem mdHold (enabled : Bool) : Holds s (s.mdHold enabled).1 := by
  unfold State.mdHold
  split
  · exact refl s
  · split
    · exact of_keeps (.hold _)
    next h =>
      split
      · exact refl s
      · exact takeContinue _ _ h
    all_goals exact refl s

theorem mdStop (enabled : Bool) : Holds s (s.mdStop enabled).1 := by
  unfold State.mdStop
  split
  · exact refl s
  · exact judgeStop _

theorem mdInput (i : MdInput) : Holds s (State.mdInput n s i) := by
  unfold State.mdInput
  dsimp only
  split
  · refine Holds.trans ?_ (of_keeps (.offer _))
    unfold State.judgeInput
    cases i.kind with
    | go => exact mdGo _
    | tap => exact mdTap _ _
    | release => exact mdRelease _
    | hold => exact mdHold _
    | stopCall => exact mdStop _
  · exact of_keeps (.offer _)

theorem patchReports (items : StatusItems) : Holds s (s.patchReports n items) := by
  unfold State.patchReports
  dsimp only
  have done : Keeps True True s (items.patchDone.foldl (State.patchDone n) s) := .foldl (fun _ _ => .patchDone _) _ s
  split
  · exact of_keeps (done.trans (.localChange _))
  · exact of_keeps done

theorem foldl {α : Type} {f : State → α → State} (h : ∀ s a, Holds s (f s a)) (as : List α) (s : State) :
    Holds s (as.foldl f s) := by
  induction as generalizing s with
  | nil => exact refl s
  | cons a as ih => exact (h s a).trans (ih _)

theorem actStatusFrame (items : StatusItems) : Holds s (Machine.actStatusFrame n items s) := by
  unfold Machine.actStatusFrame
  refine ite (fun _ => ?_) fun _ => refl s
  have heard : Keeps True True s ((s.restartLinkSilence n).setReported n items.report) :=
    (Keeps.link_aside n _ rfl rfl).trans (.setReported _)
  exact (((of_keeps heard).trans (patchReports items)).trans (of_keeps (.heldReport _))).trans
    (foldl (fun _ i => mdInput i) _ _)

/-! ## Links -/

theorem patchDeadline : Holds s (s.whenReached (s.deadlineOf n) (actPatchDeadline n)) :=
  whenReached fun _ _ hx => of_keeps (.patchDeadline n hx)

theorem pageTimeout : Holds s (s.whenReached (s.ch n).link.pageEnd fun s => s.failAttempt n .pageTimeout) := by
  refine whenReached fun x y hx => of_keeps (.failAttempt _ ?_)
  show (s.ch n).link.state = .training
  by_contra hs
  simp [Link.pageEnd, Link.awaited, hs] at hx

theorem linkSilence :
    Holds s (if (s.ch n).isUp then s.whenReached (s.ch n).link.silenceEnd fun s => s.leaveUp n .silence else s) :=
  ite (fun up => whenReached fun _ y _ =>
    of_keeps (.lost (s := s.atS y) _ (by simpa [Channel.isUp] using up) (by decide))) fun _ => refl s

theorem gapExpiry : Holds s (s.whenReached s.port.gapEnd fun x => { x with port := x.port.hunt }) :=
  whenReached fun _ y _ => setPort (s := s.atS y) _ ⟨id, id, Nat.le_refl _⟩

/-- R142: the queue released once a test has ended. -/
theorem releaseQueue {t : State} (h : Holds s t) : Holds s (State.releaseQueue n s t) :=
  ite (fun _ => h.trans (of_keeps (.transmit n))) fun _ => h

end Holds

/-! ## Commands and steps -/

/-- A command whose act keeps the invariants keeps them. -/
theorem command_kept {act : State → State} (h : ∀ s : State, s.Kept (act s)) {s t : State}
    (ht : command act s = .next t) : s.Kept t := by
  rw [command_eq] at ht
  cases ht
  exact (State.Kept.quiet.trans (h _)).trans .done

theorem command_holds {act : State → State} (h : ∀ s : State, Holds s (act s)) {s t : State}
    (ht : command act s = .next t) : s.Kept t := command_kept (fun s => .of_holds (h s)) ht

theorem request_kept {i : Instr} {r : Request} (hr : requestOf i = some r) {s t : State} (h : exec i s = .next t) :
    s.Kept t := by
  rw [exec_request i s r hr] at h
  exact command_kept (fun _ => takeFrame_kept _ _ (fun _ => .decodeRequest _ _ (owner_holds hr)) _) h

theorem event_kept {i : Instr} (hr : requestOf i = none) {s t : State} (h : exec i s = .next t) : s.Kept t := by
  cases i <;> simp only [requestOf, reduceCtorEq] at hr
  case powerUp straps closed =>
    cases h
    exact powerUp_kept _ _ _ _
  case wordClockEdge => exact command_holds (fun _ => .of_keeps .wordClockEdge) h
  case internalPeriod => exact command_holds (fun _ => .of_keeps (.mapTime _)) h
  case missingEdgeEvent => exact command_holds (fun _ => .of_keeps .missingEdgeEvent) h
  case rateWindowEnd => exact command_holds (fun _ => .of_keeps .rateWindowEnd) h
  case beatProduction => exact command_holds (fun _ => .moved fun _ => .produceBeat) h
  case changeDue => exact command_holds (fun _ => .changeDue) h
  case mapEnd => exact command_holds (fun _ => .moved (hush := True) fun _ => .report _) h
  case tapOrFreeSegmentStart => exact command_holds (fun _ => .moved (hush := True) fun _ => .startSegment) h
  case holdReached => exact command_holds (fun _ => .actHoldReached) h
  case continueReached => exact command_holds (fun _ => .actContinueReached) h
  case resumeReached => exact command_holds (fun _ => .actResumeReached) h
  case silenceEnd =>
    exact command_holds (fun s => .ite (fun _ => .whenReached fun _ _ _ => .of_keeps .enterLocal) fun _ => .refl s) h
  case idleMark n => exact command_holds (fun _ => .whenReached fun _ _ _ => .of_keeps (.idleMark n)) h
  case patchDeadline n =>
    exact command_holds (fun _ => Holds.patchDeadline) h
  case ackTimeout n => exact command_holds (fun _ => .whenReached fun _ _ _ => .of_keeps (.ackTimeout n)) h
  case stopLineActive => exact command_holds (fun _ => (Holds.setLine true).trans .lineActive) h
  case stopLineInactive => exact command_holds (fun _ => (Holds.setLine false).trans .lineInactive) h
  case qualifierTimerExpiry => exact command_holds (fun _ => .whenReached fun _ _ _ => .actQualifierTimer) h
  case settingsRefresh n => exact command_holds (fun _ => .whenReached fun _ _ _ => .of_keeps .sendSettings) h
  case statusFrame n items => exact command_holds (fun _ => .actStatusFrame items) h
  case seekBurst n =>
    exact command_holds (fun s => .ite (fun _ => .whenReached fun _ _ _ => .of_keeps .burst) fun _ => .refl s) h
  case seekAnswer n => exact command_holds (fun _ => .of_keeps .seekAnswer) h
  case seekHoldEnd n =>
    exact command_holds (fun s => .ite (fun _ => .whenReached fun _ _ _ => .of_keeps .seekHoldEnd) fun _ => .refl s) h
  case pageRepeat n => exact command_holds (fun _ => .whenReached fun _ _ _ => .of_keeps .pageRepeat) h
  case pageTimeout n => exact command_holds (fun _ => Holds.pageTimeout) h
  case identReply n toggle kind serial =>
    exact command_holds (fun _ => .of_keeps (.takeReply fun _ _ => (Keeps.link_aside n _ rfl rfl).trans (.sendPage _))) h
  case abilityReply n toggle full reduced rig =>
    exact command_holds (fun _ => .of_keeps (.takeReply fun _ ht => .abilityReply _ _ _ ht)) h
  case delayProbeReply n toggle stamp turnaround =>
    exact command_holds (fun _ => .of_keeps (.takeReply fun _ ht => .delayProbeReply _ _ ht)) h
  case settingsReply n toggle report patch hold =>
    exact command_holds (fun _ => .of_keeps (.takeReply fun _ _ =>
      ((Keeps.setReported _).trans (.patchTrained _ _)).trans (.sendPage _))) h
  case readyReply n toggle => exact command_holds (fun _ => .of_keeps (.takeReply fun _ ht => .readyReply ht)) h
  case linkSilence n => exact command_holds (fun _ => Holds.linkSilence) h
  case backChannelCheckError n => exact command_holds (fun _ => .of_keeps .checkError) h
  case errorWindowEnd n =>
    exact command_holds (fun _ => .whenReached fun _ _ _ => .of_keeps (.link_aside n _ rfl rfl)) h
  case eventSendPoint n => exact command_holds (fun _ => .of_keeps (.transmit n)) h
  case testFrameSend n => exact command_holds (fun _ => .whenReached fun _ _ _ => .of_keeps .testFrameSend) h
  case testEcho n frame correct => exact command_holds (fun _ => .releaseQueue (.of_keeps (.testEcho _ _))) h
  case testEchoTimeout n frame =>
    exact command_holds (fun _ => .releaseQueue (.whenReached fun _ _ _ => .of_keeps (.judgeEcho _ _))) h
  case relayAnswer n serial known value => exact command_holds (fun _ => .of_keeps (.relayAnswer _ _ _)) h
  case relayTimeout n => exact command_holds (fun _ => .whenReached fun _ _ _ => .of_keeps (.endRelay _)) h
  case syncEdge i => exact command_holds (fun _ => .of_keeps (.mapInput _ _)) h
  case syncWatchExpiry i =>
    exact command_holds (fun _ => .whenReached fun _ _ _ => .of_keeps ((Keeps.mapInput _ _).trans .refreshOutputs)) h
  case inputFrameStart i micros => exact command_holds (fun _ => .of_keeps (.inputFrameStart _ _)) h
  case missingWatchExpiry i =>
    exact command_holds (fun _ => .whenReached fun _ _ _ => .of_keeps ((Keeps.mapInput _ _).trans .refreshOutputs)) h
  case returnTime =>
    exact command_holds (fun _ => .whenReached fun _ _ _ => .of_keeps (Keeps.returnNow.trans .refreshOutputs)) h
  case outputOwnFrameStart o micros => exact command_holds (fun _ => .of_keeps (.ownFrame _ _)) h
  case byteReceived b stopBit => exact command_kept (byteReceived_kept b stopBit) h
  case byteGapExpiry => exact command_holds (fun _ => Holds.gapExpiry) h
  case frameSent => exact command_kept frameSent_kept h

/-- What every step keeps. -/
theorem step_kept {s t : State} (h : step s = .next t) : s.Kept t := by
  unfold step at h
  split at h
  · cases h
    exact .refl s
  next c cs hp =>
    have popped : s.Kept { s with pending := cs } := ⟨id, id, id, id, id, id, id⟩
    refine popped.trans ?_
    cases hr : requestOf c with
    | none => exact event_kept hr h
    | some r => exact request_kept hr h

/-- Settles O57: a step keeps what its act keeps, and every act feeds queues through `Link.place` alone. -/
theorem stepKeepsQueues : Obligations.StepKeepsQueues := fun _ _ hq h => (step_kept h).queues hq

/-- Settles O58: only `takeStop` stops a show, and what acts while it is stopped neither sounds nor fires. -/
theorem stepKeepsTheStop : Obligations.StepKeepsTheStop := fun _ _ hs h => (step_kept h).stopped hs

/-- Settles O59: the book changes by the apply of a buffer found complete, the buffer by its edits. -/
theorem stepKeepsTheBook : Obligations.StepKeepsTheBook := fun _ _ hb h => (step_kept h).book hb

/-- Settles O60: each record is kept by every act that touches it. -/
theorem stepKeepsRecords : Obligations.StepKeepsRecords := fun _ _ h =>
  ⟨(step_kept h).port, (step_kept h).slots, (step_kept h).patches, (step_kept h).md⟩

end Sys2Proof.Machine
end

section
/-! PROOFS. The machine: a step, POWER_UP and the state after reset (O54 to O56). -/

namespace Sys2Proof.Machine

/-- No command stops the block: a request is the taking of its frame, an event the command of its act. -/
theorem exec_runs (i : Instr) (s : State) : ∃ t, exec i s = .next t := by
  cases hr : requestOf i with
  | some r => exact ⟨_, exec_request i s r hr⟩
  | none => cases i <;> exact ⟨_, rfl⟩

/-- Settles O54: `step` splits on the queue, and every command answers a next state. -/
theorem stepRunsTheFrontCommand : Obligations.StepRunsTheFrontCommand := by
  have front : ∀ (c : Instr) (cs : List Instr) (s : State), s.pending = c :: cs →
      step s = exec c { s with pending := cs } := fun c cs s h => by rw [step, h]
  have idle : ∀ s : State, s.pending = [] → step s = .next s := fun s h => by rw [step, h]
  refine ⟨front, idle, fun s => ?_⟩
  cases h : s.pending with
  | nil => exact ⟨s, idle s h⟩
  | cons c cs => rw [front c cs s h]; exact exec_runs c _

/-- R158: Output 1 alone is enabled after a reset. -/
theorem VideoOut.afterReset_outputs (l : Layout) (o : OutputNo) :
    (VideoOut.afterReset l).outputs.get o = OutputRecord.afterReset (decide (o = 0)) l := by
  match o with
  | 0 | 1 | 2 | 3 => rfl

/-- Table 6.4: the level of the stop line. -/
theorem lineLevel_eq (straps : Straps) (closed : Bool) :
    lineLevel straps closed = decide (closed ≠ straps.activeOpen) := by
  cases closed <;> cases h : straps.activeOpen <;> simp [lineLevel, h]

/-- Settles O55: `State.powerUp` field by field; the stations and the outputs by their vectors. -/
theorem powerUpValues : Obligations.PowerUpValues := by
  intro straps closed s
  refine ⟨⟨_, rfl, rfl, rfl, rfl, rfl, rfl, rfl, fun n => State.powerUp_patchOf .., ?_, fun n => ?_, rfl, rfl, rfl, rfl,
    rfl, rfl, fun o => ?_, rfl, rfl, rfl, rfl, rfl, rfl⟩, rfl⟩
  · rw [lineLevel_eq]
    rfl
  · rw [State.powerUp_ch]
    exact ⟨rfl, rfl, rfl, rfl, rfl⟩
  · exact VideoOut.afterReset_outputs _ o

/-- Settles O56: POWER_UP keeps the invariants from any state, and its own value of each is found there. -/
theorem invariantsAtReset : Obligations.InvariantsAtReset := by
  refine ⟨⟨?_, fun n => ?_, fun _ => rfl, fun n e he => ?_, fun n m hn => ?_, ⟨fun n => ?_, nofun⟩,
    ⟨.empty, nofun, .empty, nofun⟩⟩, rfl, rfl⟩
  · exact ⟨Nat.zero_le _, Nat.zero_le _, Nat.zero_le _⟩
  all_goals simp only [State.reset, State.powerUp_ch, State.powerUp_patchOf] at *
  · exact .nil
  · cases he
  · cases hn
  · exact ⟨iff_of_true rfl rfl, fun _ => rfl⟩

end Sys2Proof.Machine
end

section
/-! PROOFS. Which clock advances S, the judgement of the word clock, and the sample an act is taken at (O1, O2, O4). -/

namespace Sys2Proof.Machine

/-- A command answers its act from the quiet state, after which the transmitter takes what waits. -/
theorem command_done {act : State → State} {s t : State} (h : act s.quiet = t) :
    command act s = .next t.done := by rw [command_eq, h]

/-- An act that changes nothing leaves the transmitter alone to act. -/
theorem command_idle {act : State → State} {s : State} (h : act s.quiet = s.quiet) :
    command act s = .next s.quiet.done := command_done h

/-! ## Edges and periods (R3, R5, R6, R11, R12) -/

section
variable {s : State}

theorem actWordClockEdge_word (h : s.time.clockState = .word) :
    actWordClockEdge s = s.mapTime fun t => t.countEdge.advanceS 1 := by
  simp [actWordClockEdge, State.mapTime, Timebase.countEdge, h]

theorem actWordClockEdge_elsewhere (h : s.time.clockState ≠ .word) (hp : s.time.pendingSwitch = none) :
    actWordClockEdge s = s.mapTime Timebase.countEdge := by
  cases hc : s.time.clockState <;> simp_all [actWordClockEdge, State.mapTime, Timebase.countEdge]

theorem actWordClockEdge_switch {c : SwitchCause} (h : s.time.clockState ≠ .word)
    (hp : s.time.pendingSwitch = some c) :
    actWordClockEdge s =
      (s.mapTime fun t =>
        { t.countEdge.advanceS 1 with clockState := .word, pendingSwitch := none }).clockNotice c.clockCause := by
  cases hc : s.time.clockState <;> simp_all [actWordClockEdge, State.mapTime, Timebase.countEdge]

theorem actInternalPeriod_word (h : s.time.clockState = .word) :
    actInternalPeriod s =
      { s with
        time := { s.time with watch := min 4 (s.time.watch + 1), windowPosition := s.time.windowPosition + 1 } } := by
  simp [actInternalPeriod, State.mapTime, addSat, h]

theorem actInternalPeriod_elsewhere (h : s.time.clockState ≠ .word) :
    actInternalPeriod s =
      { s with
        time :=
          { s.time with
            watch := min 4 (s.time.watch + 1), windowPosition := s.time.windowPosition + 1
            S := s.time.S + 1, advance := 1 } } := by
  cases hc : s.time.clockState <;> simp_all [actInternalPeriod, State.mapTime, addSat, Timebase.advanceS]

theorem actClockSelectInternal_internal (h : s.time.clockState = .internal) :
    actClockSelectInternal s =
      clockReply (s.mapTime fun t => { t with clockState := .internal, autoSwitch := false, pendingSwitch := none }) := by
  simp [actClockSelectInternal, h]

theorem actClockSelectInternal_elsewhere (h : s.time.clockState ≠ .internal) :
    actClockSelectInternal s =
      clockReply ((s.mapTime fun t =>
        { t with clockState := .internal, autoSwitch := false, pendingSwitch := none }).clockNotice .host) := by
  simp [actClockSelectInternal, h]

/-- R12: a SELECT_INTERNAL is replied with the record it leaves. -/
theorem exec_clockSelectInternal {t : State} {tag : Nat} (hadm : s.admits tag)
    (hact : actClockSelectInternal s.taken = clockReply t) :
    exec (.clockSelectInternal tag) s = .next (t.replied 0x08 tag (.ok false (.clock (clockRecordOf t.time)))) :=
  exec_request_replied (i := .clockSelectInternal tag) rfl rfl hadm (hact.trans (clockReply_eq t)) nofun

end

/-- Settles O1: the three cases of an edge, the two of a period, and the two of SELECT_INTERNAL. -/
theorem sampleClocks : Obligations.SampleClocks := by
  intro s
  refine ⟨fun h => ?_, fun h hp => ?_, fun c h hp => ?_, fun h => ?_, fun h => ?_, fun tag hadm => ⟨fun h => ?_, fun h => ?_⟩⟩
  · exact command_done (actWordClockEdge_word h)
  · exact command_done (actWordClockEdge_elsewhere h hp)
  · refine (command_done (actWordClockEdge_switch (s := s.quiet) h hp)).trans ?_
    cases c <;> rfl
  · exact command_done (actInternalPeriod_word h)
  · exact command_done (actInternalPeriod_elsewhere h)
  · have act := actClockSelectInternal_internal (s := s.taken) (by simpa using h)
    simpa [State.mapTime] using exec_clockSelectInternal hadm act
  · have act := actClockSelectInternal_elsewhere (s := s.taken) (by simpa using h)
    have run := exec_clockSelectInternal hadm act
    simpa [State.mapTime, State.clockNotice, State.offer, Timebase.rateHz] using run

/-! ## Missing edges (R6, R8, R11) -/

section
variable {s : State}

/-- R6: the Timebase once edges are found absent. -/
def Timebase.absent (t : Timebase) : Timebase := { t with edgesAbsent := true, goodRun := 0, windowSpoiled := true }

theorem Timebase.missingEdgeDue_iff (t : Timebase) :
    t.missingEdgeDue = true ↔ t.watch = 4 ∧ t.edgesAbsent = false := by
  simp [missingEdgeDue]

theorem dropSwitch_none (h : s.time.pendingSwitch = none) : s.dropSwitch = s := by
  simp [State.dropSwitch, h]

theorem dropSwitch_pending (h : s.time.pendingSwitch ≠ none) :
    s.dropSwitch = (s.mapTime fun t => { t with pendingSwitch := none }).clockNotice .dropped := by
  obtain ⟨c, hc⟩ := Option.ne_none_iff_exists'.mp h
  simp [State.dropSwitch, hc]

theorem actMissingEdgeEvent_word (hd : s.time.missingEdgeDue = true) (h : s.time.clockState = .word) :
    actMissingEdgeEvent s =
      ((s.mapTime Timebase.absent).mapTime fun t => t.advanceS 4).failover .missingEdges := by
  simp [actMissingEdgeEvent, hd, State.mapTime, Timebase.absent, h]

theorem actMissingEdgeEvent_elsewhere (hd : s.time.missingEdgeDue = true) (h : s.time.clockState ≠ .word) :
    actMissingEdgeEvent s = (s.mapTime Timebase.absent).dropSwitch := by
  cases hc : s.time.clockState <;> simp_all [actMissingEdgeEvent, State.mapTime, Timebase.absent]

theorem actMissingEdgeEvent_not_due (hd : ¬ s.time.missingEdgeDue = true) : actMissingEdgeEvent s = s := by
  simp [actMissingEdgeEvent, hd]

/-! ## Windows (R5, R7, R8, R11, R13) -/

theorem Timebase.windowGood_iff (t : Timebase) :
    t.windowGood = true ↔ 4752 ≤ t.windowEdges ∧ t.windowEdges ≤ 4848 ∧ t.windowSpoiled = false := by
  simp [windowGood, Config.wcEdgesLow, Config.wcEdgesHigh, and_assoc]

@[simp] theorem Timebase.endWindow_clockState (t : Timebase) : t.endWindow.clockState = t.clockState := by
  cases t; rfl

@[simp] theorem Timebase.endWindow_pendingSwitch (t : Timebase) : t.endWindow.pendingSwitch = t.pendingSwitch := by
  cases t; rfl

theorem Timebase.endWindow_good {t : Timebase} (h : t.windowGood = true) :
    t.endWindow =
      { t with
        goodRun := min 48000 (t.goodRun + 4800), lastWindowEdges := t.windowEdges, windowEdges := 0
        windowSpoiled := false, windowPosition := t.windowPosition - 4800 } := by
  simp [endWindow, h, addSat]

theorem Timebase.endWindow_bad {t : Timebase} (h : ¬ t.windowGood = true) :
    t.endWindow =
      { t with
        goodRun := 0, lastWindowEdges := t.windowEdges, windowEdges := 0
        windowSpoiled := false, windowPosition := t.windowPosition - 4800 } := by
  simp [endWindow, h]

/-- R13: when a good window starts the switch. -/
theorem Timebase.autoSwitchArmed_iff {t : Timebase} (h : t.windowGood = true) :
    t.autoSwitchArmed t.endWindow = true ↔
      t.autoSwitch = true ∧ t.clockState = .internal ∧ t.pendingSwitch = none ∧ t.goodRun ≠ 48000 ∧
        min 48000 (t.goodRun + 4800) = 48000 := by
  rw [endWindow_good h]
  simp only [autoSwitchArmed, wordClockGood, Bool.and_eq_true, decide_eq_true_eq, Option.isNone_iff_eq_none]
  constructor
  · rintro ⟨⟨⟨⟨ha, hc⟩, hp⟩, hr⟩, hn⟩
    exact ⟨ha, hc, hp, hn, hr⟩
  · rintro ⟨ha, hc, hp, hn, hr⟩
    exact ⟨⟨⟨⟨ha, hc⟩, hp⟩, hr⟩, hn⟩

theorem actRateWindowEnd_before (h : s.time.windowPosition < 4800) : actRateWindowEnd s = s := by
  unfold actRateWindowEnd Config.wcWindow
  rw [if_neg (by omega)]

theorem actRateWindowEnd_kept (he : 4800 ≤ s.time.windowPosition) (hg : s.time.windowGood = true)
    (ha : ¬ s.time.autoSwitchArmed s.time.endWindow = true) :
    actRateWindowEnd s = { s with time := s.time.endWindow } := by
  unfold actRateWindowEnd Config.wcWindow State.mapTime
  dsimp only
  rw [if_pos he, if_pos hg, if_neg ha]

theorem actRateWindowEnd_starts (he : 4800 ≤ s.time.windowPosition) (hg : s.time.windowGood = true)
    (ha : s.time.autoSwitchArmed s.time.endWindow = true) :
    actRateWindowEnd s =
      { s with time := { s.time.endWindow with pendingSwitch := some .strap, autoSwitch := false } } := by
  unfold actRateWindowEnd Config.wcWindow State.mapTime
  dsimp only
  rw [if_pos he, if_pos hg, if_pos ha]

theorem actRateWindowEnd_word (he : 4800 ≤ s.time.windowPosition) (hg : ¬ s.time.windowGood = true)
    (h : s.time.clockState = .word) :
    actRateWindowEnd s = State.failover { s with time := s.time.endWindow } .rate := by
  have hc : s.time.endWindow.clockState = .word := by simpa using h
  unfold actRateWindowEnd Config.wcWindow State.mapTime
  dsimp only
  rw [if_pos he, if_neg hg, hc]

theorem actRateWindowEnd_elsewhere (he : 4800 ≤ s.time.windowPosition) (hg : ¬ s.time.windowGood = true)
    (h : s.time.clockState ≠ .word) :
    actRateWindowEnd s = State.dropSwitch { s with time := s.time.endWindow } := by
  have hc : s.time.endWindow.clockState ≠ .word := by simpa using h
  unfold actRateWindowEnd Config.wcWindow State.mapTime
  dsimp only
  rw [if_pos he, if_neg hg]
  split
  next k => exact absurd k hc
  next => rfl
  next => rfl

end

/-- Settles O2: a missing-edge event and a window end by what is due, how it is judged, and the clock state. -/
theorem wordClockJudged : Obligations.WordClockJudged := by
  constructor
  · intro s
    have due := s.time.missingEdgeDue_iff
    refine ⟨fun hd h => ?_, fun hd h hp => ?_, fun hd h hp => ?_, fun hd => ?_⟩
    · exact command_done (actMissingEdgeEvent_word (due.mpr hd) h)
    · have act := actMissingEdgeEvent_elsewhere (s := s.quiet) (due.mpr hd) h
      exact command_done (act.trans (dropSwitch_none hp))
    · have act := actMissingEdgeEvent_elsewhere (s := s.quiet) (due.mpr hd) h
      exact command_done (act.trans (dropSwitch_pending hp))
    · exact command_idle (actMissingEdgeEvent_not_due (mt due.mp hd))
  · intro s
    have good := s.time.windowGood_iff
    refine ⟨fun he => ?_, fun he hg ha => ?_, fun he hg ha => ?_, fun he hg h => ?_, fun he hg h hp => ?_,
      fun he hg h hp => ?_⟩
    · exact command_idle (actRateWindowEnd_before he)
    · have hg := good.mpr hg
      have ended := Timebase.endWindow_good hg
      have act := actRateWindowEnd_kept (s := s.quiet) he hg (mt (Timebase.autoSwitchArmed_iff hg).mp ha)
      rw [s.quiet_time, ended] at act
      exact command_done act
    · have hg := good.mpr hg
      have ended := Timebase.endWindow_good hg
      have act := actRateWindowEnd_starts (s := s.quiet) he hg ((Timebase.autoSwitchArmed_iff hg).mpr ha)
      rw [s.quiet_time, ended] at act
      exact command_done act
    all_goals
      have hg := mt good.mp hg
      have ended := Timebase.endWindow_bad hg
    · have act := actRateWindowEnd_word (s := s.quiet) he hg h
      rw [s.quiet_time, ended] at act
      exact command_done act
    · have act := actRateWindowEnd_elsewhere (s := s.quiet) he hg h
      rw [dropSwitch_none (by simpa using hp), s.quiet_time, ended] at act
      exact command_done act
    · have act := actRateWindowEnd_elsewhere (s := s.quiet) he hg h
      rw [dropSwitch_pending (by simpa using hp), State.mapTime, s.quiet_time, ended] at act
      exact command_done act

/-! ## Samples reached (R2) -/

/-- Settles O4: `takenAt` by whether the last advance passed over the sample. -/
theorem samplesReached : Obligations.SamplesReached := by
  intro s x act hx
  rw [State.whenReached_due s x act hx]
  refine ⟨fun h => ?_, fun h => ?_, fun h => ?_⟩
  · rw [State.reach, State.takenAt, if_pos ⟨h, hx⟩]
  · rw [State.reach, State.takenAt, if_neg (fun k => Nat.not_lt.mpr h k.1)]
  · exact State.reach_eq s x act (s.takenAt_eq_S x h)

end Sys2Proof.Machine
end

section
/-! PROOFS. Beat periods, ramps and taps (O5, O7, O8). -/

namespace Sys2Proof.Machine

/-! ## Beat periods (R15, R16, R28) -/

/-- R15: P(T) is the quotient with its remainder dropped. -/
theorem mul_beatPeriod_le (T : Nat) : T * beatPeriod T ≤ 60 * 48000 * 65536 * 100 := Nat.mul_div_le _ T

theorem lt_mul_beatPeriod_succ {T : Nat} (h : 0 < T) : 60 * 48000 * 65536 * 100 < T * (beatPeriod T + 1) :=
  Nat.lt_mul_div_succ _ h

/-- R15: no beat of the tempo range is longer than 144,000 samples. -/
theorem beatPeriod_le {T : Nat} (hlow : 2000 ≤ T) : beatPeriod T ≤ 144000 * 65536 :=
  Nat.div_le_of_le_mul (by simp only [Config.periodConstant]; omega)

/-- R15: a period of the range exceeds every tempo of it, so one more in the tempo shortens it. -/
theorem beatPeriod_strictAnti {T T' : Nat} (hlow : 2000 ≤ T) (hlt : T < T') (hhigh : T' ≤ 40000) :
    beatPeriod T' < beatPeriod T := by
  have hlong : 7200 * 65536 ≤ beatPeriod T' := le_beatPeriod (by omega) hhigh
  have hwhole : T' * beatPeriod T' ≤ Config.periodConstant := mul_beatPeriod_le T'
  have hstep : (T + 1) * beatPeriod T' ≤ T' * beatPeriod T' := Nat.mul_le_mul_right _ hlt
  have hexpand : (T + 1) * beatPeriod T' = T * beatPeriod T' + beatPeriod T' := Nat.succ_mul _ _
  have hgoal : (beatPeriod T' + 1) * T = T * beatPeriod T' + T := by rw [Nat.succ_mul, Nat.mul_comm]
  exact (Nat.le_div_iff_mul_le (by omega)).mpr (hgoal ▸ by omega)

@[simp] theorem Context.leave_acc (c : Context) : c.leave.acc = c.acc := by
  unfold Context.leave
  repeat' split
  all_goals rfl

@[simp] theorem Context.advanceIn_acc (c : Context) (g : Segment) (rel : Bool) :
    (c.advanceIn g rel).1.acc = c.acc := by
  unfold Context.advanceIn
  dsimp only
  cases g.kind <;> dsimp only <;> repeat' split
  all_goals simp

/-- R28: wherever the position moves, the accumulator gains the beat's period. -/
theorem Context.advance_acc (c : Context) (rel : Bool) :
    (c.advance rel).1.acc = c.acc + beatPeriod c.beatTempo := by
  unfold Context.advance
  repeat' split
  all_goals simp

/-- R16: beats a period apart have onsets the whole samples of it apart, or one more. -/
theorem onsetOf_add_gap (acc p : Nat) :
    onsetOf (acc + p) - onsetOf acc = p / 65536 ∨ onsetOf (acc + p) - onsetOf acc = p / 65536 + 1 := by
  show (acc + p) / 65536 - acc / 65536 = p / 65536 ∨ (acc + p) / 65536 - acc / 65536 = p / 65536 + 1
  omega

/-- Settles O5: the bounds of P over the tempo range, and onsets as floors of the accumulator. -/
theorem beatPeriods : Obligations.BeatPeriods := by
  refine ⟨⟨rfl, rfl, fun T T' hlow hlt hhigh => ?_⟩, Context.advance_acc, fun s0 n T => ?_, fun acc T hlow hhigh => ?_⟩
  · exact ⟨mul_beatPeriod_le T, lt_mul_beatPeriod_succ (by omega), beatPeriod_strictAnti hlow hlt hhigh⟩
  · show (s0 * 65536 + n * beatPeriod T) / 65536 = s0 + n * beatPeriod T / 65536
    omega
  · have hshort := le_beatPeriod hlow hhigh
    have hlong := beatPeriod_le hlow
    have hgap := onsetOf_add_gap acc (beatPeriod T)
    have hfar := onsetOf_add_le (a := acc) (b := acc + beatPeriod T) (k := 7200) (by omega)
    have hnear : onsetOf (acc + beatPeriod T) ≤ onsetOf acc + 144000 := by
      show (acc + beatPeriod T) / 65536 ≤ acc / 65536 + 144000
      omega
    simp only [Sample] at *
    exact ⟨hgap, by omega, by omega⟩

/-! ## Ramps (R18) -/

/-- R18: a share of a difference that is not the whole of it, truncated, falls short of the difference. -/
theorem tdiv_share_nonneg {d : Int} {i N : Nat} (hd : 0 ≤ d) (h : i < N) :
    0 ≤ (d * i).tdiv N ∧ (d * i).tdiv N ≤ d ∧ (0 < d → (d * i).tdiv N < d) := by
  obtain ⟨e, rfl⟩ := Int.eq_ofNat_of_zero_le hd
  have hle : e * i / N ≤ e := Nat.div_le_of_le_mul (by rw [Nat.mul_comm N]; exact Nat.mul_le_mul_left e h.le)
  have hlt : 0 < e → e * i / N < e := fun he =>
    Nat.div_lt_of_lt_mul (by rw [Nat.mul_comm N]; exact Nat.mul_lt_mul_of_pos_left h he)
  have whole : ((e : Int) * i).tdiv N = ((e * i / N : Nat) : Int) := by rw [← Int.natCast_mul, ← Int.ofNat_tdiv]
  rw [whole]
  generalize e * i / N = q at hle hlt
  omega

/-- R18: truncation toward zero makes a fall the mirror of a rise. -/
theorem tdiv_share_nonpos {d : Int} {i N : Nat} (hd : d ≤ 0) (h : i < N) :
    d ≤ (d * i).tdiv N ∧ (d * i).tdiv N ≤ 0 ∧ (d < 0 → d < (d * i).tdiv N) := by
  have mirror : (d * i).tdiv N = -((-d * i).tdiv N) := by rw [← Int.neg_tdiv, neg_mul, neg_neg]
  have rise := tdiv_share_nonneg (d := -d) (by omega) h
  omega

/-- Settles O7: the share is taken on the side of the target, as a rise or as its mirror. -/
theorem rampTempos : Obligations.RampTempos := by
  intro Ts Te N i h
  have value : (rampTempo Ts (some Te) N i : Int) = max 0 (Ts + (((Te : Int) - Ts) * i).tdiv N) := by
    rw [rampTempo, Int.ofNat_toNat, max_comm]
  rcases le_total (Ts : Int) Te with hd | hd
  · have share := tdiv_share_nonneg (d := (Te : Int) - Ts) (by omega) h
    exact ⟨rfl, by omega, by omega, by omega, by omega⟩
  · have share := tdiv_share_nonpos (d := (Te : Int) - Ts) (by omega) h
    exact ⟨rfl, by omega, by omega, by omega, by omega⟩

/-! ## Taps (R19, R20) -/

/-- R19: a tap against a list with a last stamp. -/
theorem storeTap_concat (taps : List Nat) (last t : Nat) :
    storeTap (taps ++ [last]) t =
      if last + 144000 < t then .stored [t]
      else if t < last + 7200 then .bounce
      else if taps.length < 4 then .stored (taps ++ [last, t])
      else .stored ((taps ++ [last]).tail ++ [t]) := by
  unfold storeTap
  simp only [List.getLast?_append, List.getLast?_singleton, Option.some_or]
  refine if_congr Iff.rfl rfl (if_congr ?_ rfl (if_congr ?_ (by simp) (by simp)))
  · show t ≤ last ∨ t - last < 7200 ↔ t < last + 7200
    omega
  · simp [Config.tapListSize]
    omega

/-- R19: a stamp in range after the last keeps the list ordered. -/
theorem TapsOrdered.concat {taps : List Nat} {last t : Nat} (h : TapsOrdered (taps ++ [last])) (hlow : last + 7200 ≤ t)
    (hhigh : t ≤ last + 144000) (hlen : taps.length < 4) : TapsOrdered (taps ++ [last, t]) := by
  refine ⟨by simp; omega, ?_⟩
  rw [← List.singleton_append, ← List.append_assoc]
  exact h.2.append (.singleton t) (by simp; omega)

theorem TapsOrdered.tail {taps : List Nat} (h : TapsOrdered taps) : TapsOrdered taps.tail :=
  ⟨by simp; have := h.1; omega, h.2.tail⟩

theorem TapsOrdered.singleton (t : Nat) : TapsOrdered [t] := ⟨by simp, .singleton t⟩

/-- R19: a stored tap leaves an ordered list. -/
theorem TapsOrdered.store {taps after : List Nat} {t : Nat} (h : TapsOrdered taps)
    (hs : storeTap taps t = .stored after) : TapsOrdered after := by
  rcases taps.eq_nil_or_concat' with rfl | ⟨taps, last, rfl⟩
  · cases hs
    exact .singleton t
  · rw [storeTap_concat] at hs
    split at hs
    · cases hs
      exact .singleton t
    · split at hs
      · cases hs
      · split at hs
        next hlen =>
          cases hs
          exact h.concat (by omega) (by omega) hlen
        next hlen =>
          cases hs
          obtain ⟨x, xs, rfl⟩ : ∃ x xs, taps = x :: xs := List.exists_cons_of_ne_nil (by rintro rfl; simp at hlen)
          have full := h.1
          simp only [List.cons_append, List.length_cons, List.length_append, List.length_nil] at full
          have rest : TapsOrdered (xs ++ [last]) := h.tail
          simpa using rest.concat (t := t) (by omega) (by omega) (by omega)

/-- R20: the last stamp lies between the least and the greatest intervals after the first. -/
theorem TapsOrdered.span {taps : List Nat} (h : TapsOrdered taps) (hne : taps ≠ []) :
    taps.headD 0 + 7200 * (taps.length - 1) ≤ taps.getLastD 0 ∧
      taps.getLastD 0 ≤ taps.headD 0 + 144000 * (taps.length - 1) := by
  obtain ⟨-, h⟩ := h
  induction taps with
  | nil => exact absurd rfl hne
  | cons x xs ih =>
    cases xs with
    | nil => simp
    | cons y ys =>
      obtain ⟨⟨hlow, hhigh⟩, hys⟩ := List.isChain_cons_cons.mp h
      have step := ih (by simp) hys
      have last : (x :: y :: ys).getLastD 0 = (y :: ys).getLastD 0 := rfl
      rw [last]
      simp only [List.headD_cons, List.length_cons, Nat.add_sub_cancel] at step ⊢
      omega

/-- Settles O8: a tap by its distance from the last stamp; a mean interval by the span of the list. -/
theorem tapListsAndTempos : Obligations.TapListsAndTempos := by
  refine ⟨fun taps t last => ⟨rfl, fun h => ?_, fun h => ?_, fun hlow hhigh hlen => ?_, fun hlow hhigh hlen => ?_,
    fun after h hs => h.store hs⟩, fun taps h hlen => ?_⟩
  · rw [storeTap_concat, if_pos h]
  · rw [storeTap_concat, if_neg (by omega), if_pos h]
  · rw [storeTap_concat, if_neg (by omega), if_neg (by omega), if_pos hlen]
  · rw [storeTap_concat, if_neg (by omega), if_neg (by omega), if_neg (by omega),
      List.tail_append_of_ne_nil (by rintro rfl; simp at hlen)]
    simp
  · have hne : taps ≠ [] := by rintro rfl; simp at hlen
    obtain ⟨hfar, hnear⟩ := h.span hne
    dsimp only
    set i := (taps.getLastD 0 - taps.headD 0) / (taps.length - 1) with hi
    have hlow : 7200 ≤ i := (Nat.le_div_iff_mul_le (by omega)).mpr (by omega)
    have hhigh : i ≤ 144000 := Nat.div_le_of_le_mul (by rw [Nat.mul_comm]; omega)
    have tlow : 2000 ≤ (288000000 + i / 2) / i := (Nat.le_div_iff_mul_le (by omega)).mpr (by omega)
    have thigh : (288000000 + i / 2) / i ≤ 40000 := Nat.lt_succ_iff.mp (Nat.div_lt_of_lt_mul (by omega))
    refine ⟨rfl, hlow, hhigh, tlow, thigh, ?_⟩
    show min 40000 (max 2000 ((288000000 + i / 2) / i)) = _
    rw [max_eq_right tlow, min_eq_right thigh]

end Sys2Proof.Machine
end

section
/-! PROOFS. The record of the next beat, where the position moves after it, and change points (O9, O11). -/

namespace Sys2Proof.Machine

/-! ## The record (R27, R29, R32) -/

theorem Context.beatTempo_main {c : Context} {g : Segment} (h : c.segment = some g) (hk : c.countIn = none) :
    c.beatTempo = g.tempoAt c.beatIndex c.tempo := by
  simp [beatTempo, hk, h]

theorem Context.beatTempo_countIn {c : Context} {k : CountIn} (hk : c.countIn = some k) : c.beatTempo = k.tempo := by
  simp [beatTempo, hk]

theorem Context.record_main {c : Context} {g : Segment} (h : c.segment = some g) (hk : c.countIn = none) :
    c.record g =
      { onset := c.acc / 65536
        bar := c.bar
        beatInBar := c.beatInBar
        level := if c.beatInBar = 1 then .down else if c.beatInBar ∈ g.accents then .accent else .beat
        tempo := g.tempoAt c.beatIndex c.tempo
        pass := if g.kind = .vamp then some c.pass else none
        countdown := none
        subs := subdivisionsOf c.acc (beatPeriod (g.tempoAt c.beatIndex c.tempo)) } := by
  simp [record, beatLevel, hk, c.beatTempo_main h hk, nextOnset, onsetOf]

theorem Context.record_countIn {c : Context} {k : CountIn} (g : Segment) (hk : c.countIn = some k) :
    c.record g =
      { onset := c.acc / 65536
        bar := -(k.bar : Int)
        beatInBar := k.beat
        level := if k.beat = 1 then .down else .beat
        tempo := k.tempo
        pass := none
        countdown := some ((k.bar - 1) * g.beatsPerBar + (g.beatsPerBar - k.beat + 1))
        subs := subdivisionsOf c.acc (beatPeriod k.tempo) } := by
  simp [record, beatLevel, hk, c.beatTempo_countIn hk, nextOnset, onsetOf, CountIn.countdown]

/-! ## The move (R23, R24, R28, R38) -/

/-- R28: the position one beat on within the segment. -/
def Context.stepped (c : Context) (g : Segment) : Context :=
  { c with
    beatIndex := c.beatIndex + 1
    beatInBar := if g.beatsPerBar ≤ c.beatInBar then 1 else c.beatInBar + 1
    bar := if g.beatsPerBar ≤ c.beatInBar then min 9999 (c.bar + 1) else c.bar }

/-- R28: the beat of a position is the last of its segment, or of a pass of it. -/
def Context.atLast (c : Context) (g : Segment) : Bool :=
  g.bars.any fun n => decide (n * g.beatsPerBar ≤ c.beatIndex + 1)

/-- R38: the beat ends a bar of a VAMP that exits at any bar end. -/
def Context.exits (c : Context) (g : Segment) : Bool :=
  decide (g.beatsPerBar ≤ c.beatInBar) && decide (g.vampExit = some .atBarEnd)

section
variable {c : Context} {g : Segment} {rel : Bool}

theorem Context.atLast_iff : c.atLast g = true ↔ ∃ n, g.bars = some n ∧ n * g.beatsPerBar ≤ c.beatIndex + 1 := by
  unfold atLast
  cases g.bars <;> simp

theorem Context.exits_iff : c.exits g = true ↔ g.vampExit = some .atBarEnd ∧ g.beatsPerBar ≤ c.beatInBar := by
  simp [exits, and_comm]

/-- R28, R38: the position steps on, and leaves or repeats its segment at the last beat as its kind says. -/
theorem Context.advanceIn_eq :
    c.advanceIn g rel =
      match g.kind with
      | .metered | .tap => if c.atLast g then ((c.stepped g).leave, false) else (c.stepped g, false)
      | .free => (c.stepped g, false)
      | .vamp =>
        if (c.atLast g || c.exits g) && rel then ((c.stepped g).leave, true)
        else if c.atLast g then
          ({ c.stepped g with
              beatIndex := 0, bar := firstBar c.segments c.segmentIndex, pass := min 9999 (c.pass + 1) }, false)
        else (c.stepped g, false) := by
  unfold advanceIn stepped atLast exits
  cases hb : g.bars <;> cases g.kind <;> simp [Segment.beats, hb, addSat]

/-- R23, R28: a position that leaves its segment. -/
theorem Context.leave_eq :
    c.leave =
      match c.segments[c.segmentIndex + 1]? with
      | none => { c with segmentIndex := c.segments.length, beatIndex := 0, pass := 1 }
      | some h =>
        if h.kind = .metered ∨ h.kind = .vamp then
          { c with
            segmentIndex := c.segmentIndex + 1, beatIndex := 0, beatInBar := 1, pass := 1
            bar := min 9999 (staticBefore c.segments (c.segmentIndex + 1) + 1)
            tempo := h.startTempo, tapPlaced := false, moveDue := false }
        else { c with moveDue := true } := by
  unfold leave
  cases hn : c.segments[c.segmentIndex + 1]? with
  | none => rfl
  | some h => cases hk : h.kind <;> simp [Segment.isStatic, hk, enter, hn, firstBar]

theorem Context.advance_countIn {k : CountIn} (h : c.segment = some g) (hk : c.countIn = some k) :
    c.advance rel =
      ({ c with acc := c.acc + beatPeriod k.tempo, tempo := k.tempo, countIn := k.next g.beatsPerBar }, false) := by
  simp [advance, h, hk, c.beatTempo_countIn hk]

theorem Context.advance_main (h : c.segment = some g) (hk : c.countIn = none) :
    c.advance rel =
      Context.advanceIn
        { c with
          acc := c.acc + beatPeriod (g.tempoAt c.beatIndex c.tempo), tempo := g.tempoAt c.beatIndex c.tempo }
        g rel := by
  simp [advance, h, hk, c.beatTempo_main h hk]

end

/-- Settles O9: the record by the count-in; the move by `advanceIn_eq` and, where it leaves, `leave_eq`. -/
theorem beatRecordsAndMoves : Obligations.BeatRecordsAndMoves := by
  refine ⟨fun c g h => ⟨fun hk => c.record_main h hk, fun k hk => c.record_countIn g hk⟩, fun c g rel h => ⟨fun k hk => ?_, fun hk => ?_⟩⟩
  · rw [Context.advance_countIn h hk, CountIn.next]
    by_cases hr : k.remaining ≤ 1
    · simp only [hr, if_true]
    · by_cases hb : k.beat < g.beatsPerBar
      · simp only [hr, if_false, hb, if_true, if_neg (Nat.not_le.mpr hb)]
      · simp only [hr, if_false, hb, if_pos (Nat.not_lt.mp hb)]
  · rw [Context.advance_main h hk]
    dsimp only
    generalize hc' : ({ c with
      acc := c.acc + beatPeriod (g.tempoAt c.beatIndex c.tempo), tempo := g.tempoAt c.beatIndex c.tempo } : Context) = c'
    have last : (∃ n, g.bars = some n ∧ n * g.beatsPerBar ≤ c.beatIndex + 1) ↔ c'.atLast g = true := by
      rw [Context.atLast_iff, ← hc']
    have exits : (g.vampExit = some .atBarEnd ∧ g.beatsPerBar ≤ c.beatInBar) ↔ c'.exits g = true := by
      rw [Context.exits_iff, ← hc']
    rw [last, exits, Context.advanceIn_eq, Context.leave_eq]
    subst hc'
    refine ⟨fun hg hl => ?_, fun hg hl => ?_, fun hg => ?_, fun hg hr hl => ?_, fun hg hr hl he => ?_, fun hg hr hl => ?_,
      fun hg hr hl => ?_⟩
    · rcases hg with hg | hg <;> simp only [hg, hl, if_true] <;> rfl
    · rcases hg with hg | hg <;> simp [hg, hl, Context.stepped]
    · simp [hg, Context.stepped]
    · have left := Bool.or_eq_true_iff.mpr hl
      simp only [hg, hr, left, Bool.and_self, if_true]
      rfl
    · simp [hg, hr, hl, he, Context.stepped]
    · simp [hg, hr, hl, Context.stepped]
    · simp [hg, hr, hl, Context.stepped, firstBar]

end Sys2Proof.Machine
end

section
/-! PROOFS. The change point of a cue by its kind (O11). -/

namespace Sys2Proof.Machine

/-- R33: the walk ends at a position that stops it. -/
theorem walk_of_stop {stop : Context → Bool} {c : Context} (h : (c.moveDue || c.pastLast || stop c) = true) (n : Nat)
    (rel : Bool) : walk stop none n c rel = c.nextOnset := by
  cases n <;> simp [walk, h]

/-- R33: the walk goes on from a position that does not stop it. -/
theorem walk_of_go {stop : Context → Bool} {c : Context} (h : (c.moveDue || c.pastLast || stop c) = false) (n : Nat)
    (rel : Bool) :
    walk stop none (n + 1) c rel = walk stop none n (c.advance rel).1 (rel && !(c.advance rel).2) := by
  simp only [walk, Option.filter_none, h, Bool.false_eq_true, if_false]

/-- The position is a main beat of bar and beat in step, in the METERED segment `g` of `n` bars at a steady tempo. -/
structure Context.Steady (c : Context) (g : Segment) (n : Nat) : Prop where
  segment : c.segment = some g
  metered : g.kind = .metered
  steady : g.target = none
  bars : g.bars = some n
  main : c.countIn = none
  here : c.moveDue = false
  beats : 1 ≤ g.beatsPerBar
  step : c.beatIndex % g.beatsPerBar + 1 = c.beatInBar
  inside : c.beatIndex < n * g.beatsPerBar

/-- The beats from a position to the next beat 1. -/
def Context.toDownbeat (c : Context) (g : Segment) : Nat :=
  if c.beatInBar = 1 then 0 else g.beatsPerBar + 1 - c.beatInBar

namespace Context.Steady

variable {c : Context} {g : Segment} {n : Nat} {rel : Bool}

theorem beatInBar_le (h : c.Steady g n) : c.beatInBar ≤ g.beatsPerBar := by
  have := Nat.mod_lt c.beatIndex (show 0 < g.beatsPerBar from h.beats)
  have := h.step
  omega

theorem tempo (h : c.Steady g n) : g.tempoAt c.beatIndex c.tempo = g.startTempo := by
  simp [Segment.tempoAt, h.metered, h.steady, rampTempo]

theorem pastLast (h : c.Steady g n) : c.pastLast = false := by
  have := List.getElem?_eq_some_iff.mp h.segment
  simp [Context.pastLast, this.1]

/-- The last beat of the segment ends its bar. -/
theorem atLast_bar (h : c.Steady g n) (hl : c.atLast g = true) : c.beatInBar = g.beatsPerBar := by
  obtain ⟨m, hm, hle⟩ := Context.atLast_iff.mp hl
  obtain rfl : n = m := Option.some.inj (h.bars.symm.trans hm)
  have hend : c.beatIndex + 1 = n * g.beatsPerBar := by have := h.inside; omega
  have hmod : (c.beatIndex + 1) % g.beatsPerBar = 0 := hend ▸ Nat.mul_mod_left n _
  have hdvd := Nat.dvd_of_mod_eq_zero hmod
  have hstep := h.step
  have hle := h.beatInBar_le
  rw [Nat.add_mod] at hmod
  by_contra hne
  have hone : 1 % g.beatsPerBar = 1 := Nat.mod_eq_of_lt (by omega)
  rw [hone, hstep, Nat.mod_eq_of_lt (by omega)] at hmod
  omega

/-- Among main beats, the walk stops at every beat 1 and nowhere else. -/
def StopsAtOne (stop : Context → Bool) : Prop := ∀ c : Context, c.countIn = none → stop c = decide (c.beatInBar = 1)

theorem atDownbeat_stopsAtOne : StopsAtOne Context.atDownbeat := fun c hk => by simp [Context.atDownbeat, hk]

theorem atMainDownbeat_stopsAtOne : StopsAtOne Context.atMainDownbeat := fun c hk => by
  simp [Context.atMainDownbeat, hk]

/-- A position that leaves a METERED segment stops the walk. -/
theorem leave_stops {stop : Context → Bool} (hs : StopsAtOne stop) {c : Context} (hk : c.countIn = none) :
    (c.leave.moveDue || c.leave.pastLast || stop c.leave) = true := by
  have main : c.leave.countIn = none := by
    rw [Context.leave_eq]
    split
    · exact hk
    · split <;> exact hk
  rw [hs c.leave main, Context.leave_eq]
  split
  · simp [Context.pastLast]
  · split <;> simp

/-- One beat on, within the segment. -/
theorem stepped (h : c.Steady g n) (hl : ¬ c.atLast g = true) (a t : Nat) :
    Context.Steady { c.stepped g with acc := a, tempo := t } g n where
  segment := h.segment
  metered := h.metered
  steady := h.steady
  bars := h.bars
  main := h.main
  here := h.here
  beats := h.beats
  step := by
    show (c.beatIndex + 1) % g.beatsPerBar + 1 = if g.beatsPerBar ≤ c.beatInBar then 1 else c.beatInBar + 1
    have hstep := h.step
    have hle := h.beatInBar_le
    have hdiv : c.beatIndex + 1 = g.beatsPerBar * (c.beatIndex / g.beatsPerBar) + c.beatInBar := by
      have := Nat.div_add_mod c.beatIndex g.beatsPerBar
      omega
    rw [hdiv, Nat.mul_add_mod]
    split
    next k => rw [show c.beatInBar = g.beatsPerBar by omega, Nat.mod_self]
    next k => rw [Nat.mod_eq_of_lt (by omega)]
  inside := by
    have := mt Context.atLast_iff.mpr hl
    simp only [h.bars, Option.some.injEq, exists_eq_left'] at this
    exact Nat.not_le.mp this

/-- R33: the walk of NEXT_BAR takes as many beat periods as there are beats to the next beat 1. -/
theorem walk_eq {stop : Context → Bool} (hs : StopsAtOne stop) (h : c.Steady g n) (fuel : Nat)
    (hfuel : c.toDownbeat g ≤ fuel) :
    walk stop none fuel c rel =
      (c.acc + c.toDownbeat g * beatPeriod g.startTempo) / 65536 := by
  induction fuel generalizing c rel with
  | zero =>
    rw [Nat.le_zero.mp hfuel, Nat.zero_mul]
    rfl
  | succ fuel ih =>
    by_cases hdown : c.beatInBar = 1
    · rw [walk_of_stop (by simp [hs c h.main, hdown]), Context.toDownbeat, if_pos hdown, Nat.zero_mul]
      rfl
    · have hgo : (c.moveDue || c.pastLast || stop c) = false := by
        simp [h.here, h.pastLast, hs c h.main, hdown]
      have hadv := Context.advance_main (rel := rel) h.segment h.main
      have hle := h.beatInBar_le
      rw [h.tempo, Context.advanceIn_eq, h.metered] at hadv
      rw [walk_of_go hgo, hadv]
      dsimp only
      by_cases hl : c.atLast g = true
      · have hone : c.toDownbeat g = 1 := by rw [Context.toDownbeat, if_neg hdown, h.atLast_bar hl]; omega
        have hl' : Context.atLast { c with acc := c.acc + beatPeriod g.startTempo, tempo := g.startTempo } g = true := hl
        rw [if_pos hl']
        have hstop := leave_stops hs (c := Context.stepped
          { c with acc := c.acc + beatPeriod g.startTempo, tempo := g.startTempo } g) h.main
        rw [walk_of_stop hstop, hone, Nat.one_mul, Context.nextOnset,
          Context.leave_acc]
        rfl
      · have hl' : ¬ Context.atLast { c with acc := c.acc + beatPeriod g.startTempo, tempo := g.startTempo } g = true := hl
        rw [if_neg hl']
        have next := h.stepped hl (c.acc + beatPeriod g.startTempo) g.startTempo
        have hto : Context.toDownbeat { c.stepped g with acc := c.acc + beatPeriod g.startTempo, tempo := g.startTempo } g
            + 1 = c.toDownbeat g := by
          have hpos : 0 < c.beatInBar := by have := h.step; omega
          simp only [Context.toDownbeat, Context.stepped, if_neg hdown]
          split
          · rw [if_pos rfl]; omega
          · rw [if_neg (by omega)]; omega
        refine (ih next (by omega)).trans ?_
        rw [← hto, Nat.succ_mul]
        congr 1
        dsimp only
        omega

end Context.Steady

theorem ClickEngine.changePoint_producing {e : ClickEngine} {c : Context} (h : Sample) (hc : e.context = some c)
    (hp : e.state.produces = true) (k : ChangeKind) :
    e.changePoint h k =
      match k with
      | .immediate => h
      | .nextBeat => walk (fun _ => true) e.holdPoint walkLimit c e.release
      | .nextBar => walk Context.atDownbeat e.holdPoint walkLimit c e.release := by
  unfold changePoint
  rw [hc]
  dsimp only
  rw [if_pos hp] <;> cases k <;> rfl

theorem ClickEngine.changePoint_idle {e : ClickEngine} (h : Sample) (hp : e.state.produces = false) (k : ChangeKind) :
    e.changePoint h k = h := by
  unfold changePoint
  split
  · rfl
  · rw [if_neg (by simp [hp])]

/-- Settles O11: NEXT_BEAT stops the walk at once, NEXT_BAR after the beats to the next beat 1. -/
theorem changePoints : Obligations.ChangePoints := by
  intro e h
  refine ⟨fun k hp => e.changePoint_idle h hp k, ?_, fun c hc hp hh => ?_,
    fun c g n hc hp hh hg hk ht hb hm hd hbeats h15 hstep hin => ?_⟩
  · unfold ClickEngine.changePoint
    split
    · rfl
    · split <;> rfl
  · rw [ClickEngine.changePoint_producing h hc hp, hh]
    exact walk_of_stop (by simp) _ _
  · have steady : c.Steady g n := ⟨hg, hk, ht, hb, hm, hd, hbeats, hstep, hin⟩
    rw [ClickEngine.changePoint_producing h hc hp, hh]
    refine (steady.walk_eq Context.Steady.atDownbeat_stopsAtOne walkLimit ?_).trans rfl
    unfold Context.toDownbeat walkLimit
    split <;> omega

end Sys2Proof.Machine
end

section
/-! PROOFS. BEAT_PRODUCTION: a beat no standby waits for (O10). -/

namespace Sys2Proof.Machine

/-! ## Reports (R73) -/

theorem settleN_nil {s : State} (h : s.reports = []) (n : Nat) : settleN n s = s := by
  cases n with
  | zero => rw [settleN, ← h]
  | succ n => rw [settleN, h]

theorem settleN_cons {s : State} {r : Report} {rs : List Report} (h : s.reports = r :: rs) (n : Nat) :
    settleN (n + 1) s = settleN n ({ s with reports := rs }.takeReport r) := by
  rw [settleN, h]

/-- R73: a report handed alone, whose taking hands no other. -/
theorem settle_one {s t : State} {r : Report} (h : s.reports = [r])
    (ht : State.takeReport { s with reports := [] } r = t) (hnone : t.reports = []) : settle s = t := by
  rw [settle, settleLimit, settleN_cons h, ht, settleN_nil hnone]

/-! ## Samples reached (R2) -/

/-- R2: an act that keeps the Timebase leaves it as it was, wherever it was taken. -/
theorem State.atS_time_back {s t : State} {y : Sample} (h : t.time = (s.atS y).time) :
    (t.atS s.time.S).time = s.time := by
  simp [State.atS, h]

/-- R2: a command whose sample has been reached. -/
theorem command_reached {v : State → Option Sample} {act : State → State} {s : State} {x : Sample}
    (hv : v s.quiet = some x) (hx : x ≤ s.time.S) :
    command (fun s => s.whenReached (v s) act) s =
      .next ((act (s.quiet.atS (s.takenAt x))).atS s.time.S).done := by
  refine command_done ?_
  show s.quiet.whenReached (v s.quiet) act = _
  rw [hv]
  exact State.whenReached_due s.quiet x act hx

/-! ## A station and a beat record (R30, R31, R89, R139) -/

theorem handClicks_ch (b : BeatRecord) (n : Station) (s : State) :
    (State.handClicks b n s).ch n = (s.ch n).clicked b := by
  have admits : admitsClick b (s.ch n) = true ↔ (s.ch n).assigned.click.enabled = true ∧ (s.ch n).link.state = .up ∧
      ((s.ch n).assigned.click.countInOnly = true → b.countdown ≠ none) := by
    simp [admitsClick, Channel.isUp, and_assoc, ← Option.isSome_iff_ne_none, or_iff_not_imp_left]
  unfold State.handClicks Channel.clicked
  by_cases h : admitsClick b (s.ch n) = true
  · rw [if_pos h, if_pos (admits.mp h)]
    simp [State.mapLink, clickEvents, Channel.subdivision]
  · rw [if_neg h, if_neg (mt admits.mpr h)]

theorem runLamps_ch (b : BeatRecord) (n : Station) (s : State) : (State.runLamps b n s).ch n = (s.ch n).ran b := by
  unfold State.runLamps Channel.ran
  by_cases h : (s.ch n).link.state = .up <;> simp [Channel.isUp, h, State.mapLink]

theorem PatchRecord.counted_waiting {p : PatchRecord} {patch : Patch} {cp im x : Sample} {k : Nat}
    {dl : Option Sample} (h : p.entry = some ⟨patch, cp, .waitingRelease k im dl⟩) :
    p.counted x =
      if cp < x then
        { p with
          entry := some ⟨patch, cp, .waitingRelease (k - 1) (x + 24000)
            (if k = 0 then dl else if k = 1 then some x else none)⟩ }
      else p := by
  simp only [counted, h]

theorem PatchRecord.counted_of_not_waiting {p : PatchRecord} {x : Sample}
    (h : ∀ patch cp k im dl, p.entry ≠ some ⟨patch, cp, .waitingRelease k im dl⟩) : p.counted x = p := by
  unfold counted
  split
  next patch cp k im dl e => exact absurd e (h patch cp k im dl)
  next => rfl

theorem countBeat_patchOf (x : Sample) (n : Station) (s : State) :
    (State.countBeat x n s).patchOf n = (s.patchOf n).counted x := by
  unfold State.countBeat
  dsimp only
  split
  next patch cp k im dl h =>
    rw [PatchRecord.counted_waiting h]
    by_cases hx : cp < x
    · rw [if_pos hx, if_pos hx, State.patchOf_setPatch_self]
      rcases k with _ | _ | k <;> simp [countedBeat, Config.idleBeat]
    · rw [if_neg hx, if_neg hx]
  next h => exact (PatchRecord.counted_of_not_waiting fun patch cp k im dl e => h patch cp k im dl e).symm

theorem handClicks_patchOf (b : BeatRecord) (n m : Station) (s : State) :
    (State.handClicks b n s).patchOf m = s.patchOf m := by
  unfold State.handClicks
  split <;> rfl

theorem runLamps_patchOf (b : BeatRecord) (n m : Station) (s : State) :
    (State.runLamps b n s).patchOf m = s.patchOf m := by
  unfold State.runLamps
  split <;> rfl

/-- R89: each patch record after a beat record has been handed on. -/
theorem State.handBeat_patchOf (s : State) (b : BeatRecord) (mute : Bool) (n : Station) :
    (s.handBeat b mute).patchOf n = (s.patchOf n).counted b.onset := by
  unfold State.handBeat
  rw [forAll_patchOf (fun _ => .countBeat b.onset), countBeat_patchOf, forAll_patchOf (fun _ => .runLamps b),
    runLamps_patchOf]
  cases mute
  · rw [if_neg (by decide), forAll_patchOf (fun _ => .handClicks b), handClicks_patchOf]
  · rw [if_pos rfl]

/-- R30, R35, R139: each channel after a beat record has been handed on. -/
theorem State.handBeat_channel (s : State) (b : BeatRecord) (mute : Bool) (n : Station) :
    (s.handBeat b mute).ch n = if mute = true then (s.ch n).ran b else ((s.ch n).clicked b).ran b := by
  rw [State.handBeat_ch, runLamps_ch]
  split
  · rfl
  · rw [handClicks_ch]

/-! ## The beat (R26) -/

/-- R26 steps 1 to 5: a beat produced, before its report. -/
def State.beaten (s : State) (c : Context) (g : Segment) : State :=
  (s.mapClick fun e => e.afterBeat c g).handBeat (c.record g) c.muteFirst

theorem State.produceBeat_eq {s : State} {c : Context} {g : Segment} (hc : s.click.context = some c)
    (hg : c.segment = some g) :
    s.produceBeat =
      match c.barReached g with
      | some (bar, pass) => (s.beaten c g).report (.barReached bar pass)
      | none => s.beaten c g := by
  unfold produceBeat
  simp only [hc, hg]
  rfl

theorem State.takeBarReached_none {s : State} {bar : Nat} (h : s.cue.barCue bar = none) : s.takeBarReached bar = s := by
  unfold takeBarReached
  rw [h]

theorem State.beaten_frame (s : State) (c : Context) (g : Segment) :
    (s.mapClick fun e => e.afterBeat c g).PitOnly (s.beaten c g) := State.handBeat_frame _ _ _

theorem State.beaten_ports (s : State) (c : Context) (g : Segment) :
    (s.mapClick fun e => e.afterBeat c g).SamePorts (s.beaten c g) := State.handBeat_ports _ _ _

theorem State.beaten_ch (s : State) (c : Context) (g : Segment) (n : Station) :
    (s.beaten c g).ch n =
      if c.muteFirst = true then (s.ch n).ran (c.record g) else ((s.ch n).clicked (c.record g)).ran (c.record g) :=
  State.handBeat_channel _ _ _ n

theorem State.beaten_patchOf (s : State) (c : Context) (g : Segment) (n : Station) :
    (s.beaten c g).patchOf n = (s.patchOf n).counted (c.record g).onset := State.handBeat_patchOf _ _ _ n

/-- R72: a bar-reached report that no standby waits for is spent. -/
theorem settle_barReached_none {s : State} (hr : s.reports = []) {bar : Nat} (h : s.cue.barCue bar = none)
    (pass : Nat) : settle (s.report (.barReached bar pass)) = s := by
  refine settle_one (r := .barReached bar pass) (by rw [State.report, hr, List.nil_append]) ?_ hr
  have same : { s.report (.barReached bar pass) with reports := [] } = s := by rw [← hr]; rfl
  rw [same]
  exact State.takeBarReached_none h

/-- R26, R72: a beat that no AT_BAR standby waits for, with its report taken. -/
theorem settle_produceBeat {s : State} {c : Context} {g : Segment} (hc : s.click.context = some c)
    (hg : c.segment = some g) (hr : s.reports = []) (hbar : ∀ bar, s.cue.barCue bar = none) :
    settle s.produceBeat = s.beaten c g := by
  have frame := s.beaten_frame c g
  rw [State.produceBeat_eq hc hg]
  split
  · exact settle_barReached_none (frame.reports.trans hr) (by rw [frame.cue]; exact hbar _) _
  · exact settle_nil _ (frame.reports.trans hr)

/-- Settles O10: the beat's own act within the pit, and a report that no standby takes. -/
theorem beatProduced : Obligations.BeatProduced := by
  intro s c g x hc hg hm hx hr hbar b moved
  have beat := settle_produceBeat (s := s.quiet.atS (s.takenAt x)) hc hg hr hbar
  have frame := (s.quiet.atS (s.takenAt x)).beaten_frame c g
  have ports := (s.quiet.atS (s.takenAt x)).beaten_ports c g
  have ch := (s.quiet.atS (s.takenAt x)).beaten_ch c g
  have patch := (s.quiet.atS (s.takenAt x)).beaten_patchOf c g
  have run := command_reached (v := fun s => s.click.moveAt .beat)
    (act := fun x => settle x.produceBeat) hm hx
  rw [beat] at run
  generalize (s.quiet.atS (s.takenAt x)).beaten c g = t at *
  refine ⟨_, run, ?_⟩
  exact ⟨frame.click, ch, patch, State.atS_time_back frame.time, frame.cue, frame.ctl, frame.vin, frame.vout,
    congrArg ControlPort.arbitrate ports.1, frame.reports.trans hr, ports.2, frame.pending⟩

end Sys2Proof.Machine
end

section
/-! PROOFS. MAP_END without a FOLLOW, and the start of a TAP or FREE segment (O12). -/

namespace Sys2Proof.Machine

variable {s : State} {c : Context}

/-! ## The next move (R23, R26, R36) -/

/-- R26: the onset of the engine's next move is that of its context. -/
theorem ClickEngine.next_of_moveAt {e : ClickEngine} {m : Move} {x : Sample} (hc : e.context = some c)
    (h : e.moveAt m = some x) : e.next = some (m, c.nextOnset) := by
  unfold moveAt at h
  split at h
  next k y hn =>
    split at h
    next hk =>
      subst hk
      unfold next at hn ⊢
      rw [hc] at hn ⊢
      dsimp only at hn ⊢
      split at hn
      next hp =>
        rw [if_pos hp]
        rw [show c.move = k from congrArg Prod.fst (Option.some.inj hn)]
      next => cases hn
    next => cases h
  next => cases h

/-! ## The map end (R36) -/

theorem State.discardMap_eq (hc : s.click.context = some c) (e : Sample) :
    s.discardMap e =
      { s with
        click := { s.click with context := none }
        port := s.port.offer (.mapEnd c.map e s.time.S) } := by
  simp only [discardMap, hc]
  rfl

/-- R36: a map end that no FOLLOW standby takes discards the map. -/
theorem State.takeMapEnd_discards (h : s.cue.followCue = none ∨ s.ctl.state ≠ .running) (e : Sample) :
    s.takeMapEnd e = s.discardMap e := by
  unfold takeMapEnd
  split
  · rfl
  next k => rw [if_pos (h.resolve_left (by simp [k]))]

/-- R34: the map end stands while no cue in flight changes the map at or before it. -/
theorem State.mapEnded_eq {e : Sample} (hn : s.click.next = some (.mapEnd, e))
    (hf : ∀ f, s.cue.inFlight = some f → e < f.changePoint) : s.mapEnded = some e := by
  unfold mapEnded
  simp only [hn]
  cases hi : s.cue.inFlight with
  | none => rfl
  | some f => exact if_neg (Nat.not_le.mpr (hf f hi))

/-- R36: the report of a map end taken, with no FOLLOW standby. -/
theorem settle_mapEnd (hc : s.click.context = some c) (hn : s.click.next = some (.mapEnd, c.nextOnset))
    (hr : s.reports = []) (hf : ∀ f, s.cue.inFlight = some f → c.nextOnset < f.changePoint)
    (h : s.cue.followCue = none ∨ s.ctl.state ≠ .running) :
    settle (s.report .mapEnd) = s.discardMap c.nextOnset := by
  have same : { s.report .mapEnd with reports := [] } = s := by rw [← hr]; rfl
  have none : (s.discardMap c.nextOnset).reports = [] := by rw [State.discardMap_eq hc]; exact hr
  refine settle_one (r := .mapEnd) (by rw [State.report, hr, List.nil_append]) ?_ none
  rw [same, State.takeReport, State.mapEnded_eq hn hf]
  exact State.takeMapEnd_discards h _

/-! ## The start of a segment (R23, R28, R40) -/

/-- R23, R28: the engine in the TAP or FREE segment that follows. -/
def ClickEngine.entered (e : ClickEngine) (c : Context) (g : Segment) : ClickEngine :=
  { e with context := some (c.enter (c.segmentIndex + 1)), taps := if g.kind = .tap then [] else e.taps }

theorem ClickEngine.startSegment_eq {e : ClickEngine} {g : Segment} (hc : e.context = some c)
    (hg : c.segment = some g) : e.startSegment = e.entered c g := by
  simp [startSegment, hc, hg, entered]

theorem Context.enter_eq {h : Segment} (hn : c.segments[c.segmentIndex + 1]? = some h) :
    c.enter (c.segmentIndex + 1) =
      { c with
        segmentIndex := c.segmentIndex + 1, beatIndex := 0, beatInBar := 1, pass := 1
        bar := min 9999 (staticBefore c.segments (c.segmentIndex + 1) + 1)
        tempo := h.startTempo, tapPlaced := false, moveDue := false } := by
  simp [enter, hn, firstBar]

/-- R25: the engine at the start of a TAP or FREE segment it has entered. -/
theorem ClickEngine.entered_state {e : ClickEngine} {g h : Segment} (hn : c.segments[c.segmentIndex + 1]? = some h)
    (hk : c.countIn = none) (hheld : e.held = false) :
    (e.entered c g).state =
      match h.kind with
      | .metered => .playing
      | .vamp => .vamping
      | .tap => .waitTap
      | .free => .free := by
  have hseg : (c.enter (c.segmentIndex + 1)).segment = some h := hn
  have hcount : (c.enter (c.segmentIndex + 1)).countIn = none := hk
  have hplaced : (c.enter (c.segmentIndex + 1)).tapPlaced = false := rfl
  simp only [state, entered, hheld, Bool.false_eq_true, if_false, hseg, hcount, Option.isSome_none, hplaced] <;>
    cases h.kind <;> rfl

theorem State.placeTap_waits (h : ¬ (s.click.state = .waitTap ∧ 2 ≤ s.click.taps.length)) : s.placeTap = s := by
  unfold placeTap
  split
  · rfl
  · rw [if_neg h]

theorem State.placeTap_places (hc : s.click.context = some c) (h : s.click.state = .waitTap)
    (ht : 2 ≤ s.click.taps.length) :
    s.placeTap =
      { s with
        click := { s.click with
          context := some
            { c with
              acc := tapFirstOnset (s.click.taps.getLastD 0) (tapInterval s.click.taps) (s.time.S + 4800) * 65536
              tempo := tapTempo s.click.taps, tapPlaced := true, lastOnset := none, muteFirst := false } } } := by
  unfold placeTap
  simp only [hc]
  rw [if_pos ⟨h, ht⟩]
  rfl

/-- R23: with no limit and no hold point the start of a segment moves the position, and may place a beat. -/
theorem State.startSegment_eq {g : Segment} (hc : s.click.context = some c) (hg : c.segment = some g)
    (hl : s.click.limit = none) (hh : s.click.holdPoint = none) :
    s.startSegment = State.placeTap { s with click := s.click.entered c g } := by
  unfold startSegment
  have moved : s.mapClick ClickEngine.startSegment = { s with click := s.click.entered c g } := by
    rw [mapClick, ClickEngine.startSegment_eq hc hg]
  have hhold : State.pullHold { s with click := s.click.entered c g } = { s with click := s.click.entered c g } := by
    simp [pullHold, ClickEngine.entered, hh]
  have hlimit : State.pullLimit { s with click := s.click.entered c g } = { s with click := s.click.entered c g } := by
    simp [pullLimit, ClickEngine.entered, hl]
  rw [moved, hhold, hlimit]

/-- Settles O12: the report of the end taken; the segment entered, and placed where two taps wait for it. -/
theorem mapEndsAndSegmentStarts : Obligations.MapEndsAndSegmentStarts := by
  refine ⟨fun s c x hc hm hx hr hf h => ?_, fun s c g h x hc hg hn hk hcount hheld hm hx hl hh hr => ?_⟩
  · have next := ClickEngine.next_of_moveAt hc hm
    have run := command_reached (v := fun s => s.click.moveAt .mapEnd) (act := fun x => settle (x.report .mapEnd)) hm hx
    rw [settle_mapEnd (s := s.quiet.atS (s.takenAt x)) hc next hr hf h, State.discardMap_eq (s := s.quiet.atS (s.takenAt x)) hc] at run
    exact run
  · have run := command_reached (v := fun s => s.click.moveAt .start) (act := fun x => settle x.startSegment) hm hx
    have start := State.startSegment_eq (s := s.quiet.atS (s.takenAt x)) hc hg hl hh
    have state := s.click.entered_state (g := g) hn hcount hheld
    have enter := Context.enter_eq hn
    refine ⟨fun hwait => ?_, fun htap htwo => ?_⟩
    · have stays := State.placeTap_waits
        (s := { s.quiet.atS (s.takenAt x) with click := s.click.entered c g }) (by
          rintro ⟨hw, ht⟩
          rcases hwait with hfree | hfew
          · have hw : (s.click.entered c g).state = .waitTap := hw
            rw [state, hfree] at hw
            cases hw
          · exact absurd ht (Nat.not_le.mpr hfew))
      rw [start.trans stays, settle_nil _ (by exact hr), ClickEngine.entered, enter] at run
      exact run
    · have places := State.placeTap_places (c := c.enter (c.segmentIndex + 1))
        (s := { s.quiet.atS (s.takenAt x) with click := s.click.entered c g }) rfl (state.trans (by rw [htap])) htwo
      rw [start.trans places, settle_nil _ (by exact hr), ClickEngine.entered, enter] at run
      exact run

end Sys2Proof.Machine
end

section
/-! PROOFS. HOLD_REACHED, CONTINUE_REACHED and RESUME_REACHED (O13). -/

namespace Sys2Proof.Machine

variable {s : State}

/-! ## A change of show state (R101, R113) -/

/-- R101, R113: what a change of show state, with its STOP lamps and its notice, makes of the part. -/
structure State.ShowChanged (s t : State) (after : ShowState) (cause : ShowCause) (beat : Option Sample) : Prop where
  time : t.time = s.time
  click : t.click = s.click
  cue : t.cue = s.cue
  patches : t.patches = s.patches
  ctl : t.ctl = { s.ctl with state := after }
  ch : ∀ n, t.ch n = (s.ch n).stopLampSet after s.time.S
  vin : t.vin = s.vin
  vout : t.vout = s.vout
  port : t.port = s.port.offer (.showState s.ctl.state after cause s.time.S beat)
  reports : t.reports = s.reports
  emitted : t.emitted = s.emitted
  pending : t.pending = s.pending

theorem State.changeShow_changed (s : State) (after : ShowState) (cause : ShowCause) (beat : Option Sample) :
    s.ShowChanged (s.changeShow after cause beat) after cause beat := by
  have frame := (s.mapCtl fun c => { c with state := after }).stopLamps_frame
  have ports := (s.mapCtl fun c => { c with state := after }).stopLamps_ports
  have patches := (s.mapCtl fun c => { c with state := after }).stopLamps_patches
  have ch := (s.mapCtl fun c => { c with state := after }).stopLamps_ch
  unfold State.changeShow State.showNotice State.offer
  generalize (s.mapCtl fun c => { c with state := after }).stopLamps = t at *
  refine ⟨frame.time, frame.click, frame.cue, patches, frame.ctl, ch, frame.vin, frame.vout, ?_, frame.reports,
    ports.2, frame.pending⟩
  show t.port.offer (.showState s.ctl.state t.ctl.state cause t.time.S beat) = _
  rw [ports.1, frame.ctl, frame.time]
  rfl

/-! ## The reports (R42, R106, R116) -/

theorem actHoldReached_eq {x : Sample} (h : s.click.holdPoint = some x) :
    actHoldReached s = s.whenReached (some x) (State.holdReached x) := by
  unfold actHoldReached; rw [h]

theorem ClickEngine.reachAt_eq {e : ClickEngine} {k : ReachKind} {x : Sample} (h : e.reach = some ⟨k, x⟩) :
    e.reachAt k = some x := by
  simp [reachAt, h]

theorem actContinueReached_eq {x : Sample} (h : s.click.reach = some ⟨.continued, x⟩) :
    actContinueReached s = s.whenReached (some x) fun t => t.continueReached x := by
  unfold actContinueReached; rw [ClickEngine.reachAt_eq h]

theorem actResumeReached_eq {x : Sample} (h : s.click.reach = some ⟨.resumed, x⟩) :
    actResumeReached s = s.whenReached (some x) fun t => t.resumeReached x := by
  unfold actResumeReached; rw [ClickEngine.reachAt_eq h]

/-- R2: a command of one act at a sample that has been reached. -/
theorem command_at {act f : State → State} {x : Sample} (h : act s.quiet = s.quiet.whenReached (some x) f)
    (hx : x ≤ s.time.S) :
    command act s = .next ((f (s.quiet.atS (s.takenAt x))).atS s.time.S).done :=
  command_done (h.trans (State.whenReached_due s.quiet x f hx))

theorem State.continueReached_eq (x : Sample) (h : s.ctl.state = .holding) :
    s.continueReached x =
      ((s.mapClick fun e => { e with reach := none }).mapCtl fun c =>
        { c with continuePending := none }).changeShow .running .continueReached (some x) := if_pos h

theorem State.resumeReached_eq (x : Sample) (h : s.ctl.state = .resuming) :
    s.resumeReached x =
      (s.mapClick fun e => { e with reach := none }).changeShow .running .resumeReached (some x) := if_pos h

/-- Settles O13: each report as the change of show state it makes, or as spent. -/
theorem holdsAndReturnsReached : Obligations.HoldsAndReturnsReached := by
  refine ⟨fun s x h hx => ?_, fun s x hx => ⟨fun h hs => ?_, fun h hs => ?_, fun h hs => ?_, fun h hs => ?_⟩⟩
  · have run := command_at (s := s) (actHoldReached_eq h) hx
    have made := State.changeShow_changed
      (((s.quiet.atS (s.takenAt x)).mapClick ClickEngine.hold).mapCtl fun c => { c with holdPending := none })
      .holding .holdReached (some x)
    rw [State.holdReached] at run
    generalize State.changeShow _ _ _ _ = t at *
    exact ⟨_, run, made.click, made.ctl, made.ch, congrArg ControlPort.arbitrate made.port, made.patches,
      State.atS_time_back made.time, made.cue, made.vin, made.vout, made.emitted, made.pending⟩
  · have run := command_at (s := s) (actContinueReached_eq h) hx
    have made := State.changeShow_changed
      (((s.quiet.atS (s.takenAt x)).mapClick fun e => { e with reach := none }).mapCtl fun c =>
        { c with continuePending := none }) .running .continueReached (some x)
    rw [State.continueReached_eq x (by exact hs)] at run
    generalize State.changeShow _ _ _ _ = t at *
    refine ⟨_, run, made.click, made.ctl, made.ch, ?_, made.patches,
      State.atS_time_back made.time, made.cue, made.vin, made.vout, made.emitted, made.pending⟩
    rw [← hs]
    exact congrArg ControlPort.arbitrate made.port
  · have run := command_at (s := s) (actResumeReached_eq h) hx
    have made := State.changeShow_changed
      ((s.quiet.atS (s.takenAt x)).mapClick fun e => { e with reach := none }) .running .resumeReached (some x)
    rw [State.resumeReached_eq x (by exact hs)] at run
    generalize State.changeShow _ _ _ _ = t at *
    refine ⟨_, run, made.click, made.ctl, made.ch, ?_, made.patches,
      State.atS_time_back made.time, made.cue, made.vin, made.vout, made.emitted, made.pending⟩
    rw [← hs]
    exact congrArg ControlPort.arbitrate made.port
  · refine (command_at (s := s) (actContinueReached_eq h) hx).trans ?_
    rw [State.continueReached, if_neg (by exact hs)]
    rfl
  · refine (command_at (s := s) (actResumeReached_eq h) hx).trans ?_
    rw [State.resumeReached, if_neg (by exact hs)]
    rfl

end Sys2Proof.Machine
end

section
/-! PROOFS. The edit requests: what each meets in each edit state, and what it does to the buffer (O14, O16). -/

namespace Sys2Proof.Machine

variable {s : State} {tag : Nat}

/-! ## Requests -/

/-- R170: an admitted request of the right length that its owner refuses changes nothing but its reply. -/
theorem exec_refused {i : Instr} {r : Request} {reason : Reason} (hr : requestOf i = some r) (hlen : r.lengthOk = true)
    (hadm : s.admits r.tag) (hact : r.owner s.taken = refuse s.taken reason) :
    exec i s = .next (s.refusedWith r.kind r.tag reason) :=
  exec_request_replied hr hlen hadm hact nofun

theorem exec_putCue (hadm : s.admits tag) {raw : RawCue} (hl : raw.label.length ≤ 12) (ht : raw.text.length ≤ 16)
    {t : State} {a : Answer} (hact : s.taken.whenOpen (actPutCue raw) = (t, a)) (hnow : a ≠ .deferred) :
    exec (.putCue tag raw) s = .next (t.replied 0x11 tag a) :=
  exec_request_replied (i := .putCue tag raw) rfl (decide_eq_true ⟨hl, ht⟩) hadm hact hnow

/-! ## The edit state (R54) -/

theorem State.whenOpen_open (h : s.cue.edit = .openEdit) (act : State → State × Answer) : s.whenOpen act = act s := by
  simp [whenOpen, h]

/-- R54: the reason an edit request meets where no edit is OPEN. -/
theorem State.whenOpen_refused {r : Reason}
    (h : (s.cue.edit = .closed ∧ r = .editNotOpen) ∨ (s.cue.edit = .pendingApply ∧ r = .editPending))
    (act : State → State × Answer) : s.whenOpen act = refuse s r := by
  rcases h with ⟨h, rfl⟩ | ⟨h, rfl⟩ <;> simp [whenOpen, h]

theorem actBeginEdit_closed (h : s.cue.edit = .closed) :
    actBeginEdit s =
      ({ s with cue := { s.cue with edit := .openEdit, buffer := s.cue.book, copiedFrom := s.cue.serial } },
        .ok false (.editBegun s.cue.serial s.cue.book.counts)) := by
  simp [actBeginEdit, h, State.mapCue]

theorem actBeginEdit_refused {r : Reason}
    (h : (s.cue.edit = .openEdit ∧ r = .editOpen) ∨ (s.cue.edit = .pendingApply ∧ r = .editPending)) :
    actBeginEdit s = refuse s r := by
  rcases h with ⟨h, rfl⟩ | ⟨h, rfl⟩ <;> simp [actBeginEdit, h]

theorem actAbandonEdit_closed (h : s.cue.edit = .closed) : actAbandonEdit s = refuse s .editNotOpen := by
  simp [actAbandonEdit, h]

theorem actAbandonEdit_taken (h : s.cue.edit ≠ .closed) :
    actAbandonEdit s =
      ({ s with cue := { s.cue with edit := .closed, buffer := Book.empty } }, .ok false (.abandoned s.cue.edit)) := by
  cases he : s.cue.edit <;> simp_all [actAbandonEdit, State.mapCue]

/-- Settles O14: `whenOpen` for the edits and COMMIT_EDIT, and the two requests that other states take. -/
theorem editRequests : Obligations.EditRequests := by
  intro s tag hadm refused
  refine ⟨fun h => ?_, fun h => ?_, fun h => ?_, fun r h => ⟨fun c hl ht => ?_, fun n => ?_, fun m k d gs => ?_, fun m => ?_, ?_⟩,
    fun h => ?_, fun h => ?_⟩
  · have act := actBeginEdit_closed (s := s.taken) (by simpa using h)
    have run := exec_request_replied (i := .beginEdit tag) rfl rfl hadm act nofun
    simpa only [State.taken_serial, State.taken_book, Book.counts] using run
  · exact exec_refused (i := .beginEdit tag) rfl rfl hadm (actBeginEdit_refused (.inl ⟨by simpa using h, rfl⟩))
  · exact exec_refused (i := .beginEdit tag) rfl rfl hadm (actBeginEdit_refused (.inr ⟨by simpa using h, rfl⟩))
  all_goals rw [← s.taken_edit] at h
  · exact exec_putCue hadm hl ht (State.whenOpen_refused h _) nofun
  · exact exec_refused (i := .deleteCue tag n) rfl rfl hadm (State.whenOpen_refused h _)
  · exact exec_refused (i := .putMap tag m k d gs) rfl rfl hadm (State.whenOpen_refused h _)
  · exact exec_refused (i := .deleteMap tag m) rfl rfl hadm (State.whenOpen_refused h _)
  · exact exec_refused (i := .commitEdit tag) rfl rfl hadm (State.whenOpen_refused h _)
  · exact exec_refused (i := .abandonEdit tag) rfl rfl hadm (actAbandonEdit_closed h)
  · have run := exec_request_replied (i := .abandonEdit tag) rfl rfl hadm (actAbandonEdit_taken h) nofun
    simpa only [State.taken_edit] using run

/-! ## Cues (R56) -/

theorem cuesFit_iff {cs : List Cue} : cuesFit cs = true ↔ cs.length ≤ 1024 ∧ entryCount cs ≤ 8192 := by
  simp [cuesFit]

theorem actPutCue_bad {raw : RawCue} (h : readCue raw = none) : actPutCue raw s = refuse s .badValue := by
  simp [actPutCue, h]

theorem actPutCue_taken {raw : RawCue} {c : Cue} {clamped : Bool} (h : readCue raw = some (c, clamped))
    (hfit : cuesFit (insertCue c s.cue.buffer.cues) = true) :
    actPutCue raw s = s.setCues (insertCue c s.cue.buffer.cues) clamped := by
  simp [actPutCue, h, hfit]

theorem actPutCue_full {raw : RawCue} {c : Cue} {clamped : Bool} (h : readCue raw = some (c, clamped))
    (hfull : ¬ cuesFit (insertCue c s.cue.buffer.cues) = true) : actPutCue raw s = refuse s .full := by
  simp [actPutCue, h, hfull]

theorem actDeleteCue_found {n : Nat} (h : ∃ c ∈ s.cue.buffer.cues, c.number = n) :
    actDeleteCue n s = s.setCues (s.cue.buffer.cues.filter fun c => decide (c.number ≠ n)) false := by
  have found : (s.cue.buffer.cue? n).isSome = true := by simpa [Book.cue?] using h
  obtain ⟨c, hc⟩ := Option.isSome_iff_exists.mp found
  simp [actDeleteCue, hc]

theorem actDeleteCue_absent {n : Nat} (h : ∀ c ∈ s.cue.buffer.cues, c.number ≠ n) :
    actDeleteCue n s = refuse s .notFound := by
  have absent : s.cue.buffer.cue? n = none := by simpa [Book.cue?] using h
  simp [actDeleteCue, absent]

/-! ## Maps (R52, R57) -/

theorem readSegments_some {raw : List RawSegment} {gs : List Segment} {clamped : Bool}
    (h : readSegments raw = some (gs, clamped)) : raw ≠ [] ∧ raw.length ≤ 16 ∧ ∀ g ∈ raw, readSegment g ≠ none := by
  unfold readSegments at h
  split at h
  next hlen =>
    refine ⟨by rintro rfl; simp at hlen, hlen.2, fun g hg hn => ?_⟩
    have all : ∀ (xs : List RawSegment), g ∈ xs → readAll readSegment xs = none := fun xs hx => by
      induction xs with
      | nil => cases hx
      | cons x xs ih =>
        rcases List.mem_cons.mp hx with rfl | hx
        · simp [readAll, hn]
        · rw [readAll, ih hx]
          cases readSegment x <;> rfl
    simp [all raw hg] at h
  next => cases h

theorem actPutMap_bad {m k d : Nat} {raw : List RawSegment}
    (h : 255 < m ∨ raw = [] ∨ 16 < raw.length ∨ ∃ g ∈ raw, readSegment g = none) :
    actPutMap m k d raw s = refuse s .badValue := by
  unfold actPutMap
  split
  · rfl
  next gs clamped hr =>
    obtain ⟨hne, hlen, hall⟩ := readSegments_some hr
    rw [if_pos]
    rcases h with h | h | h | ⟨g, hg, h⟩
    · exact h
    · exact absurd h hne
    · exact absurd h (Nat.not_lt.mpr hlen)
    · exact absurd h (hall g hg)

theorem actPutMap_judged {m k d : Nat} {raw : List RawSegment} {gs : List Segment} {clamped : Bool}
    (h : readSegments raw = some (gs, clamped)) (hm : m ≤ 255) :
    actPutMap m k d raw s =
      match mapAfter s.cue.buffer m k d gs with
      | none => refuse s .badValue
      | some e => s.putEntry e clamped := by
  simp only [actPutMap, h]
  rw [if_neg (Nat.not_lt.mpr hm)] <;> cases mapAfter s.cue.buffer m k d gs <;> rfl

theorem State.putEntry_taken {e : MapEntry} (h : declaredTotal (insertMap e s.cue.buffer.maps) ≤ 4096)
    (clamped : Bool) :
    s.putEntry e clamped =
      ({ s with cue := { s.cue with buffer := { s.cue.buffer with maps := insertMap e s.cue.buffer.maps } } },
        .ok clamped (.mapCounts e.segments.length e.declared (declaredTotal (insertMap e s.cue.buffer.maps)))) := if_pos h

theorem State.putEntry_full {e : MapEntry} (h : 4096 < declaredTotal (insertMap e s.cue.buffer.maps))
    (clamped : Bool) : s.putEntry e clamped = refuse s .full := if_neg (Nat.not_le.mpr h)

/-- R52: the entry that a first part starts. -/
theorem mapAfter_first {b : Book} {m d : Nat} {gs : List Segment} :
    mapAfter b m 0 d gs = if 1 ≤ d ∧ d ≤ 64 ∧ gs.length ≤ d then some ⟨m, d, gs⟩ else none := rfl

/-- R52: the entry that a continuing part leaves. -/
theorem mapAfter_next {b : Book} {m k d : Nat} {gs : List Segment} (hk : 0 < k) {e : MapEntry} (he : b.map? m = some e) :
    mapAfter b m k d gs =
      if e.segments.length ≠ e.declared ∧ e.segments.length = k ∧ d = e.declared ∧ k + gs.length ≤ d then
        some { e with segments := e.segments ++ gs }
      else none := by
  unfold mapAfter
  rw [if_neg (Nat.pos_iff_ne_zero.mp hk), he]
  simp [MapEntry.complete]

theorem mapAfter_absent {b : Book} {m k d : Nat} {gs : List Segment} (hk : 0 < k) (he : b.map? m = none) :
    mapAfter b m k d gs = none := by
  unfold mapAfter
  rw [if_neg (Nat.pos_iff_ne_zero.mp hk), he]

theorem actDeleteMap_found {m : Nat} (h : ∃ e ∈ s.cue.buffer.maps, e.number = m) :
    actDeleteMap m s =
      ({ s with
          cue := { s.cue with
            buffer := { s.cue.buffer with maps := s.cue.buffer.maps.filter fun e => decide (e.number ≠ m) } } },
        .ok false .empty) := by
  have found : (s.cue.buffer.map? m).isSome = true := by simpa [Book.map?] using h
  obtain ⟨e, he⟩ := Option.isSome_iff_exists.mp found
  simp [actDeleteMap, he, State.setBuffer, State.mapCue]

theorem actDeleteMap_absent {m : Nat} (h : ∀ e ∈ s.cue.buffer.maps, e.number ≠ m) :
    actDeleteMap m s = refuse s .notFound := by
  have absent : s.cue.buffer.map? m = none := by simpa [Book.map?] using h
  simp [actDeleteMap, absent]

/-! ## The requests in OPEN -/

theorem exec_deleteCue (hadm : s.admits tag) (hopen : s.cue.edit = .openEdit) {n : Nat} {t : State} {a : Answer}
    (hact : actDeleteCue n s.taken = (t, a)) (hnow : a ≠ .deferred) :
    exec (.deleteCue tag n) s = .next (t.replied 0x12 tag a) :=
  exec_request_replied (i := .deleteCue tag n) rfl rfl hadm
    ((State.whenOpen_open (by simpa using hopen) _).trans hact) hnow

theorem exec_putMap (hadm : s.admits tag) (hopen : s.cue.edit = .openEdit) {m k d : Nat} {raw : List RawSegment}
    {t : State} {a : Answer} (hact : actPutMap m k d raw s.taken = (t, a)) (hnow : a ≠ .deferred) :
    exec (.putMap tag m k d raw) s = .next (t.replied 0x13 tag a) :=
  exec_request_replied (i := .putMap tag m k d raw) rfl rfl hadm
    ((State.whenOpen_open (by simpa using hopen) _).trans hact) hnow

theorem exec_deleteMap (hadm : s.admits tag) (hopen : s.cue.edit = .openEdit) {m : Nat} {t : State} {a : Answer}
    (hact : actDeleteMap m s.taken = (t, a)) (hnow : a ≠ .deferred) :
    exec (.deleteMap tag m) s = .next (t.replied 0x14 tag a) :=
  exec_request_replied (i := .deleteMap tag m) rfl rfl hadm
    ((State.whenOpen_open (by simpa using hopen) _).trans hact) hnow

/-- R57: a PUT_MAP whose entry is known is taken, or refused FULL. -/
theorem exec_putMap_entry (hadm : s.admits tag) (hopen : s.cue.edit = .openEdit) {m k d : Nat} {raw : List RawSegment}
    {gs : List Segment} {clamped : Bool} (hr : readSegments raw = some (gs, clamped)) (hm : m ≤ 255) {e : MapEntry}
    (he : mapAfter s.cue.buffer m k d gs = some e) :
    (declaredTotal (insertMap e s.cue.buffer.maps) ≤ 4096 →
      exec (.putMap tag m k d raw) s =
        .next (State.replied
          { s.taken with
            cue := { s.taken.cue with buffer := { s.cue.buffer with maps := insertMap e s.cue.buffer.maps } } } 0x13 tag
          (.ok clamped
            (.mapCounts e.segments.length e.declared (declaredTotal (insertMap e s.cue.buffer.maps)))))) ∧
      (4096 < declaredTotal (insertMap e s.cue.buffer.maps) →
        exec (.putMap tag m k d raw) s = .next (s.refusedWith 0x13 tag .full)) := by
  have judged := actPutMap_judged (s := s.taken) (k := k) (d := d) hr hm
  rw [State.taken_buffer, he] at judged
  rw [← State.taken_buffer] at *
  exact ⟨fun h => exec_putMap hadm hopen (judged.trans (State.putEntry_taken h _)) nofun,
    fun h => exec_putMap hadm hopen (judged.trans (State.putEntry_full h _)) nofun⟩

theorem exec_putMap_none (hadm : s.admits tag) (hopen : s.cue.edit = .openEdit) {m k d : Nat} {raw : List RawSegment}
    {gs : List Segment} {clamped : Bool} (hr : readSegments raw = some (gs, clamped)) (hm : m ≤ 255)
    (he : mapAfter s.cue.buffer m k d gs = none) :
    exec (.putMap tag m k d raw) s = .next (s.refusedWith 0x13 tag .badValue) := by
  have judged := actPutMap_judged (s := s.taken) (k := k) (d := d) hr hm
  rw [State.taken_buffer, he] at judged
  exact exec_putMap hadm hopen judged nofun

/-- Settles O16: each edit by what it finds, in the buffer alone. -/
theorem cueAndMapEdits : Obligations.CueAndMapEdits := by
  refine ⟨fun s tag hadm hopen => ⟨fun raw hl ht => ⟨fun h => ?_, fun c clamped h => ⟨fun h1 h2 => ?_, fun h1 => ?_⟩⟩,
    fun n => ⟨fun h => ?_, fun h => ?_⟩⟩,
    fun s tag hadm hopen => ⟨fun m k d raw gs clamped hr hm => ⟨fun hk h1 h2 h3 => ?_, fun hk h => ?_,
      fun e hk he h1 h2 h3 h4 => ?_, fun hk h => ?_⟩, fun m k d raw h => ?_, fun m => ⟨fun h => ?_, fun h => ?_⟩⟩⟩
  · have act := State.whenOpen_open (s := s.taken) (by simpa using hopen) (actPutCue raw)
    exact exec_putCue hadm hl ht (act.trans (actPutCue_bad h)) nofun
  · have act := State.whenOpen_open (s := s.taken) (by simpa using hopen) (actPutCue raw)
    have taken := actPutCue_taken (s := s.taken) h (by rw [s.taken_buffer]; exact cuesFit_iff.mpr ⟨h1, h2⟩)
    rw [s.taken_buffer] at taken
    have run := exec_putCue hadm hl ht (act.trans taken) nofun
    rw [State.setBuffer, State.mapCue, s.taken_buffer] at run
    exact run
  · have act := State.whenOpen_open (s := s.taken) (by simpa using hopen) (actPutCue raw)
    have full := actPutCue_full (s := s.taken) h (by
      rw [s.taken_buffer, cuesFit_iff]
      rintro ⟨k1, k2⟩
      exact h1.elim (Nat.not_lt.mpr k1) (Nat.not_lt.mpr k2))
    exact exec_putCue hadm hl ht (act.trans full) nofun
  · have act := actDeleteCue_found (s := s.taken) (n := n) (by simpa using h)
    have run := exec_deleteCue hadm hopen act nofun
    rw [State.setBuffer, State.mapCue, s.taken_buffer] at run
    exact run
  · exact exec_deleteCue hadm hopen (actDeleteCue_absent (by simpa using h)) nofun
  · subst hk
    exact exec_putMap_entry hadm hopen hr hm (mapAfter_first.trans (if_pos ⟨h1, h2, h3⟩))
  · subst hk
    refine exec_putMap_none hadm hopen hr hm (mapAfter_first.trans (if_neg ?_))
    omega
  · exact exec_putMap_entry hadm hopen hr hm ((mapAfter_next hk he).trans (if_pos ⟨h2, h1, h3, h4⟩))
  · refine exec_putMap_none hadm hopen hr hm ?_
    cases he : s.cue.buffer.map? m with
    | none => exact mapAfter_absent hk he
    | some e =>
      refine (mapAfter_next hk he).trans (if_neg ?_)
      have := h e he
      omega
  · exact exec_putMap hadm hopen (actPutMap_bad h) nofun
  · have act := actDeleteMap_found (s := s.taken) (m := m) (by simpa using h)
    rw [s.taken_buffer] at act
    exact exec_deleteMap hadm hopen act nofun
  · exact exec_deleteMap hadm hopen (actDeleteMap_absent (by simpa using h)) nofun

end Sys2Proof.Machine
end

section
/-! PROOFS. Which values of a carried cue or segment are refused, clamped and kept (O15). -/

namespace Sys2Proof.Machine

/-! ## Lists read and sorted -/

theorem readAll_eq_none {α β : Type} {f : α → Option β} {xs : List α} :
    readAll f xs = none ↔ ∃ x ∈ xs, f x = none := by
  induction xs with
  | nil => simp [readAll]
  | cons x xs ih =>
    rw [readAll]
    cases hx : f x with
    | none => simp [hx]
    | some y =>
      cases hs : readAll f xs with
      | none => simp [hx, ← ih, hs]
      | some ys => simp [hx, ← ih, hs]

theorem readAll_forall {α β : Type} {f : α → Option β} {xs : List α} {ys : List β} (h : readAll f xs = some ys) :
    List.Forall₂ (fun x y => f x = some y) xs ys := by
  induction xs generalizing ys with
  | nil => cases h; exact .nil
  | cons x xs ih =>
    rw [readAll] at h
    split at h
    next y ys' hx hs =>
      cases h
      exact .cons hx (ih hs)
    next => cases h

theorem readAll_mem {α β : Type} {f : α → Option β} {xs : List α} {ys : List β} (h : readAll f xs = some ys) (y : β) :
    y ∈ ys ↔ ∃ x ∈ xs, f x = some y := by
  have all := readAll_forall h
  clear h
  induction all with
  | nil => simp
  | cons hx _ ih => simp [hx, ih, eq_comm]

theorem mem_insertEntry {e x : PatchEntry} {es : List PatchEntry} : x ∈ insertEntry e es ↔ x = e ∨ x ∈ es := by
  induction es with
  | nil => simp [insertEntry]
  | cons y ys ih =>
    rw [insertEntry]
    split
    · simp
    · simp [ih, or_left_comm]

theorem mem_sortEntries {x : PatchEntry} {es : List PatchEntry} : x ∈ sortEntries es ↔ x ∈ es := by
  induction es with
  | nil => rfl
  | cons e es ih =>
    show x ∈ insertEntry e (sortEntries es) ↔ _
    rw [mem_insertEntry, ih, List.mem_cons]

/-- R50: an entry of a new station goes to its place in ascending station order. -/
theorem insertEntry_pairwise {e : PatchEntry} {es : List PatchEntry}
    (h : es.Pairwise fun a b => a.station < b.station) (hnew : ∀ x ∈ es, x.station ≠ e.station) :
    (insertEntry e es).Pairwise fun a b => a.station < b.station := by
  induction es with
  | nil => simp [insertEntry]
  | cons x xs ih =>
    obtain ⟨hx, hxs⟩ := List.pairwise_cons.mp h
    rw [insertEntry]
    split
    next hle =>
      have hlt : e.station < x.station := lt_of_le_of_ne hle (hnew x List.mem_cons_self).symm
      refine List.pairwise_cons.mpr ⟨fun y hy => ?_, h⟩
      rcases List.mem_cons.mp hy with rfl | hy
      · exact hlt
      · exact hlt.trans (hx y hy)
    next hgt =>
      refine List.pairwise_cons.mpr ⟨fun y hy => ?_, ih hxs fun y hy => hnew y (List.mem_cons_of_mem _ hy)⟩
      rcases mem_insertEntry.mp hy with rfl | hy
      · exact not_le.mp hgt
      · exact hx y hy

theorem sortEntries_pairwise {es : List PatchEntry} (h : (es.map PatchEntry.station).Nodup) :
    (sortEntries es).Pairwise fun a b => a.station < b.station := by
  induction es with
  | nil => exact .nil
  | cons e es ih =>
    obtain ⟨hnew, hes⟩ := List.nodup_cons.mp h
    exact insertEntry_pairwise (ih hes) fun x hx k =>
      hnew (k ▸ List.mem_map_of_mem (f := PatchEntry.station) (mem_sortEntries.mp hx))

/-! ## Enumerations by value -/

theorem stationOf_eq_none {n : Nat} : stationOf n = none ↔ n = 0 ∨ 24 < n := by
  unfold stationOf
  split <;> simp <;> omega

theorem stationOf_eq_some {n : Nat} {m : Station} : stationOf n = some m ↔ m.val + 1 = n := by
  unfold stationOf
  split
  · simp [Fin.ext_iff]; omega
  · simp; omega

theorem GoMode.ofCode_eq (code bar : Nat) :
    GoMode.ofCode code bar =
      if 2 < code then none
      else some (if code = 0 then .manual else if code = 1 then .follow else .atBar (min 9999 (max 1 bar))) := by
  rcases code with _ | _ | _ | _ <;> simp [ofCode, clampTo]

theorem ChangeKind.ofCode_eq (code : Nat) :
    ChangeKind.ofCode code =
      if 2 < code then none else some (if code = 0 then .immediate else if code = 1 then .nextBeat else .nextBar) := by
  rcases code with _ | _ | _ | _ <;> simp [ofCode]

theorem MapRef.ofCode_eq (code : Nat) :
    MapRef.ofCode code =
      if 257 < code then none
      else some (if code ≤ 255 then .map code else if code = 256 then .silence else .keep) := by
  unfold ofCode
  split
  next h => rw [if_neg (by omega)]
  next h =>
    split
    next h => rw [if_neg (by omega)]
    next k =>
      split
      next j => rw [if_neg (by omega)]
      next j => rw [if_pos (by omega)]

theorem PatchPolicy.ofCode_eq (code : Nat) :
    PatchPolicy.ofCode code = if 1 < code then none else some (if code = 0 then .now else .onRelease) := by
  rcases code with _ | _ | _ <;> simp [ofCode]

/-- The kind of a segment whose code is in the enumeration. -/
def segmentKindOf (code : Nat) : SegmentKind :=
  if code = 0 then .metered else if code = 1 then .vamp else if code = 2 then .tap else .free

theorem SegmentKind.ofCode_eq (code : Nat) :
    SegmentKind.ofCode code =
      if 3 < code then none else some (segmentKindOf code) := by
  rcases code with _ | _ | _ | _ | _ <;> simp [ofCode, segmentKindOf]

theorem VampExit.ofCode_eq (code : Nat) :
    VampExit.ofCode code = if 1 < code then none else some (if code = 0 then .atPassEnd else .atBarEnd) := by
  rcases code with _ | _ | _ <;> simp [ofCode]

/-- A value is clamped just where it lies outside its range. -/
theorem clampTo_ne_iff {low high n : Nat} (h : low ≤ high) : clampTo low high n ≠ n ↔ n < low ∨ high < n := by
  unfold clampTo; omega

theorem printable_iff {t : Text} : Text.printable t = true ↔ ∀ x ∈ t, 32 ≤ x ∧ x ≤ 126 := by
  simp [Text.printable]

/-! ## Patch entries (R51) -/

theorem readEntry_eq_none {r : RawPatchEntry} : readEntry r = none ↔ r.station = 0 ∨ 24 < r.station ∨ 1 < r.policy := by
  rw [← or_assoc, ← stationOf_eq_none]
  unfold readEntry
  rw [PatchPolicy.ofCode_eq]
  cases stationOf r.station <;> by_cases h : 1 < r.policy <;> simp [h]

/-- R51: the entry stored, and whether a value of it was clamped. -/
theorem readEntry_eq_some {r : RawPatchEntry} {e : PatchEntry} {clamped : Bool} :
    readEntry r = some (e, clamped) ↔
      r.policy ≤ 1 ∧ e.station.val + 1 = r.station ∧ e.patch = ⟨min 127 r.bank, min 127 r.program⟩ ∧
        e.policy = (if r.policy = 0 then .now else .onRelease) ∧ e.deferLimit = min 16 (max 1 r.deferLimit) ∧
        clamped = decide (127 < r.bank ∨ 127 < r.program ∨ r.deferLimit = 0 ∨ 16 < r.deferLimit) := by
  have hdefer : clampTo 1 16 r.deferLimit ≠ r.deferLimit ↔ r.deferLimit = 0 ∨ 16 < r.deferLimit := by
    rw [clampTo_ne_iff (by decide), Nat.lt_one_iff]
  unfold readEntry
  rw [PatchPolicy.ofCode_eq]
  obtain ⟨station, patch, policy, deferLimit⟩ := e
  cases hs : stationOf r.station with
  | none =>
    have habsent := stationOf_eq_none.mp hs
    simp only [reduceCtorEq, false_iff]
    rintro ⟨-, h, -⟩
    omega
  | some m =>
    have hm := stationOf_eq_some.mp hs
    have hsame : m = station ↔ station.val + 1 = r.station := by rw [← hm, Fin.ext_iff]; omega
    by_cases h : 1 < r.policy
    · simp [h, Nat.not_le.mpr h]
    · have flag : (decide (127 < r.bank) || decide (127 < r.program) || decide (clampTo 1 16 r.deferLimit ≠ r.deferLimit)) =
          decide (127 < r.bank ∨ 127 < r.program ∨ r.deferLimit = 0 ∨ 16 < r.deferLimit) := by
        simp only [hdefer, Bool.decide_or, Bool.or_assoc]
      have low : ∀ n, clampTo 0 127 n = min 127 n := fun n => by rw [clampTo, Nat.zero_max]
      simp only [if_neg h, Option.some.injEq, Prod.mk.injEq, PatchEntry.mk.injEq, hsame, flag, low]
      constructor
      · rintro ⟨⟨h1, rfl, rfl, rfl⟩, rfl⟩
        exact ⟨Nat.not_lt.mp h, h1, rfl, rfl, rfl, rfl⟩
      · rintro ⟨-, h1, rfl, rfl, rfl, rfl⟩
        exact ⟨⟨h1, rfl, rfl, rfl⟩, rfl⟩

/-- R51: the stations of stored entries are distinct just where those carried are. -/
theorem readAll_stations {rs : List RawPatchEntry} {es : List (PatchEntry × Bool)} (h : readAll readEntry rs = some es) :
    ((es.map Prod.fst).map PatchEntry.station).Nodup ↔ (rs.map RawPatchEntry.station).Nodup := by
  have stations : rs.map RawPatchEntry.station =
      ((es.map Prod.fst).map PatchEntry.station).map fun n => n.val + 1 := by
    have all := readAll_forall h
    clear h
    induction all with
    | nil => rfl
    | cons hx _ ih =>
      have := (readEntry_eq_some.mp hx).2.1
      simp [← this, ih]
  rw [stations]
  exact (List.nodup_map_iff fun a b hab => Fin.ext (Nat.succ.inj hab)).symm

/-! ## Cues (R49 to R51) -/

/-- R51: a carried cue whose codes and entries all read has fields that may still refuse it. -/
def fieldsOk (r : RawCue) : Prop :=
  1 ≤ r.number ∧ r.number ≤ 99999 ∧ (∀ x ∈ r.label, 32 ≤ x ∧ x ≤ 126) ∧ (∀ x ∈ r.text, 32 ≤ x ∧ x ≤ 126) ∧
    r.entries.length ≤ 24 ∧ (r.entries.map RawPatchEntry.station).Nodup

/-- R51: the cue stored of a carried one whose entries read as `es`. -/
def storedCue (r : RawCue) (es : List (PatchEntry × Bool)) : Cue :=
  ⟨r.number, r.label,
    if r.goMode = 0 then .manual else if r.goMode = 1 then .follow else .atBar (min 9999 (max 1 r.goBar)),
    if r.changePoint = 0 then .immediate else if r.changePoint = 1 then .nextBeat else .nextBar,
    if r.mapRef ≤ 255 then .map r.mapRef else if r.mapRef = 256 then .silence else .keep,
    min r.countIn 4, sortEntries (es.map Prod.fst), r.warn, r.text⟩

/-- R51: a value of a carried cue lies outside its range. -/
def clampsCue (r : RawCue) : Prop :=
  4 < r.countIn ∨ (r.goMode = 2 ∧ (r.goBar = 0 ∨ 9999 < r.goBar)) ∨
    ∃ e ∈ r.entries, 127 < e.bank ∨ 127 < e.program ∨ e.deferLimit = 0 ∨ 16 < e.deferLimit

section
variable {r : RawCue} {es : List (PatchEntry × Bool)}

theorem readCue_codes (h : 2 < r.goMode ∨ 2 < r.changePoint ∨ 257 < r.mapRef) : readCue r = none := by
  unfold readCue
  rw [GoMode.ofCode_eq, ChangeKind.ofCode_eq, MapRef.ofCode_eq]
  by_cases hg : 2 < r.goMode
  · simp [hg]
  · by_cases hk : 2 < r.changePoint
    · simp [hg, hk]
    · have hm : 257 < r.mapRef := (h.resolve_left hg).resolve_left hk
      simp [hg, hk, hm]

theorem readCue_entries (h : readAll readEntry r.entries = none) : readCue r = none := by
  unfold readCue
  rw [h]
  cases GoMode.ofCode r.goMode r.goBar <;> cases ChangeKind.ofCode r.changePoint <;> cases MapRef.ofCode r.mapRef <;> rfl

theorem entries_clamped (h : readAll readEntry r.entries = some es) :
    es.any Prod.snd = true ↔
      ∃ e ∈ r.entries, 127 < e.bank ∨ 127 < e.program ∨ e.deferLimit = 0 ∨ 16 < e.deferLimit := by
  rw [List.any_eq_true]
  constructor
  · rintro ⟨⟨e, clamped⟩, he, hc⟩
    obtain ⟨x, hx, hr⟩ := (readAll_mem h _).mp he
    obtain ⟨-, -, -, -, -, hflag⟩ := readEntry_eq_some.mp hr
    exact ⟨x, hx, of_decide_eq_true (hflag.symm.trans hc)⟩
  · rintro ⟨x, hx, hout⟩
    have hread : readEntry x ≠ none := fun hn => by
      have := readAll_eq_none.mpr ⟨x, hx, hn⟩
      rw [h] at this
      cases this
    obtain ⟨⟨e, clamped⟩, hr⟩ := Option.ne_none_iff_exists'.mp hread
    obtain ⟨-, -, -, -, -, hflag⟩ := readEntry_eq_some.mp hr
    exact ⟨(e, clamped), (readAll_mem h _).mpr ⟨x, hx, hr⟩, hflag.trans (decide_eq_true hout)⟩

theorem readCue_fields (hg : r.goMode ≤ 2) (hk : r.changePoint ≤ 2) (hm : r.mapRef ≤ 257)
    (he : readAll readEntry r.entries = some es) :
    (fieldsOk r → ∃ clamped, (clamped = true ↔ clampsCue r) ∧ readCue r = some (storedCue r es, clamped)) ∧
      (¬ fieldsOk r → readCue r = none) := by
  have ok : (1 ≤ r.number ∧ r.number ≤ Config.cueNumberMax ∧ Text.printable r.label ∧ Text.printable r.text
      ∧ r.entries.length ≤ 24 ∧ ((es.map Prod.fst).map PatchEntry.station).Nodup) ↔ fieldsOk r := by
    rw [printable_iff, printable_iff, readAll_stations he]
    rfl
  unfold readCue
  rw [GoMode.ofCode_eq, ChangeKind.ofCode_eq, MapRef.ofCode_eq, he, if_neg (Nat.not_lt.mpr hg),
    if_neg (Nat.not_lt.mpr hk), if_neg (Nat.not_lt.mpr hm)]
  dsimp only
  refine ⟨fun h => ⟨_, ?_, if_pos (ok.mpr h)⟩, fun h => if_neg (mt ok.mp h)⟩
  rw [Bool.or_eq_true, Bool.or_eq_true, entries_clamped he, decide_eq_true_eq, decide_eq_true_eq, or_assoc]
  simp only [clampsCue, clampTo_ne_iff (show 1 ≤ Config.barNumberMax by decide), Nat.lt_one_iff]

/-- R51: a carried cue is refused for a code, an entry or a field. -/
theorem readCue_eq_none : readCue r = none ↔
    2 < r.goMode ∨ 2 < r.changePoint ∨ 257 < r.mapRef ∨ readAll readEntry r.entries = none ∨ ¬ fieldsOk r := by
  by_cases hcodes : 2 < r.goMode ∨ 2 < r.changePoint ∨ 257 < r.mapRef
  · exact iff_of_true (readCue_codes hcodes) (by tauto)
  · cases he : readAll readEntry r.entries with
    | none => exact iff_of_true (readCue_entries he) (by tauto)
    | some es =>
      obtain ⟨hok, hbad⟩ := readCue_fields (by omega) (by omega) (by omega) he
      by_cases hf : fieldsOk r
      · obtain ⟨clamped, -, hr⟩ := hok hf
        refine iff_of_false (by simp [hr]) ?_
        simp only [reduceCtorEq, hf, not_true_eq_false, or_false]
        tauto
      · exact iff_of_true (hbad hf) (by tauto)

theorem readCue_eq_some {c : Cue} {clamped : Bool} (h : readCue r = some (c, clamped)) :
    ∃ es, readAll readEntry r.entries = some es ∧ c = storedCue r es ∧ fieldsOk r ∧ (clamped = true ↔ clampsCue r) := by
  have hnot := mt readCue_eq_none.mpr (by rw [h]; simp)
  simp only [not_or, not_not] at hnot
  obtain ⟨hg, hk, hm, he, hf⟩ := hnot
  obtain ⟨es, he⟩ := Option.ne_none_iff_exists'.mp he
  obtain ⟨flag, hflag, hr⟩ := (readCue_fields (by omega) (by omega) (by omega) he).1 hf
  rw [hr] at h
  cases h
  exact ⟨es, he, rfl, hf, hflag⟩

end

/-! ## Segments (R21, R53) -/

/-- R53: a carried segment is refused for its kind, a VAMP's exit, or its denominator. -/
def badSegment (r : RawSegment) : Prop :=
  3 < r.kind ∨ (r.kind = 1 ∧ 1 < r.vampExit) ∨
    (r.denominator ≠ 2 ∧ r.denominator ≠ 4 ∧ r.denominator ≠ 8 ∧ r.denominator ≠ 16)

section
variable {r : RawSegment}

theorem readVampExit_eq {k : SegmentKind} (hk : k = .vamp ↔ r.kind = 1) :
    readVampExit k r.vampExit =
      if r.kind = 1 ∧ 1 < r.vampExit then none
      else some (if r.kind = 1 then some (if r.vampExit = 0 then .atPassEnd else .atBarEnd) else none) := by
  by_cases h : r.kind = 1
  · obtain rfl := hk.mpr h
    rw [readVampExit, VampExit.ofCode_eq]
    by_cases hx : 1 < r.vampExit <;> simp [h, hx]
  · have hne := mt hk.mp h
    cases k <;> simp_all [readVampExit]

theorem segmentKindOf_vamp : segmentKindOf r.kind = .vamp ↔ r.kind = 1 := by
  unfold segmentKindOf
  split <;> simp_all
  split <;> simp

/-- R21, R53: the segment stored of a carried one that is not refused. -/
def storedSegment (r : RawSegment) : Segment :=
  { kind := segmentKindOf r.kind
    bars := (readBars (segmentKindOf r.kind) r.bars).1
    beatsPerBar := min 15 (max 1 r.beatsPerBar)
    denominator := r.denominator
    startTempo := min 40000 (max 2000 r.startTempo)
    target := if r.targetTempo = 0 then none else some (min 40000 (max 2000 r.targetTempo))
    accents := r.accents.filter (· ≠ 1)
    vampExit := if r.kind = 1 then some (if r.vampExit = 0 then .atPassEnd else .atBarEnd) else none }

/-- R21, R53: a value of a carried segment lies outside its range. -/
def clampsSegment (r : RawSegment) : Prop :=
  (readBars (segmentKindOf r.kind) r.bars).2 = true ∨ r.beatsPerBar = 0 ∨ 15 < r.beatsPerBar ∨
    r.startTempo < 2000 ∨ 40000 < r.startTempo ∨
    (r.targetTempo ≠ 0 ∧ (r.targetTempo < 2000 ∨ 40000 < r.targetTempo))

theorem readSegment_eq_none : readSegment r = none ↔ badSegment r := by
  unfold readSegment badSegment
  rw [SegmentKind.ofCode_eq]
  by_cases hk : 3 < r.kind
  · simp [hk]
  · rw [if_neg hk]
    dsimp only
    rw [readVampExit_eq segmentKindOf_vamp]
    by_cases hx : r.kind = 1 ∧ 1 < r.vampExit
    · simp [hx]
    · rw [if_neg hx]
      dsimp only
      rw [ite_eq_right_iff]
      simp only [hk, hx, reduceCtorEq, imp_false, not_or, false_or, ne_eq]

theorem readSegment_eq_some (h : ¬ badSegment r) :
    ∃ clamped, (clamped = true ↔ clampsSegment r) ∧ readSegment r = some (storedSegment r, clamped) := by
  simp only [badSegment, not_or] at h
  obtain ⟨hk, hx, hd⟩ := h
  have hset : r.denominator = 2 ∨ r.denominator = 4 ∨ r.denominator = 8 ∨ r.denominator = 16 := by omega
  have tempo : ∀ x, clampTempo x ≠ x ↔ x < 2000 ∨ 40000 < x := fun x => clampTo_ne_iff (by decide)
  unfold readSegment
  rw [SegmentKind.ofCode_eq, if_neg hk]
  dsimp only
  rw [readVampExit_eq segmentKindOf_vamp, if_neg hx]
  dsimp only
  rw [if_pos hset]
  refine ⟨_, ?_, congrArg some (Prod.ext ?_ rfl)⟩
  · simp only [Bool.or_eq_true, Bool.and_eq_true, decide_eq_true_eq, tempo, clampTo_ne_iff (show 1 ≤ 15 by decide),
      Nat.lt_one_iff, or_assoc, clampsSegment, segmentKindOf]
  · simp only [storedSegment, segmentKindOf, clampTempo, clampTo, Nat.min_comm]

/-- R53: the bars of a stored segment by the kind carried. -/
theorem readBars_kind (kind bars : Nat) :
    (readBars (segmentKindOf kind) bars).1 =
        (if kind = 0 then some (min 999 (max 1 bars)) else if kind = 1 then some (min 16 (max 1 bars))
          else if kind = 2 ∧ bars ≠ 0 then some (min 999 bars) else none) ∧
      ((readBars (segmentKindOf kind) bars).2 = true ↔
        (kind = 0 ∧ (bars = 0 ∨ 999 < bars)) ∨ (kind = 1 ∧ (bars = 0 ∨ 16 < bars)) ∨ (kind = 2 ∧ 999 < bars)) := by
  have low : ∀ high, 1 ≤ high → (clampTo 1 high bars ≠ bars ↔ bars = 0 ∨ high < bars) := fun high hh => by
    rw [clampTo_ne_iff hh, Nat.lt_one_iff]
  rcases kind with _ | _ | _ | k
  · simp [segmentKindOf, readBars, ← low 999 (by decide), clampTo, Nat.min_comm]
  · simp [segmentKindOf, readBars, ← low 16 (by decide), clampTo, Nat.min_comm]
  · by_cases h : bars = 0 <;> simp [segmentKindOf, readBars, h]
  · simp [segmentKindOf, readBars]

end

/-! ## The obligation -/

/-- What refuses a cue, its fields and entries named apart, as R51 lists it. -/
theorem readCue_refused {r : RawCue} : readCue r = none ↔
    r.number = 0 ∨ 99999 < r.number ∨ 2 < r.goMode ∨ 2 < r.changePoint ∨ 257 < r.mapRef ∨ 24 < r.entries.length ∨
      (∃ x ∈ r.label ++ r.text, x < 32 ∨ 126 < x) ∨
      (∃ e ∈ r.entries, e.station = 0 ∨ 24 < e.station ∨ 1 < e.policy) ∨
      ¬ (r.entries.map RawPatchEntry.station).Nodup := by
  have text : ∀ t : Text, (∀ x ∈ t, 32 ≤ x ∧ x ≤ 126) ↔ ¬ ∃ x ∈ t, x < 32 ∨ 126 < x := fun t => by
    simp only [not_exists, not_and, not_or, not_lt]
  have both : (∃ x ∈ r.label ++ r.text, x < 32 ∨ 126 < x) ↔
      (∃ x ∈ r.label, x < 32 ∨ 126 < x) ∨ (∃ x ∈ r.text, x < 32 ∨ 126 < x) := by
    simp only [List.mem_append, or_and_right, exists_or]
  rw [readCue_eq_none, readAll_eq_none, fieldsOk, text, text, both]
  simp only [readEntry_eq_none, not_and_or, not_not, not_le, Nat.lt_one_iff, or_assoc, or_left_comm, or_comm]

/-- R51: the patch entries stored of a cue. -/
theorem storedCue_entries {r : RawCue} {es : List (PatchEntry × Bool)} (h : readAll readEntry r.entries = some es)
    (hone : (r.entries.map RawPatchEntry.station).Nodup) :
    (storedCue r es).entries.Pairwise (fun a b => a.station < b.station) ∧
      ∀ e, e ∈ (storedCue r es).entries ↔ ∃ x ∈ r.entries, e.station.val + 1 = x.station ∧
        e.patch = ⟨min 127 x.bank, min 127 x.program⟩ ∧ e.policy = (if x.policy = 0 then .now else .onRelease) ∧
        e.deferLimit = min 16 (max 1 x.deferLimit) := by
  refine ⟨sortEntries_pairwise ((readAll_stations h).mpr hone), fun e => ?_⟩
  show e ∈ sortEntries (es.map Prod.fst) ↔ _
  rw [mem_sortEntries, List.mem_map]
  constructor
  · rintro ⟨⟨e, clamped⟩, hmem, rfl⟩
    obtain ⟨x, hx, hr⟩ := (readAll_mem h _).mp hmem
    obtain ⟨-, hstation, hpatch, hpolicy, hdefer, -⟩ := readEntry_eq_some.mp hr
    exact ⟨x, hx, hstation, hpatch, hpolicy, hdefer⟩
  · rintro ⟨x, hx, hstation, hpatch, hpolicy, hdefer⟩
    have hle : x.policy ≤ 1 := by
      by_contra hout
      have := readAll_eq_none.mpr ⟨x, hx, readEntry_eq_none.mpr (.inr (.inr (not_le.mp hout)))⟩
      rw [h] at this
      cases this
    exact ⟨(e, _), (readAll_mem h _).mpr
      ⟨x, hx, readEntry_eq_some.mpr ⟨hle, hstation, hpatch, hpolicy, hdefer, rfl⟩⟩, rfl⟩

/-- Settles O15, from what `readCue` and `readSegment` store of a carried cue and segment. -/
theorem cueAndSegmentValues : Obligations.CueAndSegmentValues := by
  unfold Obligations.CueAndSegmentValues
  refine ⟨fun raw => ⟨readCue_refused, fun c clamped h => ?_⟩, fun raw => ⟨readSegment_eq_none, fun g clamped h => ?_⟩⟩
  · obtain ⟨es, hes, rfl, ⟨-, -, -, -, -, hone⟩, hclamp⟩ := readCue_eq_some h
    obtain ⟨hsorted, hmem⟩ := storedCue_entries hes hone
    exact ⟨rfl, rfl, rfl, rfl, Nat.min_comm _ _, rfl, rfl, rfl, hsorted, hmem, hclamp⟩
  · have hgood : ¬ badSegment raw := fun hb => by
      rw [readSegment_eq_none.mpr hb] at h
      cases h
    obtain ⟨flag, hflag, hr⟩ := readSegment_eq_some hgood
    obtain ⟨hbars, hbarsOut⟩ := readBars_kind raw.kind raw.bars
    rw [hr] at h
    cases h
    refine ⟨rfl, hbars, rfl, rfl, rfl, rfl, fun b => by simp [storedSegment], rfl, ?_⟩
    rw [hflag, clampsSegment, hbarsOut, or_assoc, or_assoc]

end Sys2Proof.Machine
end

section
/-! PROOFS. COMMIT_EDIT with the apply, and the queries of the book (O17, O18). -/

namespace Sys2Proof.Machine

variable {s : State} {tag : Nat}

/-! ## The apply (R60 to R62) -/

theorem State.setWarnedFrom_patches (s : State) (old : List Station) (n : Option Nat) (due : Sample) :
    (s.setWarnedFrom old n due).patches = s.patches :=
  forAll_patches (cueLampChange_patches old _ due) (s.mapCue fun c => { c with warned := n })

/-- R79: a setting of the warned cue changes the Cue Engine's record and the stations' channels. -/
theorem State.setWarnedFrom_eq (s : State) (old : List Station) (n : Option Nat) (due : Sample) :
    s.setWarnedFrom old n due =
      { s with cue := { s.cue with warned := n }, chan := (s.setWarnedFrom old n due).chan } := by
  have frame := s.setWarnedFrom_frame old n due
  have ports := s.setWarnedFrom_ports old n due
  have patches := s.setWarnedFrom_patches old n due
  generalize s.setWarnedFrom old n due = t at frame ports patches ⊢
  obtain ⟨time, click, cue, ctl, vin, vout, reports, pending⟩ := frame
  obtain ⟨port, emitted⟩ := ports
  cases t
  simp_all [State.mapCue]

/-- R60 to R62: an apply changes the Cue Engine, the stations' channels and the notices. -/
theorem State.applyEdit_eq (s : State) :
    s.applyEdit =
      { s with
        cue := s.cue.committed, chan := s.applyEdit.chan
        port := s.port.offer (s.cue.committedNotice s.time.S) } := by
  have found := s.cue.findStandby_buffer
  unfold State.applyEdit
  dsimp only
  rw [State.setWarnedFrom_eq]
  simp only [State.offer, State.setStandby, State.mapCue, CueEngine.replaceBook, CueEngine.committed,
    CueEngine.committedNotice, found]
  rfl

/-! ## COMMIT_EDIT (R58, R59) -/

theorem Book.fault_of_incomplete {b : Book} {m : MapEntry} {pre post : List MapEntry} (h : b.maps = pre ++ m :: post)
    (hpre : ∀ x ∈ pre, x.segments.length = x.declared) (hm : m.segments.length ≠ m.declared) :
    b.fault = some (.map m.number) := by
  have first : b.maps.find? (fun m => !m.complete) = some m := by
    rw [h, List.find?_append, List.find?_eq_none.mpr fun x hx => by simp [MapEntry.complete, hpre x hx]]
    simp [MapEntry.complete, hm]
  simp [Book.fault, Book.incompleteMap, first]

theorem Book.incompleteMap_of_complete {b : Book} (h : b.Complete) : b.incompleteMap = none := by
  simpa [Book.incompleteMap, MapEntry.complete, Book.Complete] using h

/-- R58: a cue lacks its map just where it names one the book does not hold. -/
theorem Book.lacksMapOf_iff {b : Book} {c : Cue} :
    b.lacksMapOf c = true ↔ ∃ k, c.mapRef = .map k ∧ ∀ m ∈ b.maps, m.number ≠ k := by
  unfold lacksMapOf
  cases c.mapRef <;> simp [Book.map?]

theorem Book.lacksMapOf_eq_false {b : Book} {c : Cue}
    (h : ∀ k, c.mapRef = .map k → ∃ m ∈ b.maps, m.number = k) : b.lacksMapOf c = false := by
  rw [← Bool.not_eq_true, lacksMapOf_iff]
  rintro ⟨k, hk, hno⟩
  obtain ⟨m, hm, hn⟩ := h k hk
  exact hno m hm hn

theorem Book.fault_of_lacking {b : Book} {c : Cue} {pre post : List Cue} {n : Nat} (hb : b.Complete)
    (h : b.cues = pre ++ c :: post) (hpre : ∀ x ∈ pre, ∀ k, x.mapRef = .map k → ∃ m ∈ b.maps, m.number = k)
    (hc : c.mapRef = .map n) (hn : ∀ m ∈ b.maps, m.number ≠ n) : b.fault = some (.cue c.number) := by
  have lacks : b.lacksMapOf c = true := lacksMapOf_iff.mpr ⟨n, hc, hn⟩
  have first : b.cues.find? (fun c => b.lacksMapOf c) = some c := by
    rw [h, List.find?_append, List.find?_eq_none.mpr fun x hx => by simp [lacksMapOf_eq_false (hpre x hx)]]
    simp [lacks]
  simp [Book.fault, incompleteMap_of_complete hb, Book.cueWithoutMap, first]

theorem Book.fault_of_valid {b : Book} (hb : b.Complete)
    (h : ∀ x ∈ b.cues, ∀ k, x.mapRef = .map k → ∃ m ∈ b.maps, m.number = k) : b.fault = none := by
  have none_lacks : b.cues.find? (fun c => b.lacksMapOf c) = none :=
    List.find?_eq_none.mpr fun x hx => by simp [lacksMapOf_eq_false (h x hx)]
  simp [Book.fault, incompleteMap_of_complete hb, Book.cueWithoutMap, none_lacks]

theorem CueEngine.slotsEmpty_iff {c : CueEngine} : c.slotsEmpty = true ↔ c.inFlight = none ∧ c.queued = none := by
  simp [slotsEmpty]

theorem actCommitEdit_fault {d : Detail} (h : s.cue.buffer.fault = some d) :
    actCommitEdit s = (s, .refused .badValue d) := by simp [actCommitEdit, h]

theorem actCommitEdit_waits (h : s.cue.buffer.fault = none) (hslots : s.cue.inFlight ≠ none ∨ s.cue.queued ≠ none) :
    actCommitEdit s =
      ({ s with cue := { s.cue with edit := .pendingApply } }, .ok false (.commit .pendingApply)) := by
  have : ¬ s.cue.slotsEmpty = true := by rw [CueEngine.slotsEmpty_iff]; tauto
  simp [actCommitEdit, h, this, State.mapCue]

theorem actCommitEdit_applies (h : s.cue.buffer.fault = none) (hf : s.cue.inFlight = none) (hq : s.cue.queued = none) :
    actCommitEdit s = (s.applyEdit, .ok false (.commit .applied)) := by
  simp [actCommitEdit, h, CueEngine.slotsEmpty_iff.mpr ⟨hf, hq⟩]

/-- Settles O17: the three ends of a COMMIT_EDIT in OPEN, and the state of the part after the apply. -/
theorem commitRequestsJudged : Obligations.CommitRequestsJudged := by
  intro s tag hadm hopen
  have run : ∀ {t : State} {a : Answer}, actCommitEdit s.taken = (t, a) → a ≠ .deferred →
      exec (.commitEdit tag) s = .next (t.replied 0x15 tag a) := fun h hnow =>
    exec_request_replied (i := .commitEdit tag) rfl rfl hadm
      ((State.whenOpen_open (s.taken_edit.trans hopen) _).trans h) hnow
  refine ⟨fun m pre post hmaps hpre hm => ?_, fun c pre post n hb hcues hpre hc hn => ?_, fun hb hvalid => ⟨fun hslots => ?_,
    fun hf hq => ?_⟩⟩
  · refine run (actCommitEdit_fault ?_) nofun
    rw [State.taken_buffer]
    exact Book.fault_of_incomplete hmaps hpre hm
  · refine run (actCommitEdit_fault ?_) nofun
    rw [State.taken_buffer]
    exact Book.fault_of_lacking hb hcues hpre hc hn
  · refine run (actCommitEdit_waits ?_ ?_) nofun
    · rw [State.taken_buffer]
      exact Book.fault_of_valid hb hvalid
    · rwa [State.taken_inFlight, State.taken_queued]
  · have act : actCommitEdit s.taken = (s.taken.applyEdit, .ok false (.commit .applied)) :=
      actCommitEdit_applies (by rw [State.taken_buffer]; exact Book.fault_of_valid hb hvalid)
        (s.taken_inFlight.trans hf) (s.taken_queued.trans hq)
    have found : s.taken.cue.foundStandby =
        s.cue.standby.bind fun n =>
          if ∃ c ∈ s.cue.buffer.cues, c.number = n then some n else s.cue.buffer.numberAfter n := by
      rw [CueEngine.foundStandby, State.taken_standby, State.taken_buffer]
      cases s.cue.standby <;> rfl
    have ch := s.taken.applyEdit_ch
    rw [State.applyEdit_eq] at act ch
    refine ⟨_, run act nofun, ?_, ?_, ?_, s.taken_time, s.taken_click, rfl, s.taken_patches, s.taken_vin,
      s.taken_vout, s.taken_reports, s.taken_emitted, s.taken_pending⟩
    · show s.taken.cue.committed = _
      simp only [CueEngine.committed, found, State.taken_buffer, State.taken_serial]
      rfl
    · show ((s.taken.port.offer _).answer _).arbitrate = _
      simp only [CueEngine.committedNotice, found, State.taken_buffer, State.taken_serial, State.taken_standby,
        State.taken_time]
    · intro n
      refine (ch n).trans ?_
      simp only [Channel.warnSet, found, State.taken_buffer, State.taken_book, State.taken_warned, State.taken_time,
        State.ch_taken]

/-! ## CUE_QUERY (R64, R83) -/

/-- R64: the book a source names. -/
theorem State.fromSource_book {source : Nat} {book : Book} {act : Bool → Book → State × Answer}
    (h : (source = 0 ∧ book = s.cue.book) ∨ (source = 1 ∧ s.cue.edit ≠ .closed ∧ book = s.cue.buffer)) :
    s.fromSource source act = act (decide (source = 1)) book := by
  rcases h with ⟨rfl, rfl⟩ | ⟨rfl, he, rfl⟩
  · rfl
  · exact if_neg he

theorem State.fromSource_refused {source : Nat} {act : Bool → Book → State × Answer}
    (h : (source = 1 ∧ s.cue.edit = .closed) ∨ 2 ≤ source) :
    s.fromSource source act = refuse s (if source = 1 then .editNotOpen else .badValue) := by
  rcases h with ⟨rfl, he⟩ | h
  · exact if_pos he
  · obtain ⟨k, rfl⟩ := Nat.exists_eq_add_of_le' h
    rfl

section
variable {i : Instr} {source : Nat} {book : Book} {act : State → Bool → Book → State × Answer}

/-- R64: a subject read from the book its source names. -/
theorem exec_query {a : Answer} (hr : requestOf i = some ⟨0x1B, tag, true, fun s => s.fromSource source (act s)⟩)
    (hadm : s.admits tag)
    (h : (source = 0 ∧ book = s.cue.book) ∨ (source = 1 ∧ s.cue.edit ≠ .closed ∧ book = s.cue.buffer))
    (hact : act s.taken (decide (source = 1)) book = (s.taken, a)) (hnow : a ≠ .deferred) :
    exec i s = .next (s.taken.replied 0x1B tag a) :=
  exec_request_replied hr rfl hadm
    ((State.fromSource_book (by rwa [State.taken_book, State.taken_edit, State.taken_buffer])).trans hact) hnow

theorem exec_query_refused (hr : requestOf i = some ⟨0x1B, tag, true, fun s => s.fromSource source (act s)⟩)
    (hadm : s.admits tag) (h : (source = 1 ∧ s.cue.edit = .closed) ∨ 2 ≤ source) :
    exec i s = .next (s.refusedWith 0x1B tag (if source = 1 then .editNotOpen else .badValue)) :=
  exec_refused hr rfl hadm (State.fromSource_refused (by rwa [State.taken_edit]))

end

/-- A map entry's answer, or NOT_FOUND (R64). -/
def mapReply (s : State) (m : Option MapEntry) (first : Nat) : State × Answer :=
  match m with
  | some m => (s, .ok false (.map (m.record first)))
  | none => refuse s .notFound

/-- R83: the RUN record of a state whose request has been taken: the mode is REMOTE. -/
theorem State.taken_runRecord (s : State) :
    s.taken.runRecord = { s.runRecord with mode := .remote, localEntry := s.taken.cue.localEntry } := by
  have hcue := s.taken_cue
  obtain ⟨entry, hentry⟩ : ∃ entry, entry = s.taken.cue.localEntry := ⟨_, rfl⟩
  rw [← hentry] at hcue ⊢
  simp only [State.runRecord, hcue, State.taken_ctl_state, State.taken_click]

theorem State.taken_summary (s : State) (edit : Bool) (b : Book) : s.taken.summary edit b = s.summary edit b := by
  have hcue := s.taken_cue
  obtain ⟨entry, hentry⟩ : ∃ entry, entry = s.taken.cue.localEntry := ⟨_, rfl⟩
  rw [← hentry] at hcue
  simp only [State.summary, hcue]

/-- Settles O18: each subject's owner reads the book its source names. -/
theorem bookQueries : Obligations.BookQueries := by
  intro s tag hadm ok no
  refine ⟨fun source book h => ⟨?_, fun n => ?_, fun n => ?_, fun m k => ?_⟩,
    fun source h => ⟨?_, fun n => ?_, fun n => ?_, fun m k => ?_⟩, fun source => ?_⟩
  · refine (exec_query (i := .cueQuerySummary tag source)
      (a := .ok false (.summary (s.summary (decide (source = 1)) book)))
      (act := fun s edit b => (s, .ok false (.summary (s.summary edit b)))) rfl hadm h
      (by simp only [State.taken_summary]) nofun).trans ?_
    simp only [ok, State.summary, MapEntry.complete, decide_eq_true_eq, decide_not, Book.counts]
  · cases hc : book.cues.find? fun c => decide (c.number = n)
    all_goals
      exact exec_query (i := .cueQueryCue tag source n) (act := fun s _ b => cueReply s (b.cue? n)) rfl hadm h
        (congrArg (cueReply s.taken) hc) nofun
  · cases hc : book.cues.find? fun c => decide (n < c.number)
    all_goals
      exact exec_query (i := .cueQueryNextCue tag source n) (act := fun s _ b => cueReply s (b.after n)) rfl hadm h
        (congrArg (cueReply s.taken) hc) nofun
  · have query : ∀ {a : Answer}, mapReply s.taken (book.map? m) k = (s.taken, a) → a ≠ .deferred →
        exec (.cueQueryMap tag source m k) s = .next (s.taken.replied 0x1B tag a) := fun hact hnow =>
      exec_query (i := .cueQueryMap tag source m k) (act := fun s _ b => mapReply s (b.map? m) k) rfl hadm h hact hnow
    cases hm : book.maps.find? fun e => decide (e.number = m) with
    | none => exact query (congrArg (mapReply s.taken · k) hm) nofun
    | some e =>
      refine (query (congrArg (mapReply s.taken · k) hm) nofun).trans ?_
      simp only [ok, MapEntry.record, MapEntry.complete, decide_eq_true_eq]
  · exact exec_query_refused (i := .cueQuerySummary tag source)
      (act := fun s edit b => (s, .ok false (.summary (s.summary edit b)))) rfl hadm h
  · exact exec_query_refused (i := .cueQueryCue tag source n) (act := fun s _ b => cueReply s (b.cue? n)) rfl hadm h
  · exact exec_query_refused (i := .cueQueryNextCue tag source n) (act := fun s _ b => cueReply s (b.after n)) rfl
      hadm h
  · exact exec_query_refused (i := .cueQueryMap tag source m k) (act := fun s _ b => mapReply s (b.map? m) k) rfl
      hadm h
  · refine (exec_request_replied (i := .cueQueryRun tag source) rfl rfl hadm rfl nofun).trans ?_
    rw [State.taken_runRecord]
    rfl

end Sys2Proof.Machine
end

section
/-! PROOFS. The tests a call meets, and LOCKOUT_SET, SILENCE_SET, RELEASE and SILENCE_END (O19, O23). -/

namespace Sys2Proof.Machine

variable {s : State} {tag : Nat}

/-! ## Judging a call (R66 to R68) -/

/-- R66: a call meets an open show. -/
def State.callsOpen (s : State) : Prop := s.ctl.state = .preshow ∨ s.ctl.state = .running

/-- R68: the lockout of the last call stands. -/
def State.locked (s : State) : Prop := ∃ x, s.cue.lockoutEnd = some x ∧ s.time.S < x

theorem State.locked_iff : s.locked ↔ (s.cue.lockoutEnd.map fun x => decide (s.time.S < x)) = some true := by
  unfold locked
  cases s.cue.lockoutEnd <;> simp

theorem State.callRefusal_closed {found : Bool} (h : ¬ s.callsOpen) : s.callRefusal found = some .wrongState :=
  if_pos (by simpa [callsOpen] using h)

/-- R66: in an open show with no lockout, what refuses a call is the cue it lacks or the slots. -/
theorem State.callRefusal_open (h : s.callsOpen) (found : Bool) :
    s.callRefusal found =
      if (s.cue.lockoutEnd.map fun x => decide (s.time.S < x)) = some true then some .debounced
      else if found = false then some .notFound
      else if s.cue.inFlight.isSome ∧ s.cue.queued.isSome then some .goQueueFull
      else none :=
  if_neg fun ⟨hp, hr⟩ => h.elim hp hr

theorem State.callRefusal_locked (h : s.callsOpen) (hl : s.locked) (found : Bool) :
    s.callRefusal found = some .debounced := by
  rw [callRefusal_open h, if_pos (locked_iff.mp hl)]

theorem State.callRefusal_notFound (h : s.callsOpen) (hl : ¬ s.locked) : s.callRefusal false = some .notFound := by
  rw [callRefusal_open h, if_neg (mt locked_iff.mpr hl), if_pos rfl]

theorem State.callRefusal_full (h : s.callsOpen) (hl : ¬ s.locked) (hf : s.cue.inFlight ≠ none)
    (hq : s.cue.queued ≠ none) : s.callRefusal true = some .goQueueFull := by
  rw [callRefusal_open h, if_neg (mt locked_iff.mpr hl), if_neg nofun,
    if_pos ⟨Option.isSome_iff_ne_none.mpr hf, Option.isSome_iff_ne_none.mpr hq⟩]

theorem State.callRefusal_taken (h : s.callsOpen) (hl : ¬ s.locked) (hfree : s.cue.inFlight = none ∨ s.cue.queued = none) :
    s.callRefusal true = none := by
  rw [callRefusal_open h, if_neg (mt locked_iff.mpr hl), if_neg nofun, if_neg]
  rintro ⟨hf, hq⟩
  rcases hfree with h | h
  · simp [h] at hf
  · simp [h] at hq

theorem State.taken_callRefusal (s : State) (found : Bool) : s.taken.callRefusal found = s.callRefusal found := by
  simp only [callRefusal, taken_ctl_state, taken_lockoutEnd, taken_time, taken_inFlight, taken_queued]

theorem State.taken_goTarget (s : State) (n : Nat) : s.taken.cue.goTarget n = s.cue.goTarget n := by
  simp only [CueEngine.goTarget, taken_standby, taken_book]

theorem actCall_refused {target : Option Cue} {r : Reason} (h : s.callRefusal target.isSome = some r) :
    actCall target s = refuse s r := by
  unfold actCall
  split
  next _ hn => rw [h] at hn; cases hn
  next hr => rw [h] at hr; cases hr; rfl
  next hn => rw [h] at hn; cases hn

theorem actCall_taken {c : Cue} (h : s.callRefusal true = none) :
    actCall (some c) s = (settle (s.takeCall c .host), .ok false (firedReply s (s.takeCall c .host) c)) := by
  unfold actCall
  split
  next hc => cases hc; rfl
  next hr => rw [Option.isSome_some, h] at hr; cases hr
  next hc => cases hc

/-- R66, R67: a GO or GOTO with a number in its range, its kind, and the cue it would fire. -/
def callOf (s : State) (tag n : Nat) (call : Instr) (kind : Nat) (target : Option Cue) : Prop :=
  (call = .go tag n ∧ kind = 0x18 ∧ n ≤ 99999 ∧ target = s.cue.goTarget n) ∨
    (call = .goto tag n ∧ kind = 0x19 ∧ 1 ≤ n ∧ n ≤ 99999 ∧ target = s.cue.book.cue? n)

theorem exec_call {n kind : Nat} {call : Instr} {target : Option Cue} {t : State} {a : Answer} (hadm : s.admits tag)
    (h : callOf s tag n call kind target) (hact : actCall target s.taken = (t, a)) (hnow : a ≠ .deferred) :
    exec call s = .next (t.replied kind tag a) := by
  rcases h with ⟨rfl, rfl, hn, rfl⟩ | ⟨rfl, rfl, h1, hn, rfl⟩
  · refine exec_request_replied (i := .go tag n) rfl rfl hadm ?_ hnow
    rw [← State.taken_goTarget] at hact
    exact (if_neg (Nat.not_lt.mpr hn)).trans hact
  · refine exec_request_replied (i := .goto tag n) rfl rfl hadm ?_ hnow
    rw [← State.taken_book] at hact
    refine (if_neg ?_).trans hact
    rintro (h0 | h0)
    · exact absurd h0 (Nat.one_le_iff_ne_zero.mp h1)
    · exact absurd hn (Nat.not_le.mpr h0)

/-- Settles O19: the range of the number, then the four tests of `callRefusal` in their order. -/
theorem callsRefused : Obligations.CallsRefused := by
  intro s tag n hadm
  refine ⟨fun h => ?_, fun h => ?_, fun call kind target hcall => ?_⟩
  · exact exec_refused (i := .go tag n) rfl rfl hadm (if_pos h)
  · exact exec_refused (i := .goto tag n) rfl rfl hadm (if_pos h)
  · have refused : ∀ {r : Reason}, s.callRefusal target.isSome = some r → exec call s = .next (s.refusedWith kind tag r) :=
      fun h => exec_call hadm hcall (actCall_refused ((s.taken_callRefusal _).trans h)) nofun
    refine ⟨fun h => refused (State.callRefusal_closed h), fun h hl => refused (State.callRefusal_locked h hl _),
      fun h hl ht => refused ?_, fun h hl ht hf hq => refused ?_⟩
    · rw [ht]
      exact State.callRefusal_notFound h hl
    · rw [Option.isSome_iff_ne_none.mpr ht]
      exact State.callRefusal_full h hl hf hq

/-! ## LOCKOUT_SET, SILENCE_SET, RELEASE (R68, R76, R80) -/

/-- R37, R39: a position is near a kind where the current segment or the one after it is of that kind. -/
theorem ClickEngine.near_iff {e : ClickEngine} {k : SegmentKind} :
    (e.context.map fun c => c.isNear k).getD false = true ↔ ∃ c g, e.context = some c ∧ g.kind = k ∧
      (c.segments[c.currentIndex]? = some g ∨ c.segments[c.currentIndex + 1]? = some g) := by
  have kind : ∀ o : Option Segment, o.map Segment.kind = some k ↔ ∃ g, g.kind = k ∧ o = some g := fun o => by
    rw [Option.map_eq_some_iff]
    exact exists_congr fun g => and_comm
  cases e.context with
  | none => simp
  | some c =>
    simp only [Option.map_some, Option.getD_some, Context.isNear, decide_eq_true_eq, kind, Option.some.injEq,
      exists_and_left, exists_eq_left', and_or_left, exists_or]

theorem ClickEngine.accepts_iff {e : ClickEngine} :
    e.accepts = true ↔ ∃ c g, e.context = some c ∧ g.kind = .vamp ∧
      (c.segments[c.currentIndex]? = some g ∨ c.segments[c.currentIndex + 1]? = some g) := near_iff

theorem actRelease_accepted (h : s.click.accepts = true) :
    actRelease s = ({ s with click := { s.click with release := true } }, .ok false .empty) := by
  simp [actRelease, State.release, h, State.mapClick]

theorem actRelease_refused (h : ¬ s.click.accepts = true) : actRelease s = refuse s .notVamping := by
  simp [actRelease, State.release, h]

/-! ## SILENCE_END (R80, R81) -/

/-- R80: the expiry of the host-silence timer acts. -/
theorem State.silenceActs_iff :
    s.silenceActs = true ↔ s.cue.mode = .remote ∧ s.ctl.silenceLimit ≠ 0 ∧ s.ctl.state ≠ .dark := by
  simp [silenceActs]

theorem execSilenceEnd_acts {x : Sample} (h : s.silenceActs = true) (hx : s.ctl.silenceEnd = some x)
    (hle : x ≤ s.time.S) :
    exec .silenceEnd s = .next ((State.enterLocal (s.quiet.atS (s.takenAt x))).atS s.time.S).done :=
  command_at (act := actSilenceEnd)
    ((if_pos (show s.quiet.silenceActs = true from h)).trans
      (congrArg (fun v => s.quiet.whenReached v State.enterLocal) hx)) hle

theorem execSilenceEnd_idle (h : ¬ s.silenceActs = true) : exec .silenceEnd s = .next s.quiet.done :=
  command_idle (act := actSilenceEnd) (if_neg (show ¬ s.quiet.silenceActs = true from h))

/-- Settles O23. -/
theorem lockoutReleaseSilence : Obligations.LockoutReleaseSilence := by
  intro s tag k hadm
  refine ⟨exec_request_replied (i := .lockoutSet tag k) rfl rfl hadm rfl nofun, ?_, fun h => ?_, fun h => ?_,
    fun x hx hle hmode hlim hdark => ?_, fun h => ?_⟩
  · refine (exec_request_replied (i := .silenceSet tag k) rfl rfl hadm rfl nofun).trans ?_
    simp only [State.restartSilence, State.mapCtl, State.taken_ctl, State.taken_time]
  · have act := actRelease_accepted (s := s.taken) (by rwa [State.taken_click, ClickEngine.accepts_iff])
    rw [State.taken_click] at act
    exact exec_request_replied (i := .release tag) rfl rfl hadm act nofun
  · refine exec_refused (i := .release tag) rfl rfl hadm (actRelease_refused ?_)
    rw [State.taken_click, ClickEngine.accepts_iff]
    rintro ⟨c, g, hc, hg, near⟩
    obtain ⟨here, after⟩ := h c g hc hg
    exact near.elim here after
  · exact execSilenceEnd_acts (State.silenceActs_iff.mpr ⟨hmode, hlim, hdark⟩) hx hle
  · refine execSilenceEnd_idle ?_
    rw [State.silenceActs_iff]
    rintro ⟨hmode, hlim, hdark⟩
    rcases h with h | h | h
    · simp [h] at hmode
    · exact hlim h
    · exact hdark h

end Sys2Proof.Machine
end

section
/-! PROOFS. The Patch Tracker: entries taken, their timers, and what status frames report (O24 to O26). -/

namespace Sys2Proof.Machine

variable {s : State} {n : Station}

/-! ## One station written -/

theorem State.setCh_setPatch (s : State) (n : Station) (c : Channel) (p : PatchRecord) :
    (s.setCh n c).setPatch n p = s.written n c p s.port s.emitted := rfl

theorem State.setPatch_written (s : State) (n : Station) (p : PatchRecord) :
    s.setPatch n p = s.written n (s.ch n) p s.port s.emitted := by
  conv_lhs => rw [← s.written_self n]
  exact s.written_setPatch ..

theorem State.setCh_written (s : State) (n : Station) (c : Channel) :
    s.setCh n c = s.written n c (s.patchOf n) s.port s.emitted := by
  conv_lhs => rw [← s.written_self n]
  exact s.written_setCh ..

theorem State.sendPatch_written (s : State) (n : Station) (patch : Patch) (due : Sample) (force : Bool) (cp : Sample) :
    s.sendPatch n patch due force cp =
      s.written n ((s.ch n).handed (.patch due patch force (((s.patchOf n).serial + 1) % 256)))
        ((s.patchOf n).sent patch due force cp (s.ch n).link.lead) s.port s.emitted := by
  conv_lhs => rw [← s.written_self n]
  exact s.written_sendPatch ..

theorem Channel.isUp_iff {c : Channel} : c.isUp = true ↔ c.link.state = .up := by simp [isUp]

theorem Channel.isRig_iff {c : Channel} :
    c.isRig = true ↔ (c.assigned.role = .player ∨ c.assigned.role = .md) ∧ c.assigned.kind = .rig := by
  unfold isRig inUse
  cases c.assigned.role <;> simp

/-! ## The hand-over (R86 to R88) -/

section
variable {c0 : Sample} {e : PatchEntry}

theorem State.takeEntry_passed (h : ¬ (s.ch e.station).isRig = true) : s.takeEntry c0 e = s := by
  simp [takeEntry, h]

/-- R87: the patch of an entry is confirmed already, with nothing pending. -/
theorem PatchRecord.knows_iff {p : PatchRecord} {x : Patch} :
    (p.entry.isNone && decide (p.confirmed = some x)) = true ↔ p.entry = none ∧ p.confirmed = some x := by simp

theorem State.takeEntry_down (hr : (s.ch e.station).isRig = true) (hu : ¬ (s.ch e.station).isUp = true) :
    s.takeEntry c0 e =
      s.setPatch e.station { s.patchOf e.station with expected := some e.patch, entry := none } := by
  simp [takeEntry, hr, hu]

/-- R87, R88: an entry for a RIG in use on an UP link. -/
theorem State.takeEntry_up (hr : (s.ch e.station).isRig = true) (hu : (s.ch e.station).isUp = true) :
    s.takeEntry c0 e =
      if ((s.patchOf e.station).entry.isNone && decide ((s.patchOf e.station).confirmed = some e.patch)) = true then
        s.setPatch e.station { s.patchOf e.station with expected := some e.patch }
      else if e.policy = .now ∨ (s.patchOf e.station).held = .clear then
        s.sendPatch e.station e.patch c0 false c0
      else
        (s.setPatch e.station
          { s.patchOf e.station with
            expected := some e.patch
            entry := some ⟨e.patch, c0, .waitingRelease e.deferLimit (c0 + 24000) none⟩ }).mapLink e.station
          Link.withdrawPatch := by
  simp [takeEntry, hr, hu, Config.idleBeat]

end

/-- Settles O24: `takeEntry` by the station's role and link, what it knows, and the entry's policy. -/
theorem patchEntriesTaken : Obligations.PatchEntriesTaken := by
  intro s c0 e
  dsimp only
  rw [← Channel.isRig_iff]
  simp only [← Channel.isUp_iff, ne_eq]
  refine ⟨State.takeEntry_passed, State.takeEntry_down, fun hr hu hk => ?_, fun hr hu hk hp => ?_,
    fun hr hu hk hp hh => ?_⟩
  · rw [State.takeEntry_up hr hu, if_pos (PatchRecord.knows_iff.mpr hk)]
  · rw [State.takeEntry_up hr hu, if_neg (mt PatchRecord.knows_iff.mp hk), if_pos hp, State.sendPatch_written,
      State.setCh_setPatch]
    rfl
  · rw [State.takeEntry_up hr hu, if_neg (mt PatchRecord.knows_iff.mp hk), if_neg (by simp [hp, hh]),
      State.setPatch_written, State.written_mapLink, State.setCh_setPatch]
    rfl

/-! ## The timers (R89 to R91) -/

section
variable {patch : Patch} {cp : Sample}

theorem actIdleMark_waiting {k : Nat} {im : Sample} {dl : Option Sample}
    (h : (s.patchOf n).entry = some ⟨patch, cp, .waitingRelease k im dl⟩) :
    actIdleMark n s =
      s.setPatch n
        { s.patchOf n with
          entry := some ⟨patch, cp, .waitingRelease (if s.click.state.idles then countedBeat k im dl else (k, dl)).1
            (im + 24000) (if s.click.state.idles then countedBeat k im dl else (k, dl)).2⟩ } := by
  simp only [actIdleMark, h, Config.idleBeat]

theorem State.idleMarkOf_eq {k : Nat} {im : Sample} {dl : Option Sample}
    (h : (s.patchOf n).entry = some ⟨patch, cp, .waitingRelease k im dl⟩) : s.idleMarkOf n = some im := by
  simp only [idleMarkOf, h]

theorem State.deadlineOf_eq {k : Nat} {im : Sample} {dl : Option Sample}
    (h : (s.patchOf n).entry = some ⟨patch, cp, .waitingRelease k im dl⟩) : s.deadlineOf n = dl := by
  simp only [deadlineOf, h]

theorem State.ackEndOf_eq {due : Sample} {force : Bool} {serial : Nat} {a : Sample}
    (h : (s.patchOf n).entry = some ⟨patch, cp, .sent due force serial a⟩) : s.ackEndOf n = some a := by
  simp only [ackEndOf, h]

theorem EngineState.idles_iff {e : EngineState} : e.idles = true ↔ e = .silent ∨ e = .free ∨ e = .waitTap := by
  cases e <;> simp [idles]

/-- R89: what an idle mark counts. -/
theorem idleCount (idles : Prop) [Decidable idles] (k : Nat) (im : Sample) (dl : Option Sample) :
    (if idles then countedBeat k im dl else (k, dl)) =
      (if idles then k - 1 else k, if idles ∧ k = 1 then some im else if idles ∧ k ≠ 0 then none else dl) := by
  by_cases h : idles
  · rcases k with _ | _ | k <;> simp [h, countedBeat]
  · simp [h]

theorem actPatchDeadline_up {e : PendingEntry} (h : (s.patchOf n).entry = some e) (hu : (s.ch n).link.state = .up) :
    actPatchDeadline n s =
      (s.sendWaiting n e true).patchState n .forced .sent
        ⟨e.patch, e.changePoint, .sent (s.waitDue n e) true (((s.patchOf n).serial + 1) % 256)
          (s.waitDue n e + (s.ch n).link.lead + 960)⟩ := by
  have sent : ((s.sendWaiting n e true).patchOf n).entry =
      some ⟨e.patch, e.changePoint, .sent (s.waitDue n e) true (((s.patchOf n).serial + 1) % 256)
        (s.waitDue n e + (s.ch n).link.lead + 960)⟩ := by
    rw [State.sendWaiting, State.sendPatch_written, State.written_patchOf]
    rfl
  simp only [actPatchDeadline, h, Channel.isUp_iff.mpr hu, if_true, sent]

theorem actPatchDeadline_down {e : PendingEntry} (h : (s.patchOf n).entry = some e) (hu : (s.ch n).link.state ≠ .up) :
    actPatchDeadline n s = s := by
  simp only [actPatchDeadline, h, mt Channel.isUp_iff.mp hu, Bool.false_eq_true, if_false]

theorem actAckTimeout_sent {due : Sample} {force : Bool} {serial : Nat} {a : Sample}
    (h : (s.patchOf n).entry = some ⟨patch, cp, .sent due force serial a⟩) :
    actAckTimeout n s =
      (s.setPatch n { s.patchOf n with entry := some ⟨patch, cp, .unconfirmed due force serial⟩ }).patchState n
        .ackTimeout .unconfirmed ⟨patch, cp, .unconfirmed due force serial⟩ := by
  simp only [actAckTimeout, h]

end

/-- Settles O25: each timer's act at the sample it waited for. -/
theorem patchTimers : Obligations.PatchTimers := by
  intro s n patch cp x hx
  refine ⟨fun k dl h => ?_, fun k im h => ⟨fun hu => ?_, fun hu => ?_⟩, fun due force serial h => ?_⟩
  · refine (command_reached (v := fun s => s.idleMarkOf n) (State.idleMarkOf_eq (s := s.quiet) h) hx).trans ?_
    rw [actIdleMark_waiting (s := s.quiet.atS (s.takenAt x)) h, idleCount]
    simp only [EngineState.idles_iff]
    rfl
  · refine (command_reached (v := fun s => s.deadlineOf n) (State.deadlineOf_eq (s := s.quiet) h) hx).trans ?_
    rw [actPatchDeadline_up (s := s.quiet.atS (s.takenAt x)) h hu, State.sendWaiting, State.sendPatch_written]
    rfl
  · refine (command_reached (v := fun s => s.deadlineOf n) (State.deadlineOf_eq (s := s.quiet) h) hx).trans ?_
    rw [actPatchDeadline_down (s := s.quiet.atS (s.takenAt x)) h hu]
    rfl
  · refine (command_reached (v := fun s => s.ackEndOf n) (State.ackEndOf_eq (s := s.quiet) h) hx).trans ?_
    rw [actAckTimeout_sent (s := s.quiet.atS (s.takenAt x)) h]
    rfl

/-! ## Reports (R85, R90, R92, R93) -/

theorem PatchRecord.mismatched_iff {p : PatchRecord} {x : Patch} :
    ({ p with confirmed := some x } : PatchRecord).mismatched = true ↔ p.expected ≠ none ∧ p.expected ≠ some x := by
  simp [mismatched, Option.isSome_iff_ne_none, eq_comm (a := some x)]

section
variable (s n) (c : Channel) {p : PatchRecord} (q : ControlPort) (es : List Emission) {x : Patch} {k : Nat}
  {e : PendingEntry}

/-- The port after a report of patch `x` that settles a record: a mismatch is reported. -/
def ControlPort.settled (q : ControlPort) (n : Station) (p : PatchRecord) (x : Patch) (m : MismatchCause)
    (y : Sample) : ControlPort :=
  if p.expected ≠ none ∧ p.expected ≠ some x then q.offer (.patchMismatch n m y (some x) p.expected) else q

/-- R92, R93: a record settled with a patch reported, and its mismatch. -/
theorem State.written_settled (m : MismatchCause) (r : PatchRecord) (hc : r.confirmed = some x)
    (he : r.expected = p.expected) :
    (if ({ p with confirmed := some x } : PatchRecord).mismatched = true then (s.written n c r q es).patchMismatch n m
      else s.written n c r q es) = s.written n c r (q.settled n p x m s.time.S) es := by
  simp only [PatchRecord.mismatched_iff, ControlPort.settled]
  split
  · rw [written_patchMismatch, hc, he]
  · rfl

theorem State.written_patchDone_none (h : p.entry = none) :
    State.patchDone n (s.written n c p q es) (x, k) =
      s.written n c { p with confirmed := some x } (q.settled n p x .done s.time.S) es := by
  simp only [patchDone, written_patchOf, written_setPatch, h]
  exact written_settled _ _ _ _ _ _ _ rfl rfl

theorem State.written_patchDone_waiting {b : Nat} {im : Sample} {dl : Option Sample} (h : p.entry = some e)
    (hph : e.phase = .waitingRelease b im dl) :
    State.patchDone n (s.written n c p q es) (x, k) =
      s.written n c
        (if p.expected = some x then { p with confirmed := some x, entry := none } else { p with confirmed := some x })
        q es := by
  simp only [patchDone, written_patchOf, written_setPatch, h, hph, eq_comm (a := some x)]
  split <;> rfl

theorem State.written_patchDone_sent {due : Sample} {force : Bool} {serial : Nat} {a : Sample} (h : p.entry = some e)
    (hph : e.phase = .sent due force serial a) :
    State.patchDone n (s.written n c p q es) (x, k) =
      s.written n c
        (if k = serial then { p with confirmed := some x, entry := none } else { p with confirmed := some x })
        (if k = serial then q.settled n p x .done s.time.S else q) es := by
  simp only [patchDone, written_patchOf, written_setPatch, h, hph]
  split
  · exact written_settled _ _ _ _ _ _ _ rfl rfl
  · rfl

theorem State.written_patchDone_unconfirmed {due : Sample} {force : Bool} {serial : Nat} (h : p.entry = some e)
    (hph : e.phase = .unconfirmed due force serial) :
    State.patchDone n (s.written n c p q es) (x, k) =
      s.written n c
        (if k = serial then { p with confirmed := some x, entry := none } else { p with confirmed := some x })
        (if k = serial then
          (q.settled n p x .done s.time.S).offer (.patchState n .lateDone s.time.S .none_ e.patch (some (due, serial)))
        else q) es := by
  simp only [patchDone, written_patchOf, written_setPatch, h, hph]
  split
  · refine (congrArg (fun t => patchState t n .lateDone .none_ e)
      (written_settled s n c (p := p) q es .done { p with confirmed := some x, entry := none } rfl rfl)).trans ?_
    rw [written_patchState, hph]
    rfl
  · rfl

theorem State.written_localChange_none (h : p.entry = none) :
    (s.written n c p q es).localChange n x =
      s.written n c { p with confirmed := some x } (q.settled n p x .local_ s.time.S) es := by
  simp only [localChange, written_patchOf, written_setPatch, h]
  exact written_settled _ _ _ _ _ _ _ rfl rfl

theorem State.written_localChange_pending (h : p.entry = some e) :
    (s.written n c p q es).localChange n x =
      s.written n c
        (if e.phase.isSent = false ∧ e.patch = x then { p with confirmed := some x, entry := none }
          else { p with confirmed := some x }) q es := by
  simp only [localChange, written_patchOf, written_setPatch, h, Bool.and_eq_true, Bool.not_eq_true',
    decide_eq_true_eq]
  split <;> rfl

theorem State.written_heldReport {h : HeldState}
    (hno : p.held = .clear ∨ h = .held ∨ ∀ e, p.entry = some e → e.phase.notWaiting) :
    (s.written n c p q es).heldReport n h = s.written n c { p with held := h } q es := by
  simp only [heldReport, written_patchOf, written_setPatch]
  split
  next hrel =>
    split
    next e he =>
      rcases hno with hp | hh | hw
      · simp [hp] at hrel
      · simp [hh] at hrel
      · have := hw e he
        cases hph : e.phase <;> simp_all [PendingPhase.notWaiting, PendingPhase.isSent]
    · rfl
  · rfl

/-- R90: HELD to CLEAR sends a waiting entry without FORCE. -/
theorem State.written_heldReport_release {patch : Patch} {cp : Sample} {b : Nat} {im : Sample} {dl : Option Sample}
    (hp : p.held = .held) (he : p.entry = some ⟨patch, cp, .waitingRelease b im dl⟩) :
    (s.written n c p q es).heldReport n .clear =
      s.written n
        (c.handed (.patch (max (s.time.S + c.link.lead) cp) patch false ((p.serial + 1) % 256)))
        (({ p with held := .clear } : PatchRecord).sent patch (max (s.time.S + c.link.lead) cp) false cp c.link.lead)
        q es := by
  simp only [heldReport, written_patchOf, written_setPatch, hp, he, and_self, if_true, PendingPhase.isSent,
    Bool.false_eq_true, if_false, sendWaiting, written_sendPatch, waitDue, written_ch, written_time]

end

/-! ## STATUS_FRAME (R122, R130) -/

/-- R122, R130: the channel after a status frame has been taken: the silence end and the reported part. -/
def State.statusTaken (s : State) (n : Station) (r : StationReport) : Channel :=
  { s.ch n with
    reported := ⟨some r.actual, r.heldMask, r.lamps⟩
    link := { (s.ch n).link with silenceEnd := some (s.time.S + 12000) } }

theorem actStatusFrame_down (h : (s.ch n).link.state ≠ .up) (items : StatusItems) : actStatusFrame n items s = s :=
  if_neg (mt Channel.isUp_iff.mp h)

/-- R122: a status frame with no MD input. -/
theorem actStatusFrame_up (h : (s.ch n).link.state = .up) (r : StationReport) (dones : List (Patch × Nat))
    (change : Option Patch) (now : HeldState) :
    actStatusFrame n ⟨r, dones, change, now, []⟩ s =
      (State.patchReports (s.written n (s.statusTaken n r) (s.patchOf n) s.port s.emitted) n
        ⟨r, dones, change, now, []⟩).heldReport n now := by
  have taken : (s.restartLinkSilence n).setReported n r =
      s.written n (s.statusTaken n r) (s.patchOf n) s.port s.emitted := by
    conv_lhs => rw [← s.written_self n]
    simp only [State.restartLinkSilence, State.setReported, State.written_mapLink, State.written_ch, State.written_setCh]
    rfl
  unfold actStatusFrame
  rw [if_pos (Channel.isUp_iff.mpr h), taken]
  rfl

/-- R85, R92, R93: a status frame whose reports leave the station's records and the port as given, with the held state
it had. -/
theorem exec_statusFrame {r : StationReport} {dones : List (Patch × Nat)} {change : Option Patch} {now : HeldState}
    {q : PatchRecord} {port : ControlPort} (hu : (s.ch n).link.state = .up)
    (h : State.patchReports (s.quiet.written n (s.statusTaken n r) (s.patchOf n) s.port []) n
        ⟨r, dones, change, now, []⟩ = s.quiet.written n (s.statusTaken n r) q port [])
    (hno : q.held = now) :
    exec (.statusFrame n ⟨r, dones, change, now, []⟩) s =
      .next (s.quiet.written n (s.statusTaken n r) q port []).done := by
  refine command_done (act := actStatusFrame n ⟨r, dones, change, now, []⟩) ?_
  refine (actStatusFrame_up (s := s.quiet) hu r dones change now).trans ?_
  refine (congrArg (fun t => State.heldReport t n now) h).trans ?_
  refine (State.written_heldReport _ _ _ _ _ ?_).trans ?_
  · rw [hno]
    cases now <;> simp
  · rw [← hno]

/-- Settles O26: the reports of the frame by the pending entry, then the held state. -/
theorem patchReports : Obligations.PatchReports := by
  intro s n r h
  refine ⟨fun hu items => command_idle (act := actStatusFrame n items) (actStatusFrame_down (s := s.quiet) hu items),
    fun hu => ⟨fun hh x k => ?_, fun hp hh patch cp b im dl he => ?_, fun hno => ?_⟩⟩
  · have taken : ∀ {dones : List (Patch × Nat)} {change : Option Patch} {q : PatchRecord} {port : ControlPort},
        State.patchReports (s.quiet.written n (s.statusTaken n r) (s.patchOf n) s.port []) n
          ⟨r, dones, change, h, []⟩ = s.quiet.written n (s.statusTaken n r) q port [] →
        q.held = h →
        exec (.statusFrame n ⟨r, dones, change, h, []⟩) s =
          .next (s.quiet.written n (s.statusTaken n r) q port []).done := exec_statusFrame hu
    refine ⟨fun he => taken (State.written_patchDone_none _ _ _ _ _ he) hh.symm,
      fun e due force serial a he hph => taken (State.written_patchDone_sent _ _ _ _ _ he hph) ?_,
      fun e due force serial he hph => taken (State.written_patchDone_unconfirmed _ _ _ _ _ he hph) ?_,
      fun e b im dl he hph => taken (State.written_patchDone_waiting _ _ _ _ _ he hph) ?_,
      fun he => taken (State.written_localChange_none _ _ _ _ _ he) hh.symm,
      fun e he => taken (State.written_localChange_pending _ _ _ _ _ he) ?_⟩
    all_goals
      split <;> exact hh.symm
  · subst hh
    refine command_done (act := actStatusFrame n ⟨r, [], none, .clear, []⟩) ?_
    exact (actStatusFrame_up (s := s.quiet) hu r [] none .clear).trans
      (State.written_heldReport_release _ _ _ _ _ hp he)
  · refine command_done (act := actStatusFrame n ⟨r, [], none, h, []⟩) ?_
    exact (actStatusFrame_up (s := s.quiet) hu r [] none h).trans (State.written_heldReport _ _ _ _ _ hno)

end Sys2Proof.Machine
end

section
/-! PROOFS. START_PRESHOW, HOLD, END_SHOW and STOP_QUERY (O27, O28, O33). -/

namespace Sys2Proof.Machine

variable {s t u : State} {tag : Nat}

/-! ## Acts of the cues and the show within one act -/

/-- From `s` to `t` the Cue Engine, the Show State Controller, the port and the channels become these, and nothing else
changes. -/
structure State.Becomes (s t : State) (cue : CueEngine) (ctl : ShowControl) (port : ControlPort)
    (ch : Station → Channel) : Prop where
  time : t.time = s.time
  click : t.click = s.click
  patches : t.patches = s.patches
  vin : t.vin = s.vin
  vout : t.vout = s.vout
  reports : t.reports = s.reports
  emitted : t.emitted = s.emitted
  pending : t.pending = s.pending
  cue : t.cue = cue
  ctl : t.ctl = ctl
  port : t.port = port
  ch : ∀ n, t.ch n = ch n

namespace State.Becomes

variable {cue cue' : CueEngine} {ctl ctl' : ShowControl} {port port' : ControlPort} {ch ch' : Station → Channel}

theorem trans (h : s.Becomes t cue ctl port ch) (k : t.Becomes u cue' ctl' port' ch') :
    s.Becomes u cue' ctl' port' ch' where
  time := k.time.trans h.time
  click := k.click.trans h.click
  patches := k.patches.trans h.patches
  vin := k.vin.trans h.vin
  vout := k.vout.trans h.vout
  reports := k.reports.trans h.reports
  emitted := k.emitted.trans h.emitted
  pending := k.pending.trans h.pending
  cue := k.cue
  ctl := k.ctl
  port := k.port
  ch := k.ch

theorem congr (h : s.Becomes t cue ctl port ch) (hc : cue = cue') (hk : ctl = ctl') (hp : port = port')
    (hch : ∀ n, ch n = ch' n) : s.Becomes t cue' ctl' port' ch' :=
  { h with cue := h.cue.trans hc, ctl := h.ctl.trans hk, port := h.port.trans hp, ch := fun n => (h.ch n).trans (hch n) }

theorem refl (s : State) : s.Becomes s s.cue s.ctl s.port s.ch :=
  ⟨rfl, rfl, rfl, rfl, rfl, rfl, rfl, rfl, rfl, rfl, rfl, fun _ => rfl⟩

theorem of_frame (frame : s.PitOnly t) (ports : s.SamePorts t) (patches : t.patches = s.patches)
    (hch : ∀ n, t.ch n = ch n) : s.Becomes t s.cue s.ctl s.port ch :=
  ⟨frame.time, frame.click, patches, frame.vin, frame.vout, frame.reports, ports.2, frame.pending, frame.cue, frame.ctl,
    ports.1, hch⟩

theorem mapCue (s : State) (f : CueEngine → CueEngine) : s.Becomes (s.mapCue f) (f s.cue) s.ctl s.port s.ch :=
  ⟨rfl, rfl, rfl, rfl, rfl, rfl, rfl, rfl, rfl, rfl, rfl, fun _ => rfl⟩

theorem setStandby (s : State) (w : Option Nat) :
    s.Becomes (s.setStandby w) { s.cue with standby := w, barMark := s.cue.book.isAtBar w } s.ctl s.port s.ch :=
  mapCue s fun c => { c with standby := w, barMark := c.book.isAtBar w }

theorem offer (s : State) (x : Notice) : s.Becomes (s.offer x) s.cue s.ctl (s.port.offer x) s.ch :=
  ⟨rfl, rfl, rfl, rfl, rfl, rfl, rfl, rfl, rfl, rfl, rfl, fun _ => rfl⟩

/-- R79: a setting of the warned cue. -/
theorem setWarnedFrom (s : State) (old : List Station) (w : Option Nat) (d : Sample) :
    s.Becomes (s.setWarnedFrom old w d) { s.cue with warned := w } s.ctl s.port
      fun n => (s.ch n).warnSet old (s.cue.book.warnList w) n d := by
  have frame := s.setWarnedFrom_frame old w d
  have ports := s.setWarnedFrom_ports old w d
  exact ⟨frame.time, frame.click, s.setWarnedFrom_patches old w d, frame.vin, frame.vout, frame.reports, ports.2,
    frame.pending, frame.cue, frame.ctl, ports.1, s.setWarnedFrom_ch old w d⟩

theorem setWarned (s : State) (w : Option Nat) (d : Sample) :
    s.Becomes (s.setWarned w d) { s.cue with warned := w } s.ctl s.port
      fun n => (s.ch n).warnSet (s.cue.book.warnList s.cue.warned) (s.cue.book.warnList w) n d :=
  setWarnedFrom s _ w d

/-- R61, R62: an apply. -/
theorem applyEdit (s : State) :
    s.Becomes s.applyEdit s.cue.committed s.ctl (s.port.offer (s.cue.committedNotice s.time.S))
      fun n => (s.ch n).warnSet (s.cue.book.warnList s.cue.warned) (s.cue.buffer.warnList s.cue.foundStandby) n s.time.S := by
  have ch := s.applyEdit_ch
  rw [s.applyEdit_eq] at ch ⊢
  exact ⟨rfl, rfl, rfl, rfl, rfl, rfl, rfl, rfl, rfl, rfl, rfl, ch⟩

/-- R60: a pending edit applied, or not, once the slots are empty. -/
theorem applyPending (s : State) (h : s.cue.slotsEmpty = true) :
    s.Becomes s.applyPending (if s.cue.edit = .pendingApply then s.cue.committed else s.cue) s.ctl
      (if s.cue.edit = .pendingApply then s.port.offer (s.cue.committedNotice s.time.S) else s.port)
      fun n =>
        if s.cue.edit = .pendingApply then
          (s.ch n).warnSet (s.cue.book.warnList s.cue.warned) (s.cue.buffer.warnList s.cue.foundStandby) n s.time.S
        else s.ch n := by
  by_cases he : s.cue.edit = .pendingApply
  · have act : s.applyPending = s.applyEdit := if_pos ⟨he, h⟩
    simpa only [act, if_pos he] using applyEdit s
  · have act : s.applyPending = s := if_neg fun k => he k.1
    simpa only [act, if_neg he] using refl s

theorem stopLamps (s : State) :
    s.Becomes s.stopLamps s.cue s.ctl s.port fun n => (s.ch n).stopLampSet s.ctl.state s.time.S :=
  of_frame s.stopLamps_frame s.stopLamps_ports s.stopLamps_patches s.stopLamps_ch

theorem changeShow (s : State) (after : ShowState) (cause : ShowCause) (beat : Option Sample) :
    s.Becomes (s.changeShow after cause beat) s.cue { s.ctl with state := after }
      (s.port.offer (.showState s.ctl.state after cause s.time.S beat)) fun n => (s.ch n).stopLampSet after s.time.S :=
  have h := s.changeShow_changed after cause beat
  ⟨h.time, h.click, h.patches, h.vin, h.vout, h.reports, h.emitted, h.pending, h.cue, h.ctl, h.port, h.ch⟩

end State.Becomes

/-! ## START_PRESHOW (R78, R102) -/

theorem ShowControl.holdsBack_iff {c : ShowControl} :
    c.holdsBack = true ↔ c.lineMode = .level ∧ (c.qualifier = .qualified ∨ c.qualifier = .releasing) := by
  unfold holdsBack asserted
  cases c.qualifier <;> simp

theorem State.taken_holdsBack (s : State) : s.taken.ctl.holdsBack = s.ctl.holdsBack := by rw [s.taken_ctl]; rfl

theorem actStartPreshow_wrongState (h : s.ctl.state ≠ .dark ∨ s.cue.book.cues = []) :
    actStartPreshow s = refuse s .wrongState := by
  unfold actStartPreshow
  by_cases hd : s.ctl.state ≠ .dark
  · rw [if_pos hd]
  · rw [if_neg hd, if_pos (h.resolve_left hd)]

theorem actStartPreshow_open (hd : s.ctl.state = .dark) (hc : s.cue.book.cues ≠ []) :
    actStartPreshow s =
      if s.ctl.holdsBack then refuse s .stopAsserted
      else ((s.changeShow .preshow .startPreshow none).openCues,
        .ok false (.standby (s.changeShow .preshow .startPreshow none).openCues.cue.standby)) := by
  unfold actStartPreshow
  rw [if_neg (not_not.mpr hd), if_neg hc]

/-- R78: the Cue Engine's part of START_PRESHOW. -/
theorem State.openCues_becomes (s : State) :
    s.Becomes s.openCues
      { s.cue with
        standby := s.cue.book.first.map Cue.number
        barMark := s.cue.book.isAtBar (s.cue.book.first.map Cue.number), running := none
        warned := s.cue.book.first.map Cue.number }
      s.ctl s.port fun n =>
        (s.ch n).warnSet (s.cue.book.warnList s.cue.warned) (s.cue.book.warnList (s.cue.book.first.map Cue.number)) n
          s.time.S :=
  ((Becomes.setStandby s _).trans (.mapCue _ _)).trans (.setWarned _ _ _)

/-- R102: a show opened. -/
theorem State.opened_becomes (s : State) :
    s.Becomes (s.changeShow .preshow .startPreshow none).openCues
      { s.cue with
        standby := s.cue.book.first.map Cue.number
        barMark := s.cue.book.isAtBar (s.cue.book.first.map Cue.number), running := none
        warned := s.cue.book.first.map Cue.number }
      { s.ctl with state := .preshow }
      (s.port.offer (.showState s.ctl.state .preshow .startPreshow s.time.S none))
      fun n =>
        ((s.ch n).stopLampSet .preshow s.time.S).warnSet (s.cue.book.warnList s.cue.warned)
          (s.cue.book.warnList (s.cue.book.first.map Cue.number)) n s.time.S := by
  have show_ := Becomes.changeShow s .preshow .startPreshow none
  refine (show_.trans (State.openCues_becomes _)).congr ?_ show_.ctl show_.port fun n => ?_
  · rw [show_.cue]
  · rw [show_.cue, show_.ch, show_.time]

/-- Settles O27: the refusals in their order, and the change of show state with the cues opened. -/
theorem startPreshow : Obligations.StartPreshow := by
  intro s tag hadm holdsBack
  refine ⟨fun h => ?_, fun hd hc hb => ?_, fun c rest hd hc hb => ?_⟩
  · exact exec_refused (i := .startPreshow tag) rfl rfl hadm
      (actStartPreshow_wrongState (by rwa [State.taken_ctl_state, State.taken_book]))
  · have act := actStartPreshow_open (s := s.taken) (s.taken_ctl_state.trans hd) (by rwa [State.taken_book])
    rw [State.taken_holdsBack, if_pos (ShowControl.holdsBack_iff.mpr hb)] at act
    exact exec_refused (i := .startPreshow tag) rfl rfl hadm act
  · have act := actStartPreshow_open (s := s.taken) (s.taken_ctl_state.trans hd)
      (by rw [State.taken_book, hc]; exact List.cons_ne_nil _ _)
    rw [State.taken_holdsBack, if_neg (mt ShowControl.holdsBack_iff.mp hb)] at act
    have first : s.taken.cue.book.first.map Cue.number = some c.number := by
      rw [State.taken_book, Book.first, hc]
      rfl
    have opened := s.taken.opened_becomes
    rw [first] at opened
    refine ⟨_, exec_request_replied (i := .startPreshow tag) rfl rfl hadm act nofun, ?_⟩
    generalize (s.taken.changeShow .preshow .startPreshow none).openCues = t at opened
    refine ⟨opened.ctl, opened.cue.trans (by simp only [State.taken_book]), fun n => ?_, ?_,
      opened.time.trans s.taken_time, opened.click.trans s.taken_click, opened.patches.trans s.taken_patches,
      opened.vin.trans s.taken_vin, opened.vout.trans s.taken_vout, opened.reports.trans s.taken_reports,
      opened.emitted.trans s.taken_emitted, opened.pending.trans s.taken_pending⟩
    · refine (opened.ch n).trans ?_
      rw [State.taken_book, State.ch_taken, State.taken_warned, State.taken_time]
      rfl
    · show (t.port.answer _).arbitrate = _
      rw [opened.port, opened.cue, State.taken_ctl_state, hd, State.taken_time]

/-! ## HOLD (R41, R104) -/

theorem actHold_refused (h : s.ctl.state ≠ .running) : actHold s = refuse s .wrongState := if_neg h

theorem actHold_taken (h : s.ctl.state = .running) (hp : s.ctl.holdPending = none) :
    actHold s =
      ({ s with
          click := { s.click with holdPoint := some (s.click.holdPointAt (s.time.S + 4800)) }
          ctl := { s.ctl with holdPending := some ⟨s.click.holdPointAt (s.time.S + 4800), .host⟩ } },
        .ok false (.holdPoint (s.click.holdPointAt (s.time.S + 4800)))) := by
  unfold actHold State.hold
  rw [if_pos h, hp]
  rfl

theorem actHold_pending {p : HoldPending} (h : s.ctl.state = .running) (hp : s.ctl.holdPending = some p) :
    actHold s = (s, .ok false (.holdPoint p.point)) := by
  unfold actHold State.hold
  rw [if_pos h, hp]

theorem State.taken_holdPending (s : State) : s.taken.ctl.holdPending = s.ctl.holdPending := by
  rw [s.taken_ctl]; rfl

/-- R41: the hold point where no beats are produced. -/
theorem ClickEngine.holdPointAt_idle {e : ClickEngine} (h : Sample) (hp : e.state.produces = false) :
    e.holdPointAt h = h := by
  unfold holdPointAt
  split
  · rfl
  · rw [if_neg (by simp [hp])]

theorem ClickEngine.holdPointAt_producing {e : ClickEngine} {c : Context} (h : Sample) (hc : e.context = some c)
    (hp : e.state.produces = true) :
    e.holdPointAt h = walk Context.atMainDownbeat e.limit walkLimit c e.release := by
  simp [holdPointAt, hc, hp]

/-- Settles O28: a hold taken or answered, and the walk to the next beat 1. -/
theorem holdRequestsJudged : Obligations.HoldRequestsJudged := by
  intro s tag hadm
  refine ⟨fun h => ?_, fun h hp => ?_, fun p h hp => ?_, ClickEngine.holdPointAt_idle _,
    fun c g n hc hprod hl hg hk ht hb hm hd hbeats h15 hstep hin => ?_⟩
  · exact exec_refused (i := .hold tag) rfl rfl hadm (actHold_refused (by rwa [State.taken_ctl_state]))
  · have act := actHold_taken (s := s.taken) (s.taken_ctl_state.trans h) (s.taken_holdPending.trans hp)
    have run := exec_request_replied (i := .hold tag) rfl rfl hadm act nofun
    simpa only [State.taken_click, State.taken_time] using run
  · exact exec_request_replied (i := .hold tag) rfl rfl hadm
      (actHold_pending (s := s.taken) (s.taken_ctl_state.trans h) (s.taken_holdPending.trans hp)) nofun
  · have steady : c.Steady g n := ⟨hg, hk, ht, hb, hm, hd, hbeats, hstep, hin⟩
    rw [ClickEngine.holdPointAt_producing _ hc hprod, hl]
    refine (steady.walk_eq Context.Steady.atMainDownbeat_stopsAtOne walkLimit ?_).trans rfl
    unfold Context.toDownbeat walkLimit
    split <;> omega

/-! ## END_SHOW and STOP_QUERY (R78, R117, R118) -/

/-- R78: the Cue Engine after END_SHOW, before a pending edit is applied. -/
def CueEngine.ended (c : CueEngine) : CueEngine :=
  { c with
    standby := none, barMark := false, running := none, warned := none, inFlight := none, queued := none }

/-- R77, R78: the port after the CUE_CANCELLED notice of slots that held a cue. -/
def ControlPort.cancelled (q : ControlPort) (cause : CancelCause) (y : Sample) (c : CueEngine) (back : Option Nat) :
    ControlPort :=
  if c.inFlight = none ∧ c.queued = none then q
  else q.offer (.cueCancelled cause y (c.inFlight.map Flight.fired) c.queued back)

/-- R78: the Cue Engine's part of END_SHOW. -/
theorem State.endCues_becomes (s : State) :
    s.Becomes s.endCues (if s.cue.edit = .pendingApply then s.cue.ended.committed else s.cue.ended) s.ctl
      (if s.cue.edit = .pendingApply then
        (s.port.cancelled .endShow s.time.S s.cue none).offer (s.cue.ended.committedNotice s.time.S)
      else s.port.cancelled .endShow s.time.S s.cue none)
      fun n => (s.ch n).warnSet (s.cue.book.warnList s.cue.warned) [] n s.time.S := by
  let s1 := s.mapCue CueEngine.clearSlots
  let s2 := if s.cue.slotsEmpty then s1 else s1.cueCancelled .endShow s.cue none
  let s3 := (s2.setStandby none).mapCue fun c => { c with running := none }
  let s4 := s3.setWarned none s.time.S
  have slots : s.Becomes s2 s.cue.clearSlots s.ctl (s.port.cancelled .endShow s.time.S s.cue none) s.ch := by
    by_cases h : s.cue.slotsEmpty = true
    · have port : s.port.cancelled .endShow s.time.S s.cue none = s.port := if_pos (CueEngine.slotsEmpty_iff.mp h)
      simp only [s2, if_pos h, port]
      exact .mapCue s _
    · have port : s.port.cancelled .endShow s.time.S s.cue none =
          s.port.offer (.cueCancelled .endShow s.time.S (s.cue.inFlight.map Flight.fired) s.cue.queued none) :=
        if_neg (mt CueEngine.slotsEmpty_iff.mpr h)
      simp only [s2, if_neg h, port]
      exact (Becomes.mapCue s _).trans (.offer _ _)
  have warned : s.Becomes s4 s.cue.ended s.ctl (s.port.cancelled .endShow s.time.S s.cue none)
      fun n => (s.ch n).warnSet (s.cue.book.warnList s.cue.warned) [] n s.time.S := by
    refine (((slots.trans (.setStandby _ _)).trans (.mapCue _ _)).trans (.setWarned s3 none s.time.S)).congr ?_ slots.ctl
      slots.port fun n => ?_
    · show ({ s2.cue with standby := none, barMark := s2.cue.book.isAtBar none, running := none, warned := none } :
        CueEngine) = _
      rw [slots.cue]
      rfl
    · show (s2.ch n).warnSet (s2.cue.book.warnList s2.cue.warned) [] n s.time.S = _
      rw [slots.cue, slots.ch]
      rfl
  have slotsEmpty : s4.cue.slotsEmpty = true := by rw [warned.cue]; rfl
  refine (warned.trans (.applyPending s4 slotsEmpty)).congr ?_ warned.ctl ?_ fun n => ?_
  · rw [warned.cue]
    rfl
  · rw [warned.cue, warned.port, warned.time]
    rfl
  · rw [warned.cue, warned.ch]
    exact ite_self _

/-- R117: the show ended, the Click Engine emptied. -/
def State.halted (s : State) : State :=
  { s with
    ctl := { s.ctl with state := .dark, holdPending := none, continuePending := none }
    click := ClickEngine.powerUp }

theorem State.takeEnd_becomes (s : State) :
    s.halted.Becomes s.takeEnd (if s.cue.edit = .pendingApply then s.cue.ended.committed else s.cue.ended)
      { s.ctl with state := .dark, holdPending := none, continuePending := none }
      ((if s.cue.edit = .pendingApply then
          (s.port.cancelled .endShow s.time.S s.cue none).offer (s.cue.ended.committedNotice s.time.S)
        else s.port.cancelled .endShow s.time.S s.cue none).offer
        (.showState s.ctl.state .dark .endShow s.time.S none))
      fun n => ((s.ch n).warnSet (s.cue.book.warnList s.cue.warned) [] n s.time.S).stopLampSet .dark s.time.S := by
  have act : s.takeEnd = s.halted.endCues.stopLamps.showNotice s.ctl.state .endShow none := by
    unfold takeEnd
    rfl
  have cues := s.halted.endCues_becomes
  have lamps := cues.trans (.stopLamps _)
  rw [act, showNotice]
  refine (lamps.trans (.offer _ _)).congr ?_ ?_ ?_ fun n => ?_
  · rw [lamps.cue, cues.cue]
    rfl
  · rw [lamps.ctl, cues.ctl]
    rfl
  · rw [lamps.port, lamps.ctl, lamps.time, cues.port, cues.ctl]
    rfl
  · rw [lamps.ch, cues.ch, cues.ctl, cues.time]
    rfl

theorem ShowControl.query_eq (c : ShowControl) :
    c.query =
      ⟨c.state, c.holdPending, c.continuePending, c.stopRecord, c.activeOpen, c.lineMode, c.qualifyMs, c.qualifier,
        c.timerEnd, decide (c.qualifier = .qualified ∨ c.qualifier = .releasing), c.silenceLimit, c.silenceEnd⟩ := by
  unfold query asserted
  cases c.qualifier <;> rfl

/-- Settles O33. -/
theorem endAndQuery : Obligations.EndAndQuery := by
  intro s tag hadm
  refine ⟨fun h => ?_, fun h => ?_, ?_⟩
  · have act : actEndShow s.taken = (s.taken, .ok false .empty) := by
      rw [actEndShow, if_pos (s.taken_ctl_state.trans h)]
    exact exec_request_replied (i := .endShow tag) rfl rfl hadm act nofun
  · have act : actEndShow s.taken = (s.taken.takeEnd, .ok false .empty) := by
      rw [actEndShow, if_neg (by rwa [State.taken_ctl_state])]
    have ended := s.taken.takeEnd_becomes
    refine ⟨_, exec_request_replied (i := .endShow tag) rfl rfl hadm act nofun, ?_⟩
    generalize s.taken.takeEnd = t at ended
    refine ⟨ended.ctl, ended.click, ?_, fun n => ?_, ?_, ended.time.trans s.taken_time,
      ended.patches.trans s.taken_patches, ended.vin.trans s.taken_vin, ended.vout.trans s.taken_vout,
      ended.reports.trans s.taken_reports, ended.emitted.trans s.taken_emitted, ended.pending.trans s.taken_pending⟩
    · refine ended.cue.trans ?_
      rw [State.taken_edit]
      simp only [CueEngine.ended, CueEngine.committed, State.taken_buffer, State.taken_serial]
      rfl
    · refine (ended.ch n).trans ?_
      rw [State.taken_book, State.ch_taken, State.taken_warned, State.taken_time, Channel.warnSet,
        if_neg (List.not_mem_nil)]
    · show (t.port.answer _).arbitrate = _
      rw [ended.port, State.taken_edit, State.taken_time, State.taken_ctl_state, ControlPort.cancelled,
        State.taken_inFlight, State.taken_queued]
      simp only [CueEngine.committedNotice, CueEngine.ended, State.taken_serial, State.taken_buffer]
      rfl
  · refine (exec_request_replied (i := .stopQuery tag) rfl rfl hadm rfl nofun).trans ?_
    rw [ShowControl.query_eq]
    simp only [s.taken_ctl]
    rfl

end Sys2Proof.Machine
end

section
/-! PROOFS. A stop taken, the stop line, and STOPLINE_SET (O30, O31). -/

namespace Sys2Proof.Machine

variable {s t u : State} {tag : Nat}

/-! ## What acts on every station put out -/

/-- What acts on stations in turn add to a list comes in the order of the stations. -/
theorem forStations_appends {α : Type} {out : State → List α} {f : Station → State → State} {E : Station → State → List α}
    (hf : ∀ n, ActsOn n (f n)) (hout : ∀ n s, out (f n s) = out s ++ E n s) (hE : ∀ n, Seen n (E n))
    (ns : List Station) (nd : ns.Nodup) (s : State) :
    out (forStations f ns s) = out s ++ ns.flatMap fun n => E n s := by
  induction ns generalizing s with
  | nil => exact (List.append_nil _).symm
  | cons n ns ih =>
    obtain ⟨hn, nd⟩ := List.nodup_cons.mp nd
    have same : ∀ m ∈ ns, E m (f n s) = E m s := fun m hm => by
      have hne : m ≠ n := fun e => hn (e ▸ hm)
      exact hE m _ _ ((hf n).frame s).symm ((hf n).otherCh s m hne) ((hf n).otherPatch s m hne)
    show out (forStations f ns (f n s)) = _
    rw [ih nd, hout, List.flatMap_cons, List.append_assoc]
    exact congrArg (fun l => out s ++ (E n s ++ l)) (List.flatMap_congr same)

theorem forAll_appends {α : Type} {out : State → List α} {f : Station → State → State} {E : Station → State → List α}
    (hf : ∀ n, ActsOn n (f n)) (hout : ∀ n s, out (f n s) = out s ++ E n s) (hE : ∀ n, Seen n (E n)) (s : State) :
    out (forAll f s) = out s ++ allStations.flatMap fun n => E n s :=
  forStations_appends hf hout hE allStations allStations_nodup s

theorem allStations_eq : allStations = List.finRange 24 := by decide

/-! ## The stop in the pit (R96, R111, R137) -/

/-- R137: what a CANCEL puts on a station's link. -/
def State.cancelFrames (y : Sample) (n : Station) (s : State) : List Emission :=
  if (s.ch n).link.state = .up then [.link n s.time.S (.cancel y)] else []

theorem cancel_ch (y : Sample) (n : Station) (s : State) : (State.cancel y n s).ch n = (s.ch n).cancelled y := by
  unfold State.cancel Channel.cancelled
  simp only [Channel.isUp_iff]
  split
  · rw [State.ch_mapLink_self]
    rfl
  · rfl

theorem cancel_patches (y : Sample) (n : Station) (s : State) : (State.cancel y n s).patches = s.patches := by
  unfold State.cancel
  split <;> rfl

theorem cancel_port (y : Sample) (n : Station) (s : State) : (State.cancel y n s).port = s.port := by
  unfold State.cancel
  split <;> rfl

theorem cancel_emitted (y : Sample) (n : Station) (s : State) :
    (State.cancel y n s).emitted = s.emitted ++ State.cancelFrames y n s := by
  unfold State.cancel State.cancelFrames
  simp only [Channel.isUp_iff]
  split
  · rfl
  · exact (List.append_nil _).symm

theorem cancelFrames_seen (y : Sample) (n : Station) : Seen n (State.cancelFrames y n) := fun s t h hc _ => by
  unfold State.cancelFrames
  rw [hc, h.time]

/-- R111: the CANCELs of a stop, station 1 first. -/
theorem cancelAll_emitted (y : Sample) (s : State) :
    (forAll (State.cancel y) s).emitted =
      s.emitted ++
        ((List.finRange 24).filter fun n => decide ((s.ch n).link.state = .up)).map fun n =>
          Emission.link n s.time.S (.cancel y) := by
  rw [forAll_appends (out := State.emitted) (fun n => ActsOn.cancel (n := n) y) (cancel_emitted y) (cancelFrames_seen y),
    allStations_eq]
  congr 1
  induction List.finRange 24 with
  | nil => rfl
  | cons n ns ih =>
    rw [List.flatMap_cons, ih, List.filter_cons, State.cancelFrames]
    by_cases h : (s.ch n).link.state = .up <;> simp [h]

theorem patchStop_patchOf (y : Sample) (n : Station) (s : State) :
    (State.patchStop y n s).patchOf n = (s.patchOf n).stopped y := by
  unfold State.patchStop PatchRecord.stopped
  dsimp only
  cases h : (s.patchOf n).entry with
  | none => rfl
  | some e =>
    obtain ⟨patch, cp, phase⟩ := e
    cases phase
    case waitingRelease => simp [PendingPhase.discardedAt]
    case sent due force serial ack => by_cases hy : y ≤ due <;> simp [PendingPhase.discardedAt, hy]
    case unconfirmed due force serial => by_cases hy : y ≤ due <;> simp [PendingPhase.discardedAt, hy]

theorem patchStop_ch (y : Sample) (n m : Station) (s : State) : (State.patchStop y n s).ch m = s.ch m := by
  unfold State.patchStop
  dsimp only
  split
  · split <;> rfl
  · rfl

/-- R111: the stations' part of a stop, before the STOP lamps. -/
def State.quieted (s : State) (y : Sample) : State := forAll (State.patchStop y) (forAll (State.cancel y) s)

section
variable (s : State) (y : Sample)

theorem State.quieted_frame : s.PitOnly (s.quieted y) :=
  (forAll_frame (fun _ => .cancel y) s).trans (forAll_frame (fun _ => .patchStop y) _)

theorem State.quieted_ch (n : Station) : (s.quieted y).ch n = (s.ch n).cancelled y := by
  unfold quieted
  rw [forAll_ch fun m => ActsOn.patchStop (n := m) y, patchStop_ch, forAll_ch fun m => ActsOn.cancel (n := m) y,
    cancel_ch]

theorem State.quieted_patchOf (n : Station) : (s.quieted y).patchOf n = (s.patchOf n).stopped y := by
  unfold quieted
  rw [forAll_patchOf fun m => ActsOn.patchStop (n := m) y, patchStop_patchOf,
    forAll_patchOf fun m => ActsOn.cancel (n := m) y, State.patchOf_congr (cancel_patches y n s)]

theorem State.quieted_port : (s.quieted y).port = s.port :=
  (forAll_ports (patchStop_ports y) _).1.trans
    (forAll_rel (fun a b => b.port = a.port) (fun _ => rfl) (fun _ _ _ h k => k.trans h) _ (cancel_port y) s)

theorem State.quieted_emitted :
    (s.quieted y).emitted =
      s.emitted ++
        ((List.finRange 24).filter fun n => decide ((s.ch n).link.state = .up)).map fun n =>
          Emission.link n s.time.S (.cancel y) :=
  (forAll_ports (patchStop_ports y) _).2.trans (cancelAll_emitted y s)

end

/-! ## The cues (R60, R77) -/

/-- R77: the Cue Engine after a stop, before a pending edit is applied: the cue fired earliest is the standby again. -/
def CueEngine.reverted (c : CueEngine) : CueEngine :=
  if c.inFlight = none ∧ c.queued = none then c
  else
    { c with
      inFlight := none, queued := none, standby := c.earliest, warned := c.earliest
      barMark := c.book.isAtBar c.earliest }

theorem CueEngine.reverted_slots (c : CueEngine) : c.reverted.slotsEmpty = true := by
  unfold reverted
  split
  next h => exact CueEngine.slotsEmpty_iff.mpr h
  next => rfl

theorem CueEngine.reverted_book (c : CueEngine) : c.reverted.book = c.book := by unfold reverted; split <;> rfl

theorem CueEngine.reverted_buffer (c : CueEngine) : c.reverted.buffer = c.buffer := by unfold reverted; split <;> rfl

theorem CueEngine.reverted_edit (c : CueEngine) : c.reverted.edit = c.edit := by unfold reverted; split <;> rfl

/-- R77: the control mode plays no part in what a stop does to the slots. -/
theorem CueEngine.reverted_mode (c : CueEngine) (m : ControlMode) (l : Option LocalEntry) :
    CueEngine.reverted { c with mode := m, localEntry := l } = { c.reverted with mode := m, localEntry := l } := by
  unfold reverted
  dsimp only
  split <;> rfl

/-- R77, R79: the channel of station `n` after the slots of a stop have been emptied. -/
def State.revertedCh (s : State) (n : Station) : Channel :=
  if s.cue.inFlight = none ∧ s.cue.queued = none then s.ch n
  else (s.ch n).warnSet (s.cue.book.warnList s.cue.warned) (s.cue.book.warnList s.cue.earliest) n s.time.S

/-- R77: the slots emptied. -/
def State.revertCues (s : State) : State :=
  if s.cue.slotsEmpty then s
  else
    (((s.mapCue CueEngine.clearSlots).setStandby s.cue.earliest).setWarned s.cue.earliest s.time.S).cueCancelled .stop
      s.cue s.cue.earliest

theorem State.revertCues_becomes (s : State) :
    s.Becomes s.revertCues s.cue.reverted s.ctl (s.port.cancelled .stop s.time.S s.cue s.cue.earliest) s.revertedCh := by
  unfold revertCues
  by_cases h : s.cue.slotsEmpty = true
  · have empty := CueEngine.slotsEmpty_iff.mp h
    rw [if_pos h]
    exact (Becomes.refl s).congr (if_pos empty).symm rfl (if_pos empty).symm fun n => (if_pos empty).symm
  · have held := mt CueEngine.slotsEmpty_iff.mpr h
    rw [if_neg h]
    have warned := ((Becomes.mapCue s CueEngine.clearSlots).trans (.setStandby _ s.cue.earliest)).trans
      (.setWarned _ s.cue.earliest s.time.S)
    refine (warned.trans (.offer _ _)).congr ?_ warned.ctl ?_ fun n => ?_
    · rw [warned.cue]
      exact (if_neg held).symm
    · rw [warned.port, warned.time]
      exact (if_neg held).symm
    · rw [warned.ch]
      exact (if_neg held).symm

theorem State.stopCues_eq (s : State) : s.stopCues = s.revertCues.applyPending := by
  unfold stopCues revertCues
  split <;> rfl

/-- R60, R77: the channel of station `n` after a stop's pending edit has been applied, if one was. -/
def State.stoppedCueCh (s : State) (n : Station) : Channel :=
  if s.cue.edit = .pendingApply then
    (s.revertedCh n).warnSet (s.cue.book.warnList s.cue.reverted.warned)
      (s.cue.buffer.warnList s.cue.reverted.foundStandby) n s.time.S
  else s.revertedCh n

/-- R77: the port after the cues' part of a stop. -/
def State.stoppedPort (s : State) : ControlPort :=
  if s.cue.edit = .pendingApply then
    (s.port.cancelled .stop s.time.S s.cue s.cue.earliest).offer (s.cue.reverted.committedNotice s.time.S)
  else s.port.cancelled .stop s.time.S s.cue s.cue.earliest

theorem ControlPort.offer_kept (p : ControlPort) (x : Notice) :
    (p.offer x).mask = p.mask ∧ (p.offer x).lastReset = p.lastReset ∧ (p.offer x).lineRate = p.lineRate := by
  rcases p.offer_cases x with ⟨-, h⟩ | ⟨-, -, h⟩ | ⟨-, -, h⟩ <;> rw [h] <;> exact ⟨rfl, rfl, rfl⟩

theorem ControlPort.offer_mask (p : ControlPort) (x : Notice) : (p.offer x).mask = p.mask := (p.offer_kept x).1

theorem ControlPort.cancelled_mask (p : ControlPort) (cause : CancelCause) (y : Sample) (c : CueEngine) (back : Option Nat) :
    (p.cancelled cause y c back).mask = p.mask := by
  unfold cancelled
  split
  · rfl
  · exact offer_mask _ _

theorem State.stoppedPort_mask (s : State) : s.stoppedPort.mask = s.port.mask := by
  unfold stoppedPort
  split
  · rw [ControlPort.offer_mask, ControlPort.cancelled_mask]
  · exact ControlPort.cancelled_mask ..

theorem State.stopCues_becomes (s : State) :
    s.Becomes s.stopCues (if s.cue.edit = .pendingApply then s.cue.reverted.committed else s.cue.reverted) s.ctl
      s.stoppedPort s.stoppedCueCh := by
  rw [stopCues_eq]
  have reverted := s.revertCues_becomes
  refine (reverted.trans (.applyPending _ (by rw [reverted.cue]; exact s.cue.reverted_slots))).congr ?_ reverted.ctl ?_
    fun n => ?_
  · rw [reverted.cue, CueEngine.reverted_edit]
  · rw [reverted.cue, CueEngine.reverted_edit, reverted.port, reverted.time]
    rfl
  · rw [reverted.cue, CueEngine.reverted_edit, reverted.ch, reverted.time, CueEngine.reverted_book,
      CueEngine.reverted_buffer]
    rfl

/-! ## Link tests aborted (R142) -/

theorem abortTest_written (n : Station) (s : State) :
    State.abortTest n s =
      s.written n { s.ch n with link := { (s.ch n).link with test := none } } (s.patchOf n)
        { s.port with
          replies := s.port.replies ++
            ((s.ch n).link.test.map fun t =>
              (⟨0x34, t.tag, .ok false (.testResult .aborted t.began s.time.S), false⟩ : Reply)).toList } s.emitted := by
  conv_lhs => rw [← s.written_self n]
  exact s.written_abortTest ..

theorem abortTests_ch (s : State) (n : Station) :
    (forAll State.abortTest s).ch n = { s.ch n with link := { (s.ch n).link with test := none } } := by
  rw [forAll_ch fun m => ActsOn.abortTest (n := m), abortTest_written, State.written_ch]

theorem abortTests_patchOf (s : State) (n : Station) : (forAll State.abortTest s).patchOf n = s.patchOf n := by
  rw [forAll_patchOf fun m => ActsOn.abortTest (n := m), abortTest_written, State.written_patchOf]

/-- R142: aborting link tests changes of the port the replies alone. -/
theorem abortTests_port (s : State) :
    ∃ rs, (forAll State.abortTest s).port = { s.port with replies := s.port.replies ++ rs } :=
  forAll_rel (fun a b => ∃ rs, b.port = { a.port with replies := a.port.replies ++ rs })
    (fun a => ⟨[], by rw [List.append_nil]⟩)
    (fun a b c ⟨rs, h⟩ ⟨ts, k⟩ => ⟨rs ++ ts, by rw [k, h, List.append_assoc]⟩) _
    (fun n a => ⟨_, congrArg State.port (abortTest_written n a)⟩) s

theorem abortTests_emitted (s : State) : (forAll State.abortTest s).emitted = s.emitted :=
  forAll_rel (fun a b => b.emitted = a.emitted) (fun _ => rfl) (fun _ _ _ h k => k.trans h) _
    (fun n a => (congrArg State.emitted (abortTest_written n a)).trans rfl) s

/-! ## The stop (R111) -/

/-- What a stop makes of the part. -/
structure State.Stopped (s t : State) (source : StopSource) : Prop where
  time : t.time = s.time
  click : t.click = s.click.stopped s.time.S
  cue : t.cue = if s.cue.edit = .pendingApply then s.cue.reverted.committed else s.cue.reverted
  patchOf : ∀ n, t.patchOf n = (s.patchOf n).stopped s.time.S
  ctl : t.ctl = s.ctl.stop (s.newStopRecord source)
  ch : ∀ n, t.ch n =
    let c := ((s.ch n).cancelled s.time.S).stopLampSet .stopped s.time.S
    let e :=
      if s.cue.inFlight = none ∧ s.cue.queued = none then c
      else c.warnSet (s.cue.book.warnList s.cue.warned) (s.cue.book.warnList s.cue.earliest) n s.time.S
    let d :=
      if s.cue.edit = .pendingApply then
        e.warnSet (s.cue.book.warnList s.cue.reverted.warned) (s.cue.buffer.warnList s.cue.reverted.foundStandby) n
          s.time.S
      else e
    { d with link := { d.link with test := none } }
  vin : t.vin = s.vin
  vout : t.vout = s.vout
  reports : t.reports = s.reports
  pending : t.pending = s.pending
  emitted : t.emitted =
    s.emitted ++
      ((List.finRange 24).filter fun n => decide ((s.ch n).link.state = .up)).map fun n =>
        Emission.link n s.time.S (.cancel s.time.S)
  notices : t.port.notices =
    (let p := (s.port.offer (.showStop s.time.S (.new (s.newStopRecord source)))).cancelled .stop s.time.S s.cue
      s.cue.earliest
    if s.cue.edit = .pendingApply then p.offer (s.cue.reverted.committedNotice s.time.S) else p).notices
  mask : t.port.mask = s.port.mask

/-- R111: every step of a stop, in its order. -/
theorem State.takeStop_stopped (s : State) (source : StopSource) : s.Stopped (s.takeStop source) source := by
  let r := s.newStopRecord source
  let s1 := (s.mapCtl fun c => c.stop r).mapClick fun e => e.stop s.time.S
  let s2 := s1.quieted s.time.S
  let s3 := (s2.offer (.showStop s.time.S (.new r))).stopLamps
  let s4 := s3.stopCues
  have act : s.takeStop source = forAll State.abortTest s4 := by
    unfold takeStop
    rfl
  have frame : s1.PitOnly s2 := s1.quieted_frame _
  have quietCh : ∀ n, s2.ch n = (s.ch n).cancelled s.time.S := s1.quieted_ch _
  have quietPatchOf : ∀ n, s2.patchOf n = (s.patchOf n).stopped s.time.S := s1.quieted_patchOf _
  have quietPort : s2.port = s.port := s1.quieted_port _
  have quietEmitted : s2.emitted = _ := s1.quieted_emitted _
  rw [act]
  clear_value s2
  have lamps : s2.Becomes s3 _ _ _ _ := (Becomes.offer s2 (.showStop s.time.S (.new r))).trans (.stopLamps _)
  have cues : s2.Becomes s4 _ _ _ _ := lamps.trans (State.stopCues_becomes s3)
  have ends := abortTests_frame s4
  have hcue : s3.cue = s.cue := lamps.cue.trans frame.cue
  have htime : s3.time = s.time := lamps.time.trans frame.time
  have hctl : s3.ctl = s.ctl.stop r := lamps.ctl.trans frame.ctl
  have hport : s3.port = s.port.offer (.showStop s.time.S (.new r)) :=
    lamps.port.trans (congrArg (ControlPort.offer · _) quietPort)
  have hch : ∀ n, s3.ch n = ((s.ch n).cancelled s.time.S).stopLampSet .stopped s.time.S := fun n => by
    refine (lamps.ch n).trans ?_
    show (s2.ch n).stopLampSet s2.ctl.state s2.time.S = _
    rw [quietCh, frame.ctl, frame.time]
    rfl
  refine ⟨ends.time.trans (cues.time.trans frame.time), ends.click.trans (cues.click.trans frame.click), ?_, fun n => ?_,
    ends.ctl.trans (cues.ctl.trans hctl), fun n => ?_, ends.vin.trans (cues.vin.trans frame.vin),
    ends.vout.trans (cues.vout.trans frame.vout), ends.reports.trans (cues.reports.trans frame.reports),
    ends.pending.trans (cues.pending.trans frame.pending), ?_, ?_, ?_⟩
  · rw [ends.cue, cues.cue, hcue]
  · rw [abortTests_patchOf, State.patchOf_congr cues.patches, quietPatchOf]
  · rw [abortTests_ch, cues.ch]
    simp only [stoppedCueCh, revertedCh, hcue, htime, hch]
  · exact (abortTests_emitted s4).trans (cues.emitted.trans quietEmitted)
  · obtain ⟨rs, hrs⟩ := abortTests_port s4
    rw [hrs, cues.port]
    simp only [stoppedPort, hcue, htime, hport, r]
  · obtain ⟨rs, hrs⟩ := abortTests_port s4
    have shown : s3.port.mask = s.port.mask := by rw [hport, ControlPort.offer_mask]
    have ended : (forAll State.abortTest s4).port.mask = s4.port.mask := by rw [hrs]
    have stopped : s4.port.mask = s3.stoppedPort.mask := by rw [cues.port]
    exact ended.trans (stopped.trans (s3.stoppedPort_mask.trans shown))

/-! ## STOP, the stop line and STOPLINE_SET (R108 to R112) -/

theorem ShowState.meets_show {x : ShowState} (hd : x ≠ .dark) (hs : x ≠ .stopped) : x.meets = .show_ := by
  cases x <;> simp_all [meets]

theorem State.judgeStop_show (source : StopSource) (hd : s.ctl.state ≠ .dark) (hs : s.ctl.state ≠ .stopped) :
    s.judgeStop source = s.takeStop source := by
  unfold judgeStop
  rw [ShowState.meets_show hd hs]

theorem State.judgeStop_dark (source : StopSource) (h : s.ctl.state = .dark) : s.judgeStop source = s := by
  unfold judgeStop
  rw [h]
  rfl

/-- R112: a stop while STOPPED adds its source, or does nothing where it is in the set. -/
theorem State.judgeStop_stopped {source : StopSource} {r : StopRecord} (h : s.ctl.state = .stopped)
    (hr : s.ctl.stopRecord = some r) :
    s.judgeStop source =
      if r.causes.has source then s
      else
        { s with
          ctl := { s.ctl with stopRecord := some { r with causes := r.causes.add source } }
          port := s.port.offer (.showStop s.time.S (.added source (r.causes.add source))) } := by
  have meets : s.ctl.state.meets = .stopped := by rw [h]; rfl
  unfold judgeStop addStop
  rw [meets]
  dsimp only
  rw [hr]
  rfl

theorem State.qualified_dark (h : s.ctl.state = .dark) : s.qualified = s.qualify .qualified none :=
  State.judgeStop_dark (s := s.qualify .qualified none) .line h

theorem State.qualified_show (hd : s.ctl.state ≠ .dark) (hs : s.ctl.state ≠ .stopped) :
    s.qualified = (s.qualify .qualified none).takeStop .line :=
  State.judgeStop_show (s := s.qualify .qualified none) .line hd hs

theorem State.qualified_stopped_known {r : StopRecord} (h : s.ctl.state = .stopped) (hr : s.ctl.stopRecord = some r)
    (hl : r.causes.line = true) : s.qualified = s.qualify .qualified none :=
  (State.judgeStop_stopped (s := s.qualify .qualified none) (source := .line) h hr).trans (if_pos hl)

theorem State.qualified_stopped_new {r : StopRecord} (h : s.ctl.state = .stopped) (hr : s.ctl.stopRecord = some r)
    (hl : r.causes.line = false) :
    s.qualified =
      { s with
        ctl :=
          { s.ctl with
            qualifier := .qualified, timerEnd := none
            stopRecord := some { r with causes := { r.causes with line := true } } }
        port := s.port.offer (.showStop s.time.S (.added .line { r.causes with line := true })) } :=
  (State.judgeStop_stopped (s := s.qualify .qualified none) (source := .line) h hr).trans
    (if_neg (by simp [StopCauses.has, hl]))

/-! ## The qualifier (R108) -/

theorem State.atS_same (h : t.time = s.time) : t.atS s.time.S = t := by
  rw [← h]
  rfl

theorem State.lineActive_waits (h : s.ctl.qualifier = .idle) (hq : s.ctl.qualifyMs ≠ 0) :
    s.lineActive = s.qualify .qualifying (some (s.time.S + 48 * s.ctl.qualifyMs)) := by
  unfold lineActive
  rw [h]
  exact if_neg hq

theorem State.lineActive_qualifies (h : s.ctl.qualifier = .idle) (hq : s.ctl.qualifyMs = 0) :
    s.lineActive = s.qualified := by
  unfold lineActive
  rw [h]
  exact if_pos hq

theorem State.lineActive_releasing (h : s.ctl.qualifier = .releasing) : s.lineActive = s.qualify .qualified none := by
  unfold lineActive
  rw [h]

theorem State.lineActive_stands (h : s.ctl.qualifier = .qualifying ∨ s.ctl.qualifier = .qualified) :
    s.lineActive = s := by
  unfold lineActive
  rcases h with h | h <;> rw [h]

theorem State.lineInactive_qualifying (h : s.ctl.qualifier = .qualifying) : s.lineInactive = s.qualify .idle none := by
  unfold lineInactive
  rw [h]

theorem State.lineInactive_releases (h : s.ctl.qualifier = .qualified) (hq : s.ctl.qualifyMs ≠ 0) :
    s.lineInactive = s.qualify .releasing (some (s.time.S + 48 * s.ctl.qualifyMs)) := by
  unfold lineInactive
  rw [h]
  exact if_neg hq

theorem State.lineInactive_idles (h : s.ctl.qualifier = .qualified) (hq : s.ctl.qualifyMs = 0) :
    s.lineInactive = s.qualify .idle none := by
  unfold lineInactive
  rw [h]
  exact if_pos hq

theorem State.lineInactive_stands (h : s.ctl.qualifier = .idle ∨ s.ctl.qualifier = .releasing) :
    s.lineInactive = s := by
  unfold lineInactive
  rcases h with h | h <;> rw [h]

theorem actQualifierTimer_qualifying (h : s.ctl.qualifier = .qualifying) : actQualifierTimer s = s.qualified := by
  unfold actQualifierTimer
  rw [h]

theorem actQualifierTimer_releasing (h : s.ctl.qualifier = .releasing) :
    actQualifierTimer s = s.qualify .idle none := by
  unfold actQualifierTimer
  rw [h]

theorem exec_stopLineActive (h : (s.quiet.setLine true).lineActive = t) : exec .stopLineActive s = .next t.done :=
  command_done (act := fun s => (s.setLine true).lineActive) h

theorem exec_stopLineInactive (h : (s.quiet.setLine false).lineInactive = t) :
    exec .stopLineInactive s = .next t.done :=
  command_done (act := fun s => (s.setLine false).lineInactive) h

theorem exec_qualifierTimerExpiry {x : Sample} (hv : s.ctl.timerEnd = some x) (hx : x ≤ s.time.S)
    (h : actQualifierTimer (s.quiet.atS (s.takenAt x)) = t) :
    exec .qualifierTimerExpiry s = .next (t.atS s.time.S).done := by
  subst h
  exact command_reached (v := fun s => s.ctl.timerEnd) (s := s) hv hx

/-! ## STOP and STOPLINE_SET (R109, R110) -/

/-- R171: a reply is the newest of the order of replies. -/
theorem State.replied_replies (t : State) (kind tag : Nat) (a : Answer) :
    (t.replied kind tag a).port.replies.getLast? = some ⟨kind, tag, a, true⟩ := by
  simp [State.replied, ControlPort.answer]

theorem LineMode.ofCode_eq {mode : Nat} {m : LineMode} (h : (mode = 0 ∧ m = .level) ∨ (mode = 1 ∧ m = .edge)) :
    LineMode.ofCode mode = some m := by
  rcases h with ⟨rfl, rfl⟩ | ⟨rfl, rfl⟩ <;> rfl

theorem actStoplineSet_refused {mode : Nat} (h : 1 < mode) (time : Nat) :
    actStoplineSet mode time s = refuse s .badValue := by
  obtain ⟨k, rfl⟩ := Nat.exists_eq_add_of_le' h
  rfl

/-- R108, R109: the mode and the time stored, and the qualifier IDLE with no timer. -/
def State.lineSet (s : State) (m : LineMode) (ms : Nat) : State :=
  { s with ctl := { s.ctl with lineMode := m, qualifyMs := ms, qualifier := .idle, timerEnd := none } }

theorem actStoplineSet_taken {mode : Nat} {m : LineMode} (h : LineMode.ofCode mode = some m) (time : Nat) :
    actStoplineSet mode time s =
      ((if s.ctl.lineActive then (s.lineSet m (min 255 time)).lineActive else s.lineSet m (min 255 time)),
        .ok (decide (255 < time)) (.stopLine m (min 255 time)
          (if s.ctl.lineActive then (s.lineSet m (min 255 time)).lineActive
            else s.lineSet m (min 255 time)).ctl.qualifier)) := by
  unfold actStoplineSet
  rw [h]
  rfl

theorem exec_stoplineSet {mode time : Nat} {m : LineMode} {q : Qualifier} (hadm : s.admits tag)
    (hm : (mode = 0 ∧ m = .level) ∨ (mode = 1 ∧ m = .edge))
    (h : (if s.ctl.lineActive then (s.taken.lineSet m (min 255 time)).lineActive
      else s.taken.lineSet m (min 255 time)) = t) (hq : t.ctl.qualifier = q) :
    exec (.stoplineSet tag mode time) s =
      .next (t.replied 0x27 tag (.ok (decide (255 < time)) (.stopLine m (min 255 time) q))) := by
  have act := actStoplineSet_taken (s := s.taken) (LineMode.ofCode_eq hm) time
  have line : s.taken.ctl.lineActive = s.ctl.lineActive := by rw [s.taken_ctl]; rfl
  rw [line, h, hq] at act
  exact exec_request_replied (i := .stoplineSet tag mode time) rfl rfl hadm act nofun

/-- R108, R109: a time of 0 set with the line active qualifies at once. -/
theorem exec_stoplineSet_qualifies {mode : Nat} {m : LineMode} {q : Qualifier} (hadm : s.admits tag)
    (hm : (mode = 0 ∧ m = .level) ∨ (mode = 1 ∧ m = .edge)) (hl : s.ctl.lineActive = true)
    (h : (s.taken.lineSet m 0).qualified = t) (hq : t.ctl.qualifier = q) :
    exec (.stoplineSet tag mode 0) s = .next (t.replied 0x27 tag (.ok false (.stopLine m 0 q))) :=
  exec_stoplineSet (time := 0) hadm hm
    ((if_pos hl).trans ((State.lineActive_qualifies (s := s.taken.lineSet m 0) rfl rfl).trans h)) hq

theorem State.taken_stopRecord (s : State) : s.taken.ctl.stopRecord = s.ctl.stopRecord := by rw [s.taken_ctl]; rfl

theorem actStop_taken (h : s.ctl.state ≠ .dark) :
    actStop s = (s.judgeStop .host, .ok false (.stopRecord (s.judgeStop .host).ctl.stopRecord)) := if_neg h

theorem actStop_known {r : StopRecord} (h : s.ctl.state = .stopped) (hr : s.ctl.stopRecord = some r)
    (hh : r.causes.host = true) : actStop s = (s, .ok false (.stopRecord (some r))) := by
  rw [actStop_taken (by simp [h]), State.judgeStop_stopped (source := .host) h hr,
    if_pos (show r.causes.has .host = true from hh), hr]

theorem actStop_new {r : StopRecord} (h : s.ctl.state = .stopped) (hr : s.ctl.stopRecord = some r)
    (hh : r.causes.host = false) :
    actStop s =
      ({ s with
          ctl := { s.ctl with stopRecord := some { r with causes := { r.causes with host := true } } }
          port := s.port.offer (.showStop s.time.S (.added .host { r.causes with host := true })) },
        .ok false (.stopRecord (some { r with causes := { r.causes with host := true } }))) := by
  rw [actStop_taken (by simp [h]), State.judgeStop_stopped (source := .host) h hr,
    if_neg (by simp [StopCauses.has, hh])]
  rfl

/-- Settles O31. -/
theorem stopLine : Obligations.StopLine := by
  intro s q ms moved goes counted
  have counts : ∀ {i : Instr} {active : Bool} {y : Sample},
      (∀ u, ((s.quiet.setLine active).atS y).qualified = u → u.time = (s.quiet.atS y).time →
        exec i s = .next (u.atS s.time.S).done) → counted i active y := by
    intro i active y h
    exact ⟨fun hd => h _ (State.qualified_dark (s := (s.quiet.setLine active).atS y) hd) rfl, fun r hs hr =>
      ⟨fun hl => h _ (State.qualified_stopped_known (s := (s.quiet.setLine active).atS y) hs hr hl) rfl,
        fun hl => h _ (State.qualified_stopped_new (s := (s.quiet.setLine active).atS y) hs hr hl) rfl⟩⟩
  refine ⟨fun hq hms => exec_stopLineActive (State.lineActive_waits (s := s.quiet.setLine true) hq hms),
    fun hq hms => counts fun u hu htime => by
      rw [State.atS_same (s := s) htime]
      exact exec_stopLineActive ((State.lineActive_qualifies (s := s.quiet.setLine true) hq hms).trans hu),
    fun hq => exec_stopLineActive (State.lineActive_releasing (s := s.quiet.setLine true) hq),
    fun hq => exec_stopLineActive (State.lineActive_stands (s := s.quiet.setLine true) hq),
    fun hq => exec_stopLineInactive (State.lineInactive_qualifying (s := s.quiet.setLine false) hq),
    fun hq hms => exec_stopLineInactive (State.lineInactive_releases (s := s.quiet.setLine false) hq hms),
    fun hq hms => exec_stopLineInactive (State.lineInactive_idles (s := s.quiet.setLine false) hq hms),
    fun hq => exec_stopLineInactive (State.lineInactive_stands (s := s.quiet.setLine false) hq),
    fun x hv hx => ⟨fun hq => counts fun u hu _ => exec_qualifierTimerExpiry hv hx
        ((actQualifierTimer_qualifying (s := s.quiet.atS (s.takenAt x)) hq).trans hu),
      fun hq => exec_qualifierTimerExpiry hv hx (actQualifierTimer_releasing (s := s.quiet.atS (s.takenAt x)) hq)⟩,
    fun tag hadm => ⟨fun hd => ?_, fun r hs hr => ⟨fun hh => ?_, fun hh => ?_⟩, fun mode time hm => ?_,
      fun mode m time hm => ⟨fun hl => ?_, fun hl ht => ?_, fun hl ht hd => ?_, fun r hl ht hs hr => ⟨fun hc => ?_, fun hc => ?_⟩,
        fun hl ht hd hs => ?_⟩⟩⟩
  · exact exec_refused (i := .stop tag) rfl rfl hadm (if_pos (s.taken_ctl_state.trans hd))
  · exact exec_request_replied (i := .stop tag) rfl rfl hadm
      (actStop_known (s := s.taken) (s.taken_ctl_state.trans hs) (s.taken_stopRecord.trans hr) hh) nofun
  · have run := exec_request_replied (i := .stop tag) rfl rfl hadm
      (actStop_new (s := s.taken) (s.taken_ctl_state.trans hs) (s.taken_stopRecord.trans hr) hh) nofun
    simpa only [State.taken_time] using run
  · exact exec_refused (i := .stoplineSet tag mode time) rfl rfl hadm (actStoplineSet_refused hm time)
  · exact exec_stoplineSet hadm hm (if_neg (by simp [hl])) rfl
  · have hms : min 255 time ≠ 0 := by omega
    refine (exec_stoplineSet hadm hm ((if_pos hl).trans
      (State.lineActive_waits (s := s.taken.lineSet m (min 255 time)) rfl hms)) rfl).trans ?_
    rw [show (s.taken.lineSet m (min 255 time)).time = s.time from s.taken_time]
    rfl
  all_goals subst ht
  · exact exec_stoplineSet_qualifies hadm hm hl
      (State.qualified_dark (s := s.taken.lineSet m 0) (s.taken_ctl_state.trans hd)) rfl
  · exact exec_stoplineSet_qualifies hadm hm hl (State.qualified_stopped_known (s := s.taken.lineSet m 0)
      (s.taken_ctl_state.trans hs) (s.taken_stopRecord.trans hr) hc) rfl
  · refine (exec_stoplineSet_qualifies hadm hm hl (State.qualified_stopped_new (s := s.taken.lineSet m 0)
      (s.taken_ctl_state.trans hs) (s.taken_stopRecord.trans hr) hc) rfl).trans ?_
    rw [← s.taken_time]
    rfl
  · have taken := State.qualified_show (s := s.taken.lineSet m 0) (mt s.taken_ctl_state.symm.trans hd)
      (mt s.taken_ctl_state.symm.trans hs)
    have stopped := ((s.taken.lineSet m 0).qualify .qualified none).takeStop_stopped .line
    generalize ((s.taken.lineSet m 0).qualify .qualified none).takeStop .line = t at taken stopped
    refine ⟨_, exec_stoplineSet_qualifies (q := .qualified) hadm hm hl taken (by rw [stopped.ctl]; rfl), ?_, ?_,
      State.replied_replies ..⟩
    · show t.ctl = { s.taken.ctl with
        state := .stopped, holdPending := none, continuePending := none
        stopRecord := t.ctl.stopRecord
        lineMode := m, qualifyMs := 0, qualifier := .qualified, timerEnd := none }
      rw [stopped.ctl]
      rfl
    · show t.ctl.stopRecord.map _ = _
      rw [stopped.ctl, ← s.taken_ctl_state, ← s.taken_time]
      rfl

/-! ## A stop from every source (R110, R111) -/

/-- The state a stop is taken in, against the one before the command: the control mode, the qualifier, the port and the
present S may have moved, and nothing is put out yet. -/
structure State.StopsIn (s b : State) : Prop where
  cue : b.cue = { s.cue with mode := b.cue.mode, localEntry := b.cue.localEntry }
  show_ : b.ctl.state = s.ctl.state
  click : b.click = s.click
  patches : b.patches = s.patches
  chan : b.chan = s.chan
  vin : b.vin = s.vin
  vout : b.vout = s.vout
  reports : b.reports = s.reports
  pending : b.pending = s.pending
  emitted : b.emitted = []

theorem State.taken_stopsIn (s : State) : s.StopsIn s.taken := by
  have mode : s.taken.cue.mode = .remote := by rw [s.taken_cue]
  refine ⟨?_, s.taken_ctl_state, s.taken_click, s.taken_patches, s.taken_chan, s.taken_vin, s.taken_vout,
    s.taken_reports, s.taken_pending, s.taken_emitted⟩
  rw [mode]
  exact s.taken_cue

/-- R112: the record a stop makes, by what the part was before. -/
theorem State.StopsIn.newStopRecord {b : State} (h : s.StopsIn b) (source : StopSource) :
    b.newStopRecord source =
      { causes := ⟨decide (source = .host), decide (source = .line), decide (source = .md)⟩
        firstCause := source, stopSample := b.time.S, before := s.ctl.state
        running := s.cue.running.map RunningCue.number
        sounded := ((s.click.kept.filter fun r => decide (r.onset ≤ b.time.S)).getLast?).map fun r =>
          ⟨r.bar, r.beatInBar, r.pass⟩
        standby := s.cue.standby, resume := none } := by
  unfold State.newStopRecord
  rw [h.cue, h.click, h.show_]
  cases source <;> rfl

/-- Settles O30. -/
theorem stopTaken : Obligations.StopTaken := by
  intro s hd hs back empty recordOf applies reverted stopped notices
  have all : ∀ {b t u : State} {source : StopSource}, s.StopsIn b → b.Stopped t source →
      u = { t with port := u.port, time := s.time } → stopped b.cue b.time.S u := by
    intro b t u source hb ht hu
    rw [hu]
    refine ⟨ht.click.trans (by rw [hb.click]), ?_, fun n => ?_, fun n => ?_, ?_, rfl, ht.vin.trans hb.vin,
      ht.vout.trans hb.vout, ht.reports.trans hb.reports, ht.pending.trans hb.pending⟩
    · refine ht.cue.trans ?_
      rw [hb.cue]
      rfl
    · refine (ht.patchOf n).trans ?_
      rw [State.patchOf_congr hb.patches]
    · refine (ht.ch n).trans ?_
      rw [hb.cue, State.ch_congr hb.chan, CueEngine.reverted_mode]
      rfl
    · refine ht.emitted.trans ?_
      rw [hb.emitted, List.nil_append]
      simp only [State.ch_congr hb.chan]
  have told : ∀ {b t : State} {source : StopSource}, s.StopsIn b → b.Stopped t source →
      t.port.notices = notices b.port source b.time.S := by
    intro b t source hb ht
    refine ht.notices.trans ?_
    rw [hb.newStopRecord, hb.cue, CueEngine.reverted_mode]
    rfl
  refine ⟨fun tag hadm => ?_, fun hq hms => ?_, fun x hq hv hx => ?_, fun tag mode m hadm hl hm => ?_⟩
  · have ht := s.taken.takeStop_stopped .host
    have act := actStop_taken (s := s.taken) (mt s.taken_ctl_state.symm.trans hd)
    rw [State.judgeStop_show .host (mt s.taken_ctl_state.symm.trans hd) (mt s.taken_ctl_state.symm.trans hs), ht.ctl,
      s.taken_stopsIn.newStopRecord] at act
    have run := exec_request_replied (i := .stop tag) rfl rfl hadm act nofun
    have htime := ht.time.trans s.taken_time
    generalize s.taken.takeStop .host = t at ht run htime
    refine ⟨_, run, ?_, ?_, ?_, ?_⟩
    · rw [← s.taken_time]
      refine all s.taken_stopsIn ht ?_
      rw [← htime]
      rfl
    · refine ht.ctl.trans ?_
      rw [s.taken_stopsIn.newStopRecord, s.taken_time]
      rfl
    · refine Eq.trans ?_ ((told s.taken_stopsIn ht).trans (by rw [s.taken_time]))
      simp [State.replied, ControlPort.answer]
    · refine (State.replied_replies ..).trans ?_
      rw [s.taken_time]
      rfl
  · let b := (s.quiet.setLine true).qualify .qualified none
    have hb : s.StopsIn b := ⟨rfl, rfl, rfl, rfl, rfl, rfl, rfl, rfl, rfl, rfl⟩
    have ht := b.takeStop_stopped .line
    have run := exec_stopLineActive ((State.lineActive_qualifies (s := s.quiet.setLine true) hq hms).trans
      (State.qualified_show (s := s.quiet.setLine true) hd hs))
    have htime : (b.takeStop .line).time = s.time := ht.time
    generalize hx : b.takeStop .line = t at ht htime
    rw [show ((s.quiet.setLine true).qualify .qualified none).takeStop .line = t from hx] at run
    have hnotices := told hb ht
    have hall := all (u := t.done) hb ht (by rw [← htime]; rfl)
    refine ⟨_, run, hall, ?_, ?_⟩
    · refine ht.ctl.trans ?_
      rw [hb.newStopRecord]
      rfl
    · exact (ControlPort.arbitrate_notices _).trans hnotices
  · let b := (s.quiet.atS (s.takenAt x)).qualify .qualified none
    have hb : s.StopsIn b := ⟨rfl, rfl, rfl, rfl, rfl, rfl, rfl, rfl, rfl, rfl⟩
    have ht := b.takeStop_stopped .line
    have run := exec_qualifierTimerExpiry hv hx
      ((actQualifierTimer_qualifying (s := s.quiet.atS (s.takenAt x)) hq).trans
        (State.qualified_show (s := s.quiet.atS (s.takenAt x)) hd hs))
    have htime : ((b.takeStop .line).atS s.time.S).time = s.time := State.atS_time_back (s := s.quiet) ht.time
    generalize hx : b.takeStop .line = t at ht htime
    rw [show ((s.quiet.atS (s.takenAt x)).qualify .qualified none).takeStop .line = t from hx] at run
    have hnotices := told hb ht
    have hall := all (u := (t.atS s.time.S).done) hb ht (by rw [← htime]; rfl)
    refine ⟨_, run, hall, ?_, ?_⟩
    · refine ht.ctl.trans ?_
      rw [hb.newStopRecord]
      rfl
    · exact (ControlPort.arbitrate_notices _).trans hnotices
  · let b := (s.taken.lineSet m 0).qualify .qualified none
    have hb : s.StopsIn b :=
      have k := s.taken_stopsIn
      ⟨k.cue, k.show_, k.click, k.patches, k.chan, k.vin, k.vout, k.reports, k.pending, k.emitted⟩
    have ht := b.takeStop_stopped .line
    have taken := State.qualified_show (s := s.taken.lineSet m 0) (mt s.taken_ctl_state.symm.trans hd)
      (mt s.taken_ctl_state.symm.trans hs)
    have htime : (b.takeStop .line).time = s.time := ht.time.trans s.taken_time
    have hS : b.time.S = s.time.S := congrArg Timebase.S s.taken_time
    have hnotices := told hb ht
    have hrecord := hb.newStopRecord .line
    have hctl := ht.ctl
    rw [hrecord, hS] at hctl
    rw [hS] at hnotices
    generalize hx : b.takeStop .line = t at ht htime hnotices hctl
    have run := exec_stoplineSet_qualifies (q := .qualified) hadm hm hl (taken.trans hx) (by rw [hctl]; rfl)
    have hall := all (u := t.replied 0x27 tag (.ok false (.stopLine m 0 .qualified))) hb ht (by rw [← htime]; rfl)
    rw [hS] at hall
    refine ⟨_, run, hall, hctl, Eq.trans ?_ hnotices, State.replied_replies ..⟩
    simp [State.replied, ControlPort.answer]

end Sys2Proof.Machine
end

section
/-! PROOFS. What handing events to a station and setting its lamps leave of its channel. -/

namespace Sys2Proof.Machine

/-- From `l` to `m` the queue, the late-click count and the lamps alone may differ. -/
def Link.FedTo (l m : Link) : Prop :=
  m = { l with queue := m.queue, lateCount := m.lateCount, cueLamp := m.cueLamp, stopLamp := m.stopLamp }

namespace Link.FedTo

variable {l m k : Link}

theorem refl (l : Link) : l.FedTo l := rfl

theorem trans (h : l.FedTo m) (j : m.FedTo k) : l.FedTo k := by
  unfold FedTo at *
  rw [h] at j
  exact j

theorem state (h : l.FedTo m) : m.state = l.state := by rw [h]

theorem place (l : Link) (e : Event) : l.FedTo (l.place e).1 := by
  unfold Link.place
  repeat' split
  all_goals rfl

theorem hand (l : Link) (e : Event) : l.FedTo (l.hand e).1 := by
  unfold Link.hand
  split
  · exact place l e
  · rfl

theorem handAll (l : Link) (es : List Event) : l.FedTo (l.handAll es) := by
  induction es generalizing l with
  | nil => rfl
  | cons e es ih => exact (hand l e).trans (ih _)

theorem setLampState (l : Link) (k : Lamp) (x : Option LampState) : l.FedTo (l.setLampState k x) := by
  cases k <;> rfl

theorem setLamp (l : Link) (k : Lamp) (source : LampSource) (p : LampPattern) (d : Sample) :
    l.FedTo (l.setLamp k source p d).1 := by
  have cleared : l.FedTo { l with queue := l.queue.filter fun x => !(x.isFor k && decide (d ≤ x.due)) } := rfl
  unfold Link.setLamp
  dsimp only
  split
  · exact (cleared.trans (setLampState _ _ _)).trans (hand _ _)
  · exact cleared.trans (setLampState _ _ _)

theorem tickLamp (k : Lamp) (l : Link) (x : Sample) : l.FedTo (l.tickLamp k x) := by
  unfold Link.tickLamp
  repeat' split
  · dsimp only
    split
    · exact setLampState _ _ _
    · exact (setLampState _ _ _).trans (hand _ _)
  all_goals rfl

end Link.FedTo

namespace Channel.fedTo

variable {c d e : Channel}

theorem refl (c : Channel) : c.fedTo c := ⟨rfl, fun _ => rfl⟩

theorem trans (h : c.fedTo d) (k : d.fedTo e) : c.fedTo e := by
  obtain ⟨hd, hdown⟩ := h
  obtain ⟨he, edown⟩ := k
  refine ⟨?_, fun hu => ?_⟩
  · rw [hd] at he
    exact he
  · rw [edown (by rw [hdown hu]; exact hu), hdown hu]

/-- A link fed only while it is UP. -/
theorem of_link {m : Link} (h : c.link.FedTo m) : c.fedTo (if c.link.state = .up then { c with link := m } else c) := by
  split
  next hu =>
    refine ⟨?_, fun k => absurd hu k⟩
    have h' : m = { c.link with queue := m.queue, lateCount := m.lateCount, cueLamp := m.cueLamp, stopLamp := m.stopLamp } := h
    exact congrArg (fun l => { c with link := l }) h'
  next => exact refl c

theorem handed (c : Channel) (x : Event) : c.fedTo (c.handed x) := by
  refine ⟨?_, fun hu => ?_⟩
  · exact congrArg (fun l => { c with link := l }) (Link.FedTo.hand c.link x)
  · unfold Channel.handed Link.hand
    rw [if_neg hu]

theorem stopLampSet (c : Channel) (st : ShowState) (y : Sample) : c.fedTo (c.stopLampSet st y) :=
  of_link (.setLamp ..)

theorem cueLampSet (c : Channel) (p : LampPattern) (y : Sample) : c.fedTo (c.cueLampSet p y) := of_link (.setLamp ..)

theorem warnSet (c : Channel) (old new : List Station) (n : Station) (y : Sample) :
    c.fedTo (c.warnSet old new n y) := by
  unfold Channel.warnSet
  split
  · exact cueLampSet ..
  · split
    · exact cueLampSet ..
    · exact refl c

end Channel.fedTo

end Sys2Proof.Machine
end

section
/-! PROOFS. Links sought and attempts that fail (O36). -/

namespace Sys2Proof.Machine

variable {s : State} {n : Station}

/-! ## Commands of one station -/

section
variable {i : Instr} {act f : State → State} {x : Sample} {c : Channel} {p : PatchRecord} {q : ControlPort}
  {es : List Emission}

/-- A command that changes one station's records, at the present S. -/
theorem exec_written (hi : exec i s = command act s)
    (h : act (s.quiet.written n (s.ch n) (s.patchOf n) s.port []) = s.quiet.written n c p q es) :
    exec i s = .next { (s.quiet.setCh n c).setPatch n p with port := q, emitted := es }.done := by
  refine hi.trans (command_done ?_)
  conv_lhs => rw [← s.quiet.written_self n]
  exact h

/-- A command that changes one station's records, at a sample reached (R2). -/
theorem exec_written_at (hi : exec i s = command act s) (hact : act s.quiet = s.quiet.whenReached (some x) f)
    (hx : x ≤ s.time.S)
    (h : f ((s.quiet.atS (s.takenAt x)).written n (s.ch n) (s.patchOf n) s.port []) =
      (s.quiet.atS (s.takenAt x)).written n c p q es) :
    exec i s = .next { (s.quiet.setCh n c).setPatch n p with port := q, emitted := es }.done := by
  refine hi.trans ((command_at hact hx).trans ?_)
  have self := (s.quiet.atS (s.takenAt x)).written_self n
  rw [← self]
  exact congrArg (fun t : State => Host.Outcome.next (t.atS s.time.S).done) h

/-- The form of a station's records of which the patch record stands. -/
theorem State.setPatch_stands (s : State) (n : Station) (c : Channel) :
    (s.setCh n c).setPatch n (s.patchOf n) = s.setCh n c := State.setPatch_patchOf (s.setCh n c) n

theorem patch_stands {o : Host.Outcome State Fault Refusal}
    (h : o = .next { (s.quiet.setCh n c).setPatch n (s.patchOf n) with port := q, emitted := es }.done) :
    o = .next { s.quiet.setCh n c with port := q, emitted := es }.done :=
  h.trans (congrArg (fun t : State => Host.Outcome.next { t with port := q, emitted := es }.done)
    (s.quiet.setPatch_stands n c))

theorem exec_channel (hi : exec i s = command act s)
    (h : act (s.quiet.written n (s.ch n) (s.patchOf n) s.port []) = s.quiet.written n c (s.patchOf n) q es) :
    exec i s = .next { s.quiet.setCh n c with port := q, emitted := es }.done :=
  patch_stands (exec_written hi h)

theorem exec_channel_at (hi : exec i s = command act s) (hact : act s.quiet = s.quiet.whenReached (some x) f)
    (hx : x ≤ s.time.S)
    (h : f ((s.quiet.atS (s.takenAt x)).written n (s.ch n) (s.patchOf n) s.port []) =
      (s.quiet.atS (s.takenAt x)).written n c (s.patchOf n) q es) :
    exec i s = .next { s.quiet.setCh n c with port := q, emitted := es }.done :=
  patch_stands (exec_written_at hi hact hx h)

end

/-- R128: a link after its attempt has failed. -/
def Link.failed (l : Link) (cause : LinkCause) (y : Sample) : Link :=
  { l with tries := l.tries + 1, lastFailure := some (cause, y), page := none }

theorem Link.awaited_training {l : Link} {p : Page} (ht : l.state = .training) (hp : l.page = some p) :
    l.awaited = some p := (if_pos ht).trans hp

theorem Link.repeatAt_training {l : Link} {p : Page} (ht : l.state = .training) (hp : l.page = some p) :
    l.repeatAt = some p.nextRepeat := congrArg _ (Link.awaited_training ht hp)

theorem Link.pageEnd_training {l : Link} {p : Page} (ht : l.state = .training) (hp : l.page = some p) :
    l.pageEnd = some (p.firstSent + 960) := congrArg _ (Link.awaited_training ht hp)

namespace State

variable (s : State) (n : Station) (c : Channel) (p : PatchRecord) (q : ControlPort) (es : List Emission)

/-! ## Seeking (R124) -/

theorem written_actSeekHoldEnd :
    actSeekHoldEnd n (s.written n c p q es) =
      s.written n { c with link := { c.link with seekHoldEnd := none, nextBurst := some (s.time.S + 4800) } } p q
        (es ++ [.link n s.time.S .seekBurst]) := by
  simp [actSeekHoldEnd]

theorem written_actSeekAnswer (h : c.link.state = .seek)
    (hh : c.link.seekHoldEnd = none ∨ reached c.link.seekHoldEnd s.time.S = true) :
    actSeekAnswer n (s.written n c p q es) =
      s.written n { c with link := c.link.attempting c.link.rate s.time.S } p
        (q.offer (.linkState n .seek .training c.link.rate .answered s.time.S none))
        (es ++ [c.link.pageFrame n .ident s.time.S none]) := by
  have taken : (s.written n c p q es).ch n = c := written_ch ..
  unfold actSeekAnswer
  simp only [taken, written_time]
  rw [if_pos ⟨h, hh⟩]
  simp [Link.attempting, Link.pageFrame, Link.paged]

theorem actSeekAnswer_ignored (s : State)
    (h : (s.ch n).link.state ≠ .seek ∨ ∃ x, (s.ch n).link.seekHoldEnd = some x ∧ s.time.S < x) :
    actSeekAnswer n s = s := by
  refine if_neg fun ⟨seek, hold⟩ => ?_
  rcases h with h | ⟨x, hx, lt⟩
  · exact h seek
  · simp [hx, reached, Nat.not_le.mpr lt] at hold

/-! ## Pages that time out (R125, R128) -/

theorem written_actPageRepeat {x : Page} (h : c.link.page = some x) :
    actPageRepeat n (s.written n c p q es) =
      s.written n { c with link := { c.link with page := some { x with nextRepeat := x.nextRepeat + 240 } } } p q
        (es ++ [.link n s.time.S (.page x)]) := by
  simp [actPageRepeat, h, Config.pageRepeat]

variable {cause : LinkCause}

theorem written_failAttempt_again (h : c.link.tries + 1 < c.assigned.linkTries) :
    (s.written n c p q es).failAttempt n cause =
      s.written n { c with link := (c.link.failed cause s.time.S).attempting c.link.rate s.time.S } p q
        (es ++ [c.link.pageFrame n .ident s.time.S none]) := by
  simp [failAttempt, h, Link.failed, Link.pageFrame]

theorem written_failAttempt_downshift (h : c.assigned.linkTries ≤ c.link.tries + 1) (hr : c.link.rate = .full)
    (ht : c.link.state = .training) :
    (s.written n c p q es).failAttempt n cause =
      s.written n
        { c with link := { c.link.failed cause s.time.S with tries := 0 }.attempting .reduced s.time.S } p
        (q.offer (.linkState n .training .training .reduced .downshift s.time.S none))
        (es ++ [c.link.pageFrame n .ident s.time.S none]) := by
  simp [failAttempt, Nat.not_lt.mpr h, hr, ht, Link.failed, Link.pageFrame, Link.attempting, Link.paged]

theorem written_failAttempt_exhausted (h : c.assigned.linkTries ≤ c.link.tries + 1) (hr : c.link.rate = .reduced) :
    (s.written n c p q es).failAttempt n cause =
      s.written n
        { c with link := (c.link.failed cause s.time.S).seeking s.time.S (some (s.time.S + 48000)) } p
        (q.offer (.linkState n .training .seek .full .exhausted s.time.S none))
        (es ++ [.link n s.time.S .seekBurst]) := by
  simp [failAttempt, Nat.not_lt.mpr h, hr, Link.failed, Link.seeking, Config.seekHold]

end State

/-- Settles O36: each command of a link in SEEK or TRAINING acts on its station alone; the failed attempt splits on
the tries left and the rate. -/
theorem seekingAndRetrying : Obligations.SeekingAndRetrying := by
  intro s n
  refine ⟨fun x hs hb hx => ?_, fun x hs hb hx => ?_, fun hs hold => ?_, fun hs => ?_, fun p ht hp => ⟨fun hx => ?_,
    fun hx => ⟨fun again => ?_, fun last full => ?_, fun last reduced => ?_⟩⟩⟩
  · refine exec_channel_at (x := x) (f := fun s => s.burst n) rfl ?_ hx (State.written_burst ..)
    exact (if_pos hs).trans (congrArg (fun v => s.quiet.whenReached v _) hb)
  · refine exec_channel_at (x := x) rfl ?_ hx (State.written_actSeekHoldEnd ..)
    exact (if_pos hs).trans (congrArg (fun v => s.quiet.whenReached v _) hb)
  · refine exec_channel rfl (State.written_actSeekAnswer _ _ _ _ _ _ hs ?_)
    cases hh : (s.ch n).link.seekHoldEnd with
    | none => exact .inl rfl
    | some x => exact .inr (decide_eq_true (hold x hh))
  · exact command_idle (State.actSeekAnswer_ignored n s.quiet hs)
  · exact exec_channel_at (act := fun s => s.whenReached (s.ch n).link.repeatAt (actPageRepeat n)) rfl
      (congrArg (fun v => s.quiet.whenReached v _) (Link.repeatAt_training ht hp)) hx
      (State.written_actPageRepeat _ _ _ _ _ _ hp)
  all_goals
    refine exec_channel_at
      (act := fun s => s.whenReached (s.ch n).link.pageEnd fun s => s.failAttempt n .pageTimeout) rfl
      (congrArg (fun v => s.quiet.whenReached v _) (Link.pageEnd_training ht hp)) hx ?_
  · exact State.written_failAttempt_again _ _ _ _ _ _ again
  · exact State.written_failAttempt_downshift _ _ _ _ _ _ last full ht
  · exact State.written_failAttempt_exhausted _ _ _ _ _ _ last reduced

end Sys2Proof.Machine
end

section
/-! PROOFS. The five training replies (O37). -/

namespace Sys2Proof.Machine

variable {s : State} {n : Station}

/-! ## A reply taken or ignored (R125) -/

/-- R125: the page of kind `k` with this toggle awaits its reply. -/
def Link.Awaits (l : Link) (k : PageKind) (toggle : Bool) : Prop :=
  l.state = .training ∧ ∃ p, l.page = some p ∧ p.kind = k ∧ p.toggle = toggle

theorem Link.awaits_iff {l : Link} {k : PageKind} {toggle : Bool} : l.awaits k toggle = true ↔ l.Awaits k toggle := by
  unfold awaits Awaits
  cases l.page with
  | none => simp
  | some p => simp [and_assoc]

section
variable {k : PageKind} {toggle : Bool} {i : Instr} {act : State → State}

theorem exec_reply_ignored (hi : exec i s = command (fun s => s.takeReply n k toggle act) s)
    (h : ¬ (s.ch n).link.Awaits k toggle) : exec i s = .next s.quiet.done :=
  hi.trans (command_idle (if_neg (mt Link.awaits_iff.mp h)))

namespace State

variable (s : State) (n : Station) (c : Channel) (p : PatchRecord) (q : ControlPort) (es : List Emission)

theorem written_takeReply (h : c.link.Awaits k toggle) :
    (s.written n c p q es).takeReply n k toggle act =
      act (s.written n { c with link := { c.link with page := none } } p q es) := by
  simp [takeReply, Link.awaits_iff.mpr h]

end State

variable {c : Channel} {p : PatchRecord} {q : ControlPort} {es : List Emission}

/-- A reply taken changes its station's records. -/
theorem exec_reply (hi : exec i s = command (fun s => s.takeReply n k toggle act) s)
    (h : (s.ch n).link.Awaits k toggle)
    (hact : act (s.quiet.written n { s.ch n with link := { (s.ch n).link with page := none } } (s.patchOf n) s.port []) =
      s.quiet.written n c p q es) :
    exec i s = .next { (s.quiet.setCh n c).setPatch n p with port := q, emitted := es }.done :=
  exec_written hi ((State.written_takeReply _ _ _ _ _ _ h).trans hact)

theorem exec_reply_channel (hi : exec i s = command (fun s => s.takeReply n k toggle act) s)
    (h : (s.ch n).link.Awaits k toggle)
    (hact : act (s.quiet.written n { s.ch n with link := { (s.ch n).link with page := none } } (s.patchOf n) s.port []) =
      s.quiet.written n c (s.patchOf n) q es) :
    exec i s = .next { s.quiet.setCh n c with port := q, emitted := es }.done :=
  exec_channel hi ((State.written_takeReply _ _ _ _ _ _ h).trans hact)

end

theorem Channel.fedTo.stationSerial {c d : Channel} (h : c.fedTo d) :
    d.link.stationSerial = c.link.stationSerial := by rw [h.1]

theorem Channel.fedTo.linkState {c d : Channel} (h : c.fedTo d) : d.link.state = c.link.state := by rw [h.1]

/-! ## The replies of an attempt (R126, R127) -/

/-- R126: a link that knows the rates its station offers. -/
def Link.known (l : Link) (full reduced rig : Bool) : Link :=
  { l with ratesOffered := some (full, reduced), rigCapable := some rig }

namespace State

variable (s : State) (n : Station) (c : Channel) (p : PatchRecord) (q : ControlPort) (es : List Emission)

theorem written_actIdentReply (kind : StationKind) (serial : Nat) :
    actIdentReply n kind serial (s.written n c p q es) =
      s.written n
        { c with
          link := { c.link with stationSerial := some serial, reportedKind := some kind }.paged .ability s.time.S none }
        p q (es ++ [c.link.pageFrame n .ability s.time.S none]) := by
  simp [actIdentReply, written_sendPage, Link.pageFrame]

section
variable {full reduced rig : Bool}

theorem actAbilityReply_eq (s : State) :
    actAbilityReply n full reduced rig s =
      (if (s.ch n).link.rate = .full ∧ full = true ∨ (s.ch n).link.rate = .reduced ∧ reduced = true then
        (s.mapLink n fun l => l.known full reduced rig).sendPage n .delayProbe
      else (s.mapLink n fun l => l.known full reduced rig).failAttempt n .pageTimeout) := by
  unfold actAbilityReply
  cases h : (s.ch n).link.rate <;> simp <;> rfl

theorem written_actAbilityReply_offered
    (h : c.link.rate = .full ∧ full = true ∨ c.link.rate = .reduced ∧ reduced = true) :
    actAbilityReply n full reduced rig (s.written n c p q es) =
      s.written n { c with link := (c.link.known full reduced rig).paged .delayProbe s.time.S none } p q
        (es ++ [c.link.pageFrame n .delayProbe s.time.S none]) := by
  rw [actAbilityReply_eq, if_pos (by simpa using h), written_mapLink, written_sendPage]
  rfl

theorem written_actAbilityReply_failed
    (h : ¬ (c.link.rate = .full ∧ full = true ∨ c.link.rate = .reduced ∧ reduced = true))
    (again : c.link.tries + 1 < c.assigned.linkTries) :
    actAbilityReply n full reduced rig (s.written n c p q es) =
      s.written n
        { c with
          link := ((c.link.known full reduced rig).failed .pageTimeout s.time.S).attempting c.link.rate s.time.S } p q
        (es ++ [c.link.pageFrame n .ident s.time.S none]) := by
  rw [actAbilityReply_eq, if_neg (by simpa using h), written_mapLink]
  exact written_failAttempt_again _ _ _ _ _ _ again

end

section
variable {stamp turnaround : Nat}

theorem written_actDelayProbeReply_far (hs : stamp + turnaround ≤ s.time.S)
    (h : 1200 < (s.time.S - stamp - turnaround + 1) / 2) (again : c.link.tries + 1 < c.assigned.linkTries) :
    actDelayProbeReply n stamp turnaround (s.written n c p q es) =
      s.written n
        { c with link := (c.link.failed .tooFar s.time.S).attempting c.link.rate s.time.S } p q
        (es ++ [c.link.pageFrame n .ident s.time.S none]) := by
  unfold actDelayProbeReply
  rw [written_time, probeDelay, if_pos hs]
  exact (if_pos h).trans (written_failAttempt_again _ _ _ _ _ _ again)

theorem written_deferMark : (s.written n c (s.patchOf n) q es).deferMark n = s.deferMark n := by
  unfold deferMark
  rw [written_patchOf, written_time]

theorem written_actDelayProbeReply_near (hs : stamp + turnaround ≤ s.time.S)
    (h : (s.time.S - stamp - turnaround + 1) / 2 ≤ 1200) :
    actDelayProbeReply n stamp turnaround (s.written n c (s.patchOf n) q es) =
      (let d := (s.time.S - stamp - turnaround + 1) / 2
       let page : SettingsPage := ⟨c.assigned, d, (s.patchOf n).expected, s.deferMark n⟩
       s.written n { c with link := { c.link with delay := some d }.paged .settings s.time.S (some page) }
         (s.patchOf n) q (es ++ [c.link.pageFrame n .settings s.time.S (some page)])) := by
  unfold actDelayProbeReply
  rw [written_time, probeDelay, if_pos hs]
  refine (if_neg (Nat.not_lt.mpr h)).trans ?_
  rw [written_mapLink, written_sendPage]
  simp [settingsPage, written_deferMark, Link.pageFrame]

end

/-! ## The SETTINGS reply (R95) -/

section
variable {patch : Option Patch} {h : HeldState}

theorem written_patchTrained_none (he : p.entry = none) :
    (s.written n c p q es).patchTrained n patch h =
      s.written n c { p with confirmed := patch, held := h }
        (if p.expected ≠ none ∧ p.expected ≠ patch then
          q.offer (.patchMismatch n .training s.time.S patch p.expected) else q) es := by
  have mis : (⟨patch, p.expected, h, p.serial, none⟩ : PatchRecord).mismatched = true ↔
      p.expected ≠ none ∧ p.expected ≠ patch := by
    simp [PatchRecord.mismatched, Option.isSome_iff_ne_none, eq_comm (a := patch)]
  simp only [patchTrained, written_patchOf, he, written_setPatch, mis, written_patchMismatch]
  split <;> rfl

theorem written_patchTrained_sent {e : PendingEntry} {due : Sample} {serial : Nat} (he : p.entry = some e)
    (hs : e.phase.sentAs = some (due, serial)) :
    (s.written n c p q es).patchTrained n patch h =
      s.written n c { p with confirmed := patch, held := h, entry := none }
        (let t := q.offer (.patchState n .trained s.time.S .none_ e.patch (some (due, serial)))
         if patch = p.expected then t else t.offer (.patchMismatch n .training s.time.S patch p.expected)) es := by
  have sent : e.phase.isSent = true := by
    obtain ⟨x, cp, ph⟩ := e
    cases ph <;> simp_all [PendingPhase.sentAs, PendingPhase.isSent]
  simp only [patchTrained, written_patchOf, he, sent, if_true, written_setPatch, written_patchState, hs,
    written_patchMismatch]
  split <;> rfl

theorem written_patchTrained_waiting {e : PendingEntry} (he : p.entry = some e) (hs : e.phase.sentAs = none) :
    (s.written n c p q es).patchTrained n patch h =
      s.written n c
        (if patch = p.expected then { p with confirmed := patch, held := h, entry := none }
         else { p with confirmed := patch, held := h }) q es := by
  have sent : e.phase.isSent = false := by
    obtain ⟨x, cp, ph⟩ := e
    cases ph <;> simp_all [PendingPhase.sentAs, PendingPhase.isSent]
  simp only [patchTrained, written_patchOf, he, sent, Bool.false_eq_true, if_false, written_setPatch]
  split <;> rfl

/-- R95, R126: the reported part is set, the tracker told, and READY sent. -/
theorem written_actSettingsReply {r : StationReport} {p' : PatchRecord} {q' : ControlPort}
    (ht : (s.written n { c with reported := ⟨some r.actual, r.heldMask, r.lamps⟩ } p q es).patchTrained n patch h =
      s.written n { c with reported := ⟨some r.actual, r.heldMask, r.lamps⟩ } p' q' es) :
    actSettingsReply n r patch h (s.written n c p q es) =
      s.written n
        { c with
          reported := ⟨some r.actual, r.heldMask, r.lamps⟩, link := c.link.paged .ready s.time.S none } p' q'
        (es ++ [c.link.pageFrame n .ready s.time.S none]) := by
  unfold actSettingsReply setReported
  rw [written_setCh, written_ch, ht, written_sendPage]
  rfl

end

/-! ## The READY reply (R129) -/

theorem written_setLamp (k : Lamp) (source : LampSource) (x : LampPattern) (d : Sample) :
    (s.written n c p q es).setLamp n k source x d =
      s.written n
        (if c.link.state = .up then { c with link := (c.link.setLamp k source x d).1 } else c) p q es := by
  unfold setLamp
  rw [written_ch, written_mapLink]
  simp only [Channel.isUp_iff]
  split <;> rfl

/-- R129: the lamps of a station at link-up. -/
def litAtUp (s : State) (n : Station) (c : Channel) : Channel :=
  (c.cueLampSet (if n ∈ s.cue.book.warnList s.cue.warned then warnPattern else offPattern) s.time.S).stopLampSet
    s.ctl.state s.time.S

/-- R129: the notice of a link that comes UP. -/
def trainedNotice (s : State) (n : Station) (l : Link) : Notice :=
  .linkState n .training l.state l.rate .trained s.time.S
    (some (l.delay.getD 0, l.lead, l.stationSerial.getD 0, decide (l.serialLastUp ≠ some (l.stationSerial.getD 0))))

/-- R129: a channel fed at link-up is UP as it was. -/
theorem litAtUp_fedTo : c.fedTo (s.litAtUp n c) :=
  (Channel.fedTo.cueLampSet ..).trans (Channel.fedTo.stopLampSet ..)

theorem trainedNotice_fed {s : State} {c d : Channel} (h : c.fedTo d) :
    s.trainedNotice n d.link = s.trainedNotice n c.link := by
  rw [h.1]
  rfl

/-- R129: the steps of a READY reply, by what the tracker does at link-up. -/
theorem written_actReadyReply {c' : Channel} {p' : PatchRecord}
    (hp : (s.written n { c with link := c.link.up s.time.S } p q es).patchLinkUp n = s.written n c' p' q es) :
    actReadyReply n (s.written n c p q es) =
      s.written n
        { s.litAtUp n c' with link := { (s.litAtUp n c').link with serialLastUp := c'.link.stationSerial } } p'
        (q.offer (s.trainedNotice n c'.link)) es := by
  have fed := s.litAtUp_fedTo n c'
  rw [← trainedNotice_fed n fed, ← fed.stationSerial]
  unfold actReadyReply
  rw [written_mapLink, written_time, hp]
  dsimp only
  rw [written_setLamp]
  unfold stopLamp
  rw [written_setLamp, written_linkNotice, written_mapLink, written_ch]
  rfl

theorem written_patchLinkUp_stands (h : ∀ e, p.entry = some e → e.phase.notWaiting) :
    (s.written n c p q es).patchLinkUp n = s.written n c p q es := by
  unfold patchLinkUp
  rw [written_patchOf]
  obtain ⟨a, b, x, k, entry⟩ := p
  rcases entry with _ | ⟨patch, cp, _ | _ | _⟩
  · rfl
  · exact (h _ rfl).elim
  all_goals rfl

section
variable {patch : Patch} {cp : Sample} {k : Nat} {im : Sample} {dl : Option Sample}

theorem written_patchLinkUp_held (he : p.entry = some ⟨patch, cp, .waitingRelease k im dl⟩) (hh : p.held = .held)
    (hd : ∀ x, dl = some x → s.time.S < x) :
    (s.written n c p q es).patchLinkUp n = s.written n c p q es := by
  have early : reached dl s.time.S = false := by
    cases dl with
    | none => rfl
    | some x => exact decide_eq_false (Nat.not_le.mpr (hd x rfl))
  simp [patchLinkUp, he, hh, early]

theorem written_patchLinkUp_sent (he : p.entry = some ⟨patch, cp, .waitingRelease k im dl⟩)
    (hr : p.held = .clear ∨ ∃ x, dl = some x ∧ x ≤ s.time.S) :
    (s.written n c p q es).patchLinkUp n =
      s.written n
        (c.handed (.patch (max (s.time.S + c.link.lead) cp) patch (reached dl s.time.S) ((p.serial + 1) % 256)))
        (p.sent patch (max (s.time.S + c.link.lead) cp) (reached dl s.time.S) cp c.link.lead) q es := by
  have release : reached dl s.time.S = false → p.held = .clear := fun early =>
    hr.resolve_right fun ⟨x, hx, le⟩ => by simp [hx, reached, Nat.not_lt.mpr le] at early
  cases hl : reached dl s.time.S <;> simp [patchLinkUp, he, hl, sendWaiting, waitDue, release]

end

end State

section
variable {toggle : Bool}

/-- R129: a taken READY reply, by what the tracker does at link-up. -/
theorem exec_readyReply (h : (s.ch n).link.Awaits .ready toggle) {c' : Channel} {p' : PatchRecord}
    (hp : (s.quiet.written n
        { s.ch n with link := { (s.ch n).link with page := none }.up s.time.S } (s.patchOf n) s.port []).patchLinkUp n =
      s.quiet.written n c' p' s.port []) :
    exec (.readyReply n toggle) s =
      .next
        { (s.quiet.setCh n
            { s.litAtUp n c' with
              link := { (s.litAtUp n c').link with serialLastUp := c'.link.stationSerial } }).setPatch n p' with
          port := s.port.offer (s.trainedNotice n c'.link), emitted := [] }.done :=
  exec_reply rfl h (State.written_actReadyReply _ _ _ _ _ _ hp)

end

/-- Settles O37: a reply is taken or ignored by `Link.awaits_iff`; each kind taken is one equation of its act. -/
theorem trainingReplies : Obligations.TrainingReplies := by
  intro s n toggle
  have up (c' : Channel) (hc : c'.link.state = .up) : (s.litAtUp n c').link.state = .up :=
    (s.litAtUp_fedTo n c').linkState.trans hc
  refine ⟨fun kind serial => ⟨fun h => ?_, exec_reply_ignored rfl⟩,
    fun full reduced rig => ⟨fun h ho => ?_, fun h ho again => ?_, exec_reply_ignored rfl⟩,
    fun stamp turnaround hs => ⟨fun h near => ?_, fun h far again => ?_, exec_reply_ignored rfl⟩,
    fun r patch st => ⟨fun h he => ?_, fun e due serial h he hs => ?_, fun e h he hs => ?_, exec_reply_ignored rfl⟩,
    fun h he => ?_, fun patch cp k im dl h he hh hd => ?_, fun patch cp k im dl h he hr => ?_, exec_reply_ignored rfl⟩
  · exact exec_reply_channel rfl h (State.written_actIdentReply ..)
  · exact exec_reply_channel rfl h (State.written_actAbilityReply_offered _ _ _ _ _ _ ho)
  · exact exec_reply_channel rfl h (State.written_actAbilityReply_failed _ _ _ _ _ _ ho again)
  · exact exec_reply_channel rfl h (State.written_actDelayProbeReply_near s.quiet _ _ _ _ hs near)
  · exact exec_reply_channel rfl h (State.written_actDelayProbeReply_far _ _ _ _ _ _ hs far again)
  · exact exec_reply rfl h
      (State.written_actSettingsReply _ _ _ _ _ _ (State.written_patchTrained_none _ _ _ _ _ _ he))
  · exact exec_reply rfl h
      (State.written_actSettingsReply _ _ _ _ _ _ (State.written_patchTrained_sent _ _ _ _ _ _ he hs))
  · have taken := exec_reply (i := .settingsReply n toggle r patch st) rfl h
      (State.written_actSettingsReply _ _ _ _ _ _ (State.written_patchTrained_waiting _ _ _ _ _ _ he hs))
    exact taken
  · exact patch_stands (exec_readyReply h (State.written_patchLinkUp_stands _ _ _ _ _ _ he))
  · refine ⟨_, patch_stands (exec_readyReply h (State.written_patchLinkUp_held _ _ _ _ _ _ he hh hd)), ?_, rfl⟩
    exact (congrArg (fun c : Channel => c.link.state) (State.ch_setCh_self ..)).trans (up _ rfl)
  · refine ⟨_, exec_readyReply h (State.written_patchLinkUp_sent _ _ _ _ _ _ he hr), ?_, ?_⟩
    · refine (congrArg (fun c : Channel => c.link.state) (State.ch_setCh_self ..)).trans (up _ ?_)
      exact (Channel.fedTo.handed ..).linkState
    · exact State.patchOf_setPatch_self ..

end Sys2Proof.Machine
end

section
/-! PROOFS. Links kept and lost, and RETRAIN (O38). -/

namespace Sys2Proof.Machine

variable {s : State} {n : Station}

/-! ## Acts on the stations in use -/

theorem State.inUse_eq (s : State) :
    s.inUse = (List.finRange 24).filter fun m => decide ((s.ch m).assigned.role ≠ .unused) := by
  unfold inUse
  rw [allStations_eq]
  rfl

theorem State.inUse_nodup (s : State) : s.inUse.Nodup := allStations_nodup.filter _

theorem State.mem_inUse {s : State} {m : Station} : m ∈ s.inUse ↔ (s.ch m).assigned.role ≠ .unused := by
  simp [inUse, mem_allStations, Channel.inUse]

theorem State.taken_ch (s : State) (m : Station) : s.taken.ch m = s.ch m := by
  unfold ch
  rw [s.taken_chan]

theorem State.taken_patchOf (s : State) (m : Station) : s.taken.patchOf m = s.patchOf m := by
  unfold patchOf
  rw [s.taken_patches]

theorem State.taken_inUse (s : State) : s.taken.inUse = s.inUse := by simp only [inUse, taken_ch]

section
variable {f : Station → State → State} (hf : ∀ n, ActsOn n (f n)) (ns : List Station) (nd : ns.Nodup) (m : Station)
  (s : State)
include hf nd

/-- Stations named once are acted on, each as it stood, and the others stand. -/
theorem forStations_ch : (forStations f ns s).ch m = if m ∈ ns then (f m s).ch m else s.ch m := by
  split
  next h => exact (forStations_at hf m ns nd h s).1
  next h => exact (forStations_other hf m ns h s).1

theorem forStations_patchOf :
    (forStations f ns s).patchOf m = if m ∈ ns then (f m s).patchOf m else s.patchOf m := by
  split
  next h => exact (forStations_at hf m ns nd h s).2
  next h => exact (forStations_other hf m ns h s).2

end

/-! ## Check errors (R131) -/

namespace State

variable (s : State) (n : Station) (c : Channel) (p : PatchRecord) (q : ControlPort) (es : List Emission)

theorem written_actCheckError_lost (h : c.link.state = .up) (he : c.assigned.errorLimit ≤ c.link.errorCount + 1) :
    actCheckError n (s.written n c p q es) =
      s.written n { c.down with link := c.down.link.seeking s.time.S none } p.linkLost
        (q.linkLost n c p .seek .errors s.time.S) (es ++ [.link n s.time.S .seekBurst]) := by
  simp only [actCheckError, written_ch, Channel.isUp_iff, h, if_true, written_mapLink, he]
  rw [written_leaveUp_seek _ _ _ _ _ _ (by decide) (by decide)]
  rfl

theorem written_actCheckError_counted (h : c.link.state = .up) (he : c.link.errorCount + 1 < c.assigned.errorLimit) :
    actCheckError n (s.written n c p q es) =
      s.written n { c with link := { c.link with errorCount := c.link.errorCount + 1 } } p q es := by
  simp only [actCheckError, written_ch, Channel.isUp_iff, h, if_true, written_mapLink, if_neg (Nat.not_le.mpr he)]

/-! ## RETRAIN of one station (R133) -/

theorem written_retrainOne_up (h : c.link.state = .up) :
    retrainOne n (s.written n c p q es) =
      s.written n { c.down with link := { c.down.link with tries := 0 }.attempting .full s.time.S } p.linkLost
        (q.linkLost n c p .training .retrain s.time.S) (es ++ [c.link.pageFrame n .ident s.time.S none]) := by
  simp only [retrainOne, written_ch, h]
  exact written_leaveUp_retrain ..

theorem written_retrainOne_training (h : c.link.state = .training) :
    retrainOne n (s.written n c p q es) =
      s.written n { c with link := { c.link with tries := 0 }.attempting .full s.time.S } p
        (if c.link.rate = .reduced then q.offer (.linkState n .training .training .full .retrain s.time.S none) else q)
        (es ++ [c.link.pageFrame n .ident s.time.S none]) := by
  simp only [retrainOne, written_ch, h, written_mapLink, written_linkNotice]
  split <;> exact written_startAttempt ..

theorem written_retrainOne_seek (h : c.link.state = .seek) :
    retrainOne n (s.written n c p q es) =
      s.written n { c with link := { c.link with seekHoldEnd := none, nextBurst := some (s.time.S + 4800) } } p q
        (es ++ [.link n s.time.S .seekBurst]) := by
  refine Eq.trans ?_ (written_actSeekHoldEnd ..)
  unfold retrainOne
  dsimp only
  rw [written_ch, h]

theorem written_retrainOne_off (h : c.link.state = .off) :
    retrainOne n (s.written n c p q es) = s.written n c p q es := by
  simp only [retrainOne, written_ch, h]

end State

/-- R133: the channel of a station retrained at `y`. -/
def Channel.retrained (c : Channel) (y : Sample) : Channel :=
  match c.link.state with
  | .up => { c.down with link := { c.down.link with tries := 0 }.attempting .full y }
  | .training => { c with link := { c.link with tries := 0 }.attempting .full y }
  | .seek => { c with link := { c.link with seekHoldEnd := none, nextBurst := some (y + 4800) } }
  | .off => c

/-- R133: what a RETRAIN at the present S puts on a station's link. -/
def State.retrainFrames (n : Station) (s : State) : List Emission :=
  match (s.ch n).link.state with
  | .up | .training => [(s.ch n).link.pageFrame n .ident s.time.S none]
  | .seek => [.link n s.time.S .seekBurst]
  | .off => []

/-- R133: RETRAIN of one station, but for the notices. -/
theorem State.retrainOne_eq (n : Station) (s : State) :
    ∃ q, retrainOne n s =
      s.written n ((s.ch n).retrained s.time.S)
        (if (s.ch n).link.state = .up then (s.patchOf n).linkLost else s.patchOf n) q
        (s.emitted ++ s.retrainFrames n) := by
  have self : retrainOne n s = retrainOne n (s.written n (s.ch n) (s.patchOf n) s.port s.emitted) :=
    congrArg (retrainOne n) (s.written_self n).symm
  unfold Channel.retrained retrainFrames
  rw [self]
  cases h : (s.ch n).link.state
  case off => exact ⟨s.port, by rw [List.append_nil]; exact written_retrainOne_off _ _ _ _ _ _ h⟩
  case seek => exact ⟨_, written_retrainOne_seek _ _ _ _ _ _ h⟩
  case training => exact ⟨_, written_retrainOne_training _ _ _ _ _ _ h⟩
  case up => exact ⟨_, written_retrainOne_up _ _ _ _ _ _ h⟩

theorem State.retrainFrames_seen (n : Station) : Seen n (State.retrainFrames n) := fun s t h hc _ => by
  unfold State.retrainFrames
  rw [hc, h.time]

/-! ## RETRAIN judged (R133) -/

theorem exec_retrain {tag number : Nat} {t : State} {a : Answer} (hadm : s.admits tag)
    (hact : actRetrain number s.taken = (t, a)) (hnow : a ≠ .deferred) :
    exec (.retrain tag number) s = .next (t.replied 0x33 tag a) :=
  exec_request_replied (i := .retrain tag number) rfl rfl hadm hact hnow

theorem actRetrain_bad {number : Nat} (h : 24 < number) : actRetrain number s = refuse s .badValue := if_pos h

theorem actRetrain_one (n : Station) :
    actRetrain (n.val + 1) s =
      if (s.ch n).assigned.role ≠ .unused then (s.retrainOne n, .ok false (.retrained 1)) else refuse s .wrongState := by
  have hn : stationOf (n.val + 1) = some n := stationOf_eq_some.mpr rfl
  unfold actRetrain
  rw [if_neg (by omega), hn]
  simp [Channel.inUse]

theorem actRetrain_all :
    actRetrain 0 s = (forStations State.retrainOne s.inUse s, .ok false (.retrained s.inUse.length)) := rfl

/-- R133: RETRAIN of a station in use. -/
theorem exec_retrain_one {tag : Nat} (hadm : s.admits tag) (hr : (s.ch n).assigned.role ≠ .unused) {c : Channel}
    {p : PatchRecord} {q : ControlPort} {es : List Emission}
    (h : State.retrainOne n (s.taken.written n (s.ch n) (s.patchOf n) s.taken.port []) = s.taken.written n c p q es) :
    exec (.retrain tag (n.val + 1)) s =
      .next (State.replied { (s.taken.setCh n c).setPatch n p with port := q, emitted := es } 0x33 tag
        (.ok false (.retrained 1))) := by
  have self := s.taken.written_self n
  rw [s.taken_ch, s.taken_patchOf, s.taken_emitted] at self
  rw [self] at h
  refine exec_retrain hadm ?_ nofun
  rw [actRetrain_one, s.taken_ch, if_pos hr, h]
  rfl

theorem exec_retrain_channel {tag : Nat} (hadm : s.admits tag) (hr : (s.ch n).assigned.role ≠ .unused) {c : Channel}
    {q : ControlPort} {es : List Emission}
    (h : State.retrainOne n (s.taken.written n (s.ch n) (s.patchOf n) s.taken.port []) =
      s.taken.written n c (s.patchOf n) q es) :
    exec (.retrain tag (n.val + 1)) s =
      .next (State.replied { s.taken.setCh n c with port := q, emitted := es } 0x33 tag (.ok false (.retrained 1))) := by
  have stands := s.taken.setPatch_stands n c
  rw [s.taken_patchOf] at stands
  rw [exec_retrain_one hadm hr h, stands]

theorem written_actErrorWindowEnd (s : State) (n : Station) (c : Channel) (p : PatchRecord) (q : ControlPort)
    (es : List Emission) {x : Sample} (h : c.link.windowEnd = some x) :
    actErrorWindowEnd n (s.written n c p q es) =
      s.written n { c with link := { c.link with errorCount := 0, windowEnd := some (x + 48000) } } p q es := by
  simp [actErrorWindowEnd, h, Config.errorWindow]

/-- Settles O38: the link lost in one act (`written_leaveUp_seek`), RETRAIN by the link state; for every station in
use each is retrained as it stood, and what they put out comes in the order of the stations. -/
theorem linksKeptAndLost : Obligations.LinksKeptAndLost := by
  intro s n
  refine ⟨fun x hu hx le => ?_, fun hu he => ?_, fun hu he => ?_, fun hu => ?_, fun x hw le => ?_,
    fun tag number hadm => ⟨fun bad => ?_, ?_, ?_⟩⟩
  · refine exec_written_at (act := fun s =>
        if (s.ch n).isUp then s.whenReached (s.ch n).link.silenceEnd fun s => s.leaveUp n .silence else s)
      (f := fun s => s.leaveUp n .silence) rfl ?_ le
      (State.written_leaveUp_seek _ _ _ _ _ _ (cause := .silence) (by decide) (by decide))
    exact (if_pos (Channel.isUp_iff.mpr hu)).trans (congrArg (fun v => s.quiet.whenReached v _) hx)
  · exact exec_written rfl (State.written_actCheckError_lost _ _ _ _ _ _ hu he)
  · exact exec_channel rfl (State.written_actCheckError_counted _ _ _ _ _ _ hu he)
  · exact command_idle (if_neg (mt Channel.isUp_iff.mp hu))
  · refine exec_channel_at (act := fun s => s.whenReached (s.ch n).link.windowEnd (actErrorWindowEnd n)) rfl
      (congrArg (fun v => s.quiet.whenReached v _) hw) le (written_actErrorWindowEnd _ _ _ _ _ _ hw)
  · exact exec_retrain hadm (actRetrain_bad bad) nofun
  · rintro rfl
    refine ⟨fun hr => ?_, fun hr hs => ?_, fun hr hs => ?_, fun hr hs => ?_⟩
    · refine exec_retrain hadm ((actRetrain_one n).trans (if_neg ?_)) nofun
      rw [s.taken_ch]
      exact not_not.mpr hr
    all_goals rw [← s.taken_time]
    · exact exec_retrain_one hadm hr (State.written_retrainOne_up _ _ _ _ _ _ hs)
    · exact exec_retrain_channel hadm hr (State.written_retrainOne_training _ _ _ _ _ _ hs)
    · exact exec_retrain_channel hadm hr (State.written_retrainOne_seek _ _ _ _ _ _ hs)
  · rintro rfl
    have acts (m : Station) : ActsOn m (State.retrainOne m) := ActsOn.retrainOne
    have frame := forStations_frame acts s.taken.inUse s.taken
    have run := exec_retrain hadm (actRetrain_all (s := s.taken)) nofun
    refine ⟨_, run, fun m => ?_, fun m => ?_, ?_, ?_, frame.time.trans s.taken_time, frame.click.trans s.taken_click,
      frame.cue, frame.ctl, frame.vin.trans s.taken_vin, frame.vout.trans s.taken_vout,
      frame.reports.trans s.taken_reports, frame.pending.trans s.taken_pending⟩
    · refine (forStations_ch acts _ s.taken.inUse_nodup m s.taken).trans ?_
      obtain ⟨q, h⟩ := s.taken.retrainOne_eq m
      simp only [h, State.written_ch, s.taken_inUse, State.mem_inUse, s.taken_ch, s.taken_time]
      rfl
    · refine (forStations_patchOf acts _ s.taken.inUse_nodup m s.taken).trans ?_
      obtain ⟨q, h⟩ := s.taken.retrainOne_eq m
      simp only [h, State.written_patchOf, s.taken_inUse, State.mem_inUse, s.taken_ch, s.taken_patchOf, ite_and]
    · have out := forStations_appends (out := State.emitted) acts
        (fun m s => by obtain ⟨q, h⟩ := s.retrainOne_eq m; rw [h]; rfl) State.retrainFrames_seen s.taken.inUse
        s.taken.inUse_nodup s.taken
      refine out.trans ?_
      rw [s.taken_emitted, List.nil_append, s.taken_inUse, s.inUse_eq]
      refine List.flatMap_congr fun m _ => ?_
      unfold State.retrainFrames
      rw [s.taken_ch, s.taken_time] <;> rfl
    · refine (State.replied_replies ..).trans ?_
      rw [s.taken_inUse, s.inUse_eq]

end Sys2Proof.Machine
end

section
/-! PROOFS. Where an event goes in an outbound queue (O39). -/

namespace Sys2Proof.Machine

/-- R134: the place of a new event. -/
theorem insertDue_eq (e : Event) (q : List Event) :
    insertDue e q =
      (q.takeWhile fun x => decide (x.due ≤ e.due)) ++ e :: q.dropWhile fun x => decide (x.due ≤ e.due) := by
  induction q with
  | nil => rfl
  | cons x xs ih =>
    by_cases h : x.due ≤ e.due <;> simp [insertDue, h, ih]

/-- The first member that satisfies `p` is the one taken out. -/
theorem removeFirst_append {p : Event → Bool} {pre post : List Event} {x : Event} (hx : p x = true)
    (hpre : ∀ y ∈ pre, p y = false) : removeFirst p (pre ++ x :: post) = pre ++ post := by
  induction pre with
  | nil => simp [removeFirst, hx]
  | cons y ys ih => simp_all [removeFirst]

theorem Link.countLate_eq (l : Link) : l.countLate = { l with lateCount := min 65535 (l.lateCount + 1) } := rfl

section
variable {l : Link} {e : Event}

theorem Link.hand_down (h : l.state ≠ .up) : l.hand e = (l, false) := if_neg h

theorem Link.hand_patch (h : l.state = .up) (he : e.isPatch = true) (hq : ∃ x ∈ l.queue, x.isPatch = true) :
    l.hand e = ({ l with queue := insertDue e (l.queue.filter fun x => !x.isPatch) }, true) := by
  have hand : l.hand e = l.place e := if_pos h
  rw [hand, place, he, List.any_eq_true.mpr hq]
  rfl

/-- R136: an event for which no queued PATCH leaves is placed by the room and its kind. -/
theorem Link.hand_fresh (h : l.state = .up) (hq : e.isPatch = true → ∀ x ∈ l.queue, x.isPatch = false) :
    l.hand e =
      if l.queue.length < 32 then (l.put e, true)
      else if e.isClick then (l.countLate, false)
      else if l.queue.any Event.isClick then
        (({ l with queue := removeFirst Event.isClick l.queue }.countLate).put e, true)
      else if e.isPatch then ({ l with queue := insertDue e (removeFirst Event.isLamp l.queue) }, true)
      else (l, false) := by
  have hand : l.hand e = l.place e := if_pos h
  rw [hand, place]
  exact if_neg (by simpa using hq)

end

theorem Event.isClick_of_isPatch {e : Event} (h : e.isPatch = true) : e.isClick = false := by
  cases e
  case patch => rfl
  all_goals cases h

theorem Event.not_of_isClick {e : Event} (h : e.isClick = true) : e.isPatch = false := by
  cases e
  case click => rfl
  all_goals cases h

theorem Event.not_of_isLamp {e : Event} (h : e.isLamp = true) : e.isClick = false ∧ e.isPatch = false := by
  cases e
  case lamp => exact ⟨rfl, rfl⟩
  all_goals cases h

/-- Settles O39, by the link state, a queued PATCH, the room and the kind of the event. -/
theorem eventsPlaced : Obligations.EventsPlaced := by
  intro l e
  refine ⟨Link.hand_down, fun up he hq => ?_, fun up hq => ⟨fun room => ?_, fun full he => ?_,
    fun pre x post full he hl hx hpre => ?_, fun pre x post full he hc hl hx hpre => ?_, fun full he hc => ?_⟩⟩
  · rw [Link.hand_patch up he hq, insertDue_eq]
  all_goals rw [Link.hand_fresh up hq]
  · rw [if_pos (Nat.not_le.mp room), Link.put, insertDue_eq]
  all_goals rw [if_neg (Nat.not_lt.mpr full)]
  · rw [if_pos he, Link.countLate_eq]
  · have click : l.queue.any Event.isClick = true := List.any_eq_true.mpr ⟨x, by simp [hl], hx⟩
    rw [if_neg (by simp [he]), if_pos click, hl, removeFirst_append hx hpre]
    simp only [Link.countLate_eq, Link.put, insertDue_eq]
  · have click : ¬ l.queue.any Event.isClick = true := by simpa using hc
    rw [if_neg (by simp [Event.isClick_of_isPatch he]), if_neg click, if_pos he, hl, removeFirst_append hx hpre,
      insertDue_eq]
  · have click : ¬ l.queue.any Event.isClick = true := by simpa using hc
    obtain ⟨nc, np⟩ := Event.not_of_isLamp he
    rw [if_neg (by simp [nc]), if_neg click, if_neg (by simp [np])]

end Sys2Proof.Machine
end

section
/-! PROOFS. The send point, and LAMP (O40). -/

namespace Sys2Proof.Machine

variable {s : State} {n : Station}

/-! ## The send point (R135) -/

theorem splitDue_eq (S lead : Nat) (q : List Event) :
    splitDue S lead q =
      (q.takeWhile fun e => decide (e.due ≤ S + lead), q.dropWhile fun e => decide (e.due ≤ S + lead)) := by
  induction q with
  | nil => rfl
  | cons x xs ih => by_cases h : x.due ≤ S + lead <;> simp [splitDue, h, ih]

/-- R135: the event is a CLICK whose due lies before the reach of the send point. -/
def Event.misses (e : Event) (reach : Sample) : Bool := e.isClick && decide (e.due < reach)

/-- R135: a late-click count raised by `k`. -/
def raised (count k : Nat) : Nat := if k = 0 then count else min 65535 (count + k)

theorem raised_succ (count k : Nat) : raised (min 65535 (count + 1)) k = raised count (k + 1) := by
  unfold raised
  split <;> rename_i h
  · subst h
    rfl
  · rw [if_neg (Nat.succ_ne_zero k)]
    omega

theorem raised_length (count : Nat) (late : List Event) :
    raised count late.length = if late = [] then count else min 65535 (count + late.length) := by
  simp [raised]

namespace State

variable (s : State) (n : Station) (c : Channel) (p : PatchRecord) (q : ControlPort) (es : List Emission)

theorem written_transmitOne (e : Event) :
    transmitOne n (s.written n c p q es) e =
      if e.misses (s.time.S + c.link.lead) then s.written n { c with link := c.link.countLate } p q es
      else s.written n c p q (es ++ [.link n s.time.S (.event e)]) := by
  unfold transmitOne
  rw [written_ch, written_mapLink, written_send]
  rfl

theorem written_transmitAll (head : List Event) :
    head.foldl (transmitOne n) (s.written n c p q es) =
      (let late : Event → Bool := fun e => e.misses (s.time.S + c.link.lead)
       s.written n { c with link := { c.link with lateCount := raised c.link.lateCount (head.filter late).length } } p q
         (es ++ (head.filter fun e => !late e).map fun e => .link n s.time.S (.event e))) := by
  induction head generalizing c es with
  | nil => simp [raised]
  | cons e head ih =>
    rw [List.foldl_cons, written_transmitOne]
    cases h : e.misses (s.time.S + c.link.lead)
    · rw [if_neg (by simp), ih]
      simp [h]
    · rw [if_pos rfl, ih]
      simp only [List.filter_cons, h, Link.countLate_eq, raised_succ]
      rfl

/-- R135: the events in reach of the send point leave the queue, sent or late. -/
theorem written_transmit (up : c.link.state = .up) (idle : c.link.test = none) :
    (s.written n c p q es).transmit n =
      (let reach := s.time.S + c.link.lead
       let head := c.link.queue.takeWhile fun e => decide (e.due ≤ reach)
       let late : Event → Bool := fun e => e.misses reach
       s.written n
         { c with
           link :=
             { c.link with
               queue := c.link.queue.dropWhile fun e => decide (e.due ≤ reach)
               lateCount :=
                 if head.filter late = [] then c.link.lateCount
                 else min 65535 (c.link.lateCount + (head.filter late).length) } } p q
         (es ++ (head.filter fun e => !late e).map fun e => .link n s.time.S (.event e))) := by
  unfold transmit
  rw [written_ch, if_pos ⟨up, idle⟩, written_time, splitDue_eq]
  dsimp only
  rw [written_mapLink, written_transmitAll]
  simp only [raised_length]
  rfl

end State

/-! ## LAMP (R138, R140) -/

section
variable {raw : RawLamp} {k : Lamp}

/-- R140: a LAMP request names the lamp `k` (log 31). -/
def NamesLamp (raw : RawLamp) (k : Lamp) : Prop := (raw.lamp = 0 ∧ k = .cue) ∨ (raw.lamp = 1 ∧ k = .stop)

theorem lampOfCode_named (h : NamesLamp raw k) : lampOfCode raw.lamp = some k := by
  obtain ⟨hl, rfl⟩ | ⟨hl, rfl⟩ := h <;> rw [hl] <;> rfl

theorem readLamp_bad
    (h : 1 < raw.lamp ∨ 1 < raw.tick ∨ (raw.tick = 1 ∧ raw.tickValue ≠ 1 ∧ raw.tickValue ≠ 2 ∧ raw.tickValue ≠ 4)) :
    readLamp raw = none := by
  unfold readLamp
  split
  next => rfl
  next l hl =>
    have code : raw.lamp ≤ 1 := by
      revert hl
      unfold lampOfCode
      split <;> simp_all
    have tick : raw.tick ≠ 0 := by omega
    simp only [if_neg tick]
    rw [if_neg (by omega)]

theorem readLamp_time (hk : NamesLamp raw k) (ht : raw.tick = 0) :
    readLamp raw =
      (let ms := min 630 (max 10 raw.tickValue) / 10 * 10
       some (k, ⟨.time ms, raw.bits, min 15 raw.pause⟩, decide (15 < raw.pause ∨ ms ≠ raw.tickValue))) := by
  unfold readLamp
  rw [lampOfCode_named hk]
  simp only [ht, if_true, lampMs, clampTo, Bool.decide_or]
  rfl

theorem readLamp_beat (hk : NamesLamp raw k) (ht : raw.tick = 1)
    (hv : raw.tickValue = 1 ∨ raw.tickValue = 2 ∨ raw.tickValue = 4) :
    readLamp raw = some (k, ⟨.beat raw.tickValue, raw.bits, min 15 raw.pause⟩, decide (15 < raw.pause)) := by
  unfold readLamp
  rw [lampOfCode_named hk]
  simp [ht, hv]

end

section
variable {number : Nat} {raw : RawLamp} {k : Lamp} {x : LampPattern} {clamped : Bool}

theorem exec_lamp {tag : Nat} {t : State} {a : Answer} (hadm : s.admits tag) (hact : actLamp number raw s.taken = (t, a))
    (hnow : a ≠ .deferred) : exec (.lamp tag number raw) s = .next (t.replied 0x32 tag a) :=
  exec_request_replied (i := .lamp tag number raw) rfl rfl hadm hact hnow

theorem actLamp_bad (h : 24 < number ∨ readLamp raw = none) : actLamp number raw s = refuse s .badValue := by
  unfold actLamp
  split
  next => rfl
  next hr =>
    rw [hr] at h
    exact if_pos (h.resolve_right nofun)

theorem actLamp_one (n : Station) (h : readLamp raw = some (k, x, clamped)) :
    actLamp (n.val + 1) raw s =
      (s.setLamp n k .host x s.time.S, .ok clamped (.lampOutcome (s.lampOutcome n k x))) := by
  have hn : stationOf (n.val + 1) = some n := stationOf_eq_some.mpr rfl
  unfold actLamp
  rw [h, hn]
  exact if_neg (by omega)

theorem actLamp_all (h : readLamp raw = some (k, x, clamped)) :
    actLamp 0 raw s =
      (let os := s.inUse.map fun n => s.lampOutcome n k x
       (forStations (fun n x' => x'.setLamp n k .host x x'.time.S) s.inUse s,
        .ok clamped (.lampCounts (countOutcome .queued os) (countOutcome .running os) (countOutcome .dropped os)
          (countOutcome .notUp os)))) := by
  unfold actLamp
  rw [h]
  rfl

/-- R138: a lamp set on a link that is UP, and left on any other. -/
theorem State.setLamp_up (h : (s.ch n).link.state = .up) (source : LampSource) (d : Sample) :
    s.setLamp n k source x d = s.setCh n { s.ch n with link := ((s.ch n).link.setLamp k source x d).1 } :=
  if_pos (Channel.isUp_iff.mpr h)

theorem State.setLamp_down (h : (s.ch n).link.state ≠ .up) (source : LampSource) (d : Sample) :
    s.setLamp n k source x d = s :=
  if_neg (mt Channel.isUp_iff.mp h)

theorem State.lampOutcome_up (h : (s.ch n).link.state = .up) :
    s.lampOutcome n k x = ((s.ch n).link.setLamp k .host x s.time.S).2 := if_pos (Channel.isUp_iff.mpr h)

theorem State.lampOutcome_down (h : (s.ch n).link.state ≠ .up) : s.lampOutcome n k x = .notUp :=
  if_neg (mt Channel.isUp_iff.mp h)

theorem State.taken_lampOutcome (s : State) (n : Station) (k : Lamp) (x : LampPattern) :
    s.taken.lampOutcome n k x = s.lampOutcome n k x := by
  unfold lampOutcome
  rw [s.taken_ch, s.taken_time]

end

section
variable {ns : List Station} {k : Lamp} {x : LampPattern} {source : LampSource}

/-- R138: lamps set at several stations leave the port, what was put out, and the patch records. -/
theorem forStations_setLamp_frame (ns : List Station) (s : State) :
    (forStations (fun n t => t.setLamp n k source x t.time.S) ns s).port = s.port ∧
      (forStations (fun n t => t.setLamp n k source x t.time.S) ns s).emitted = s.emitted ∧
      (forStations (fun n t => t.setLamp n k source x t.time.S) ns s).patches = s.patches := by
  refine forStations_rel (fun s t => t.port = s.port ∧ t.emitted = s.emitted ∧ t.patches = s.patches)
    (fun s => ⟨rfl, rfl, rfl⟩) (fun s t u h j => ⟨j.1.trans h.1, j.2.1.trans h.2.1, j.2.2.trans h.2.2⟩) _
    (fun n s => ?_) ns s
  unfold State.setLamp
  split <;> exact ⟨rfl, rfl, rfl⟩

theorem setLamp_acts (n : Station) : ActsOn n fun s => s.setLamp n k source x s.time.S :=
  ActsOn.byTime (fun y s => s.setLamp n k source x y.S) fun _ => ActsOn.setLamp _ _ _ _

theorem countOutcome_map (o : LampOutcome) (f : Station → LampOutcome) :
    countOutcome o (ns.map f) = (ns.filter fun m => decide (f m = o)).length := by
  rw [countOutcome, List.filter_map, List.length_map]
  rfl

end

section
variable {ns : List Station} {k : Lamp} {x : LampPattern} {good : LampOutcome} {up : Station → Bool}
  {set : Station → Link × Bool}

/-- R140: an outcome by whether the link is UP and the event was placed. -/
def lampOutcomeBy (up placed : Bool) (good : LampOutcome) : LampOutcome :=
  if up then (if placed then good else .dropped) else .notUp

theorem lampOutcomeBy_dropped (u b : Bool) (h : good = .queued ∨ good = .running) :
    decide (lampOutcomeBy u b good = .dropped) = (u && !b) := by
  rcases h with rfl | rfl <;> cases u <;> cases b <;> rfl

theorem lampOutcomeBy_notUp (u b : Bool) (h : good = .queued ∨ good = .running) :
    decide (lampOutcomeBy u b good = .notUp) = !u := by
  rcases h with rfl | rfl <;> cases u <;> cases b <;> rfl

theorem lampOutcomeBy_placed (u b : Bool) {o : LampOutcome} (ho : o = .queued ∨ o = .running)
    (h : good = .queued ∨ good = .running) :
    decide (lampOutcomeBy u b good = o) = if good = o then u && b else false := by
  rcases h with rfl | rfl <;> rcases ho with rfl | rfl <;> cases u <;> cases b <;> rfl

/-- R140: LAMP for every station in use, of a pattern that is placed or dropped as `set` lays down. -/
theorem exec_lamp_all {tag : Nat} {raw : RawLamp} {clamped : Bool} (hadm : s.admits tag)
    (h : readLamp raw = some (k, x, clamped)) (hgood : good = .queued ∨ good = .running)
    {q r : Prop} [Decidable q] [Decidable r] (hq : q ↔ good = .queued) (hr : r ↔ good = .running)
    (hset : ∀ m, (s.ch m).link.setLamp k .host x s.time.S =
      ((set m).1, if (set m).2 = true then good else .dropped)) :
    let named := (List.finRange 24).filter fun m => decide ((s.ch m).assigned.role ≠ .unused)
    let up : Station → Bool := fun m => decide ((s.ch m).link.state = .up)
    let placed := (named.filter fun m => up m && (set m).2).length
    ∃ t, exec (.lamp tag 0 raw) s = .next t ∧
      (∀ m, t.ch m = if m ∈ named ∧ up m = true then { s.ch m with link := (set m).1 } else s.ch m) ∧
      t.port =
        (s.taken.port.answer
          ⟨0x32, tag,
            .ok clamped (.lampCounts (if q then placed else 0) (if r then placed else 0)
              (named.filter fun m => up m && !(set m).2).length
              (named.filter fun m => !up m).length), true⟩).arbitrate ∧
      t.time = s.time ∧ t.click = s.click ∧ t.cue = s.taken.cue ∧ t.ctl = s.taken.ctl ∧ t.patches = s.patches ∧
      t.vin = s.vin ∧ t.vout = s.vout ∧ t.reports = s.reports ∧ t.emitted = [] ∧ t.pending = s.pending := by
  intro named up placed
  have acts : ∀ m, ActsOn m fun s => s.setLamp m k .host x s.time.S := setLamp_acts
  obtain ⟨port, emitted, patches⟩ := forStations_setLamp_frame (k := k) (x := x) (source := .host) s.taken.inUse s.taken
  have frame := forStations_frame acts s.taken.inUse s.taken
  have run := exec_lamp hadm (actLamp_all (s := s.taken) h) nofun
  have outcome (m : Station) : s.taken.lampOutcome m k x = lampOutcomeBy (up m) (set m).2 good := by
    rw [State.taken_lampOutcome]
    by_cases hu : (s.ch m).link.state = .up
    · rw [State.lampOutcome_up hu, hset, lampOutcomeBy, if_pos (decide_eq_true hu)]
    · rw [State.lampOutcome_down hu, lampOutcomeBy, if_neg (by simpa [up] using hu)]
  have outcomes : (s.taken.inUse.map fun m => s.taken.lampOutcome m k x) =
      named.map fun m => lampOutcomeBy (up m) (set m).2 good := by
    rw [s.taken_inUse, s.inUse_eq]
    exact List.map_congr_left fun m _ => outcome m
  refine ⟨_, run, fun m => ?_, ?_, frame.time.trans s.taken_time, frame.click.trans s.taken_click, frame.cue, frame.ctl,
    patches.trans s.taken_patches, frame.vin.trans s.taken_vin, frame.vout.trans s.taken_vout,
    frame.reports.trans s.taken_reports, emitted.trans s.taken_emitted, frame.pending.trans s.taken_pending⟩
  · refine (forStations_ch acts _ s.taken.inUse_nodup m s.taken).trans ?_
    rw [s.taken_inUse, s.inUse_eq, s.taken_ch]
    by_cases hm : m ∈ named
    · by_cases hu : (s.ch m).link.state = .up
      · rw [if_pos hm, if_pos ⟨hm, decide_eq_true hu⟩, State.setLamp_up (by rw [s.taken_ch]; exact hu),
          State.ch_setCh_self, s.taken_ch, s.taken_time, hset]
      · rw [if_pos hm, if_neg (by simp [up, hu]), State.setLamp_down (by rw [s.taken_ch]; exact hu), s.taken_ch]
    · rw [if_neg hm, if_neg fun k => hm k.1]
  · have counts (o : LampOutcome) (b : Station → Bool)
        (h : ∀ m, decide (lampOutcomeBy (up m) (set m).2 good = o) = b m) :
        countOutcome o (s.taken.inUse.map fun m => s.taken.lampOutcome m k x) = (named.filter b).length := by
      rw [outcomes, countOutcome_map]
      simp only [h]
    have placedCount (o : LampOutcome) (ho : o = .queued ∨ o = .running) :
        countOutcome o (s.taken.inUse.map fun m => s.taken.lampOutcome m k x) = if good = o then placed else 0 := by
      rw [counts o _ fun m => lampOutcomeBy_placed _ _ ho hgood]
      split
      · rfl
      · simp
    simp only [hq, hr]
    rw [← placedCount .queued (.inl rfl), ← placedCount .running (.inr rfl),
      ← counts .dropped _ fun m => lampOutcomeBy_dropped _ _ hgood,
      ← counts .notUp _ fun m => lampOutcomeBy_notUp _ _ hgood, ← port]
    rfl

end

/-- Settles O40: the send point by `written_transmit`; LAMP by what `readLamp` reads, for one station and, through
`forStations`, for every station in use. -/
theorem eventsSentAndLamps : Obligations.EventsSentAndLamps := by
  intro s n
  refine ⟨fun up idle => ?_, fun h => ?_, fun tag number raw hadm => ⟨fun bad => ?_, fun k ok hn hk => ?_,
    fun k ok hn hk => ?_⟩⟩
  · exact exec_channel (act := fun s => s.transmit n) rfl (State.written_transmit _ _ _ _ _ _ up idle)
  · refine command_idle (act := fun s => s.transmit n) (if_neg fun ⟨up, idle⟩ => ?_)
    exact h.elim (· up) (· idle)
  · refine exec_lamp hadm (actLamp_bad ?_) nofun
    exact bad.imp_right readLamp_bad
  · subst hn
    obtain ⟨-, -, htick, hbeat⟩ : ¬ 24 < n.val + 1 ∧ ¬ 1 < raw.lamp ∧ ¬ 1 < raw.tick ∧
      ¬ (raw.tick = 1 ∧ raw.tickValue ≠ 1 ∧ raw.tickValue ≠ 2 ∧ raw.tickValue ≠ 4) := by
      simpa only [not_or] using ok
    refine ⟨fun up ht => ?_, fun up ht => ?_, fun down => ?_⟩
    · have run := exec_lamp hadm (actLamp_one n (readLamp_time hk ht)) nofun
      rw [State.setLamp_up ((congrArg (fun c : Channel => c.link.state) (s.taken_ch n)).trans up),
        State.taken_lampOutcome, State.lampOutcome_up up, s.taken_ch, s.taken_time] at run
      exact run
    · have hv : raw.tickValue = 1 ∨ raw.tickValue = 2 ∨ raw.tickValue = 4 := by
        by_contra hv
        exact hbeat ⟨ht, by omega⟩
      have run := exec_lamp hadm (actLamp_one n (readLamp_beat hk ht hv)) nofun
      rw [State.setLamp_up ((congrArg (fun c : Channel => c.link.state) (s.taken_ch n)).trans up),
        State.taken_lampOutcome, State.lampOutcome_up up, s.taken_ch, s.taken_time] at run
      exact run
    · have down' : (s.taken.ch n).link.state ≠ .up := by rw [s.taken_ch]; exact down
      have run {x : LampPattern} {clamped : Bool} (h : readLamp raw = some (k, x, clamped)) :
          exec (.lamp tag (n.val + 1) raw) s =
            .next (s.taken.replied 0x32 tag (.ok clamped (.lampOutcome .notUp))) := by
        refine exec_lamp hadm ((actLamp_one n h).trans ?_) nofun
        rw [State.setLamp_down down', State.taken_lampOutcome, State.lampOutcome_down down]
      by_cases ht : raw.tick = 0
      · rw [if_pos ht]
        exact run (readLamp_time hk ht)
      · rw [if_neg ht]
        have ht : raw.tick = 1 := by omega
        refine run (readLamp_beat hk ht ?_)
        by_contra hv
        exact hbeat ⟨ht, by omega⟩
  · subst hn
    obtain ⟨-, -, htick, hbeat⟩ : ¬ 24 < 0 ∧ ¬ 1 < raw.lamp ∧ ¬ 1 < raw.tick ∧
      ¬ (raw.tick = 1 ∧ raw.tickValue ≠ 1 ∧ raw.tickValue ≠ 2 ∧ raw.tickValue ≠ 4) := by
      simpa only [not_or] using ok
    intro pattern set named up placed dropped clamped
    by_cases ht : raw.tick = 0
    · refine exec_lamp_all (k := k) (x := pattern) (clamped := clamped) (good := .queued) (set := set) hadm
        ((readLamp_time hk ht).trans (by simp [pattern, clamped, ht])) (.inl rfl) (by simp [ht]) (by simp [ht])
        fun m => ?_
      simp only [set, pattern, if_pos ht]
      rfl
    · have ht1 : raw.tick = 1 := by omega
      have hv : raw.tickValue = 1 ∨ raw.tickValue = 2 ∨ raw.tickValue = 4 := by
        by_contra hv
        exact hbeat ⟨ht1, by omega⟩
      refine exec_lamp_all (k := k) (x := pattern) (clamped := clamped) (good := .running) (set := set) hadm
        ((readLamp_beat hk ht1 hv).trans (by simp [pattern, clamped, ht])) (.inr rfl) (by simp [ht]) (by simp [ht1])
        fun m => ?_
      simp only [set, pattern, if_neg ht]
      rfl

end Sys2Proof.Machine
end

section
/-! PROOFS. The link test, the parameter relay and STATION_QUERY (O41, O42). -/

namespace Sys2Proof.Machine

variable {s : State} {n : Station}

/-! ## Requests of one station -/

/-- R171: an admitted request whose reply is deferred. -/
theorem exec_request_deferred {i : Instr} {r : Request} {t : State} (hr : requestOf i = some r) (hlen : r.lengthOk = true)
    (hadm : s.admits r.tag) (hact : r.owner s.taken = (t, .deferred)) : exec i s = .next t.done := by
  rw [exec_request i s r hr, hlen, serve_admitted _ _ _ _ hadm, hact]
  rfl

theorem State.taken_written (s : State) (n : Station) :
    s.taken.written n (s.ch n) (s.patchOf n) s.taken.port [] = s.taken := by
  have self := s.taken.written_self n
  rwa [s.taken_ch, s.taken_patchOf, s.taken_emitted] at self

/-- The form in which a request that changes a station's channel leaves the state. -/
theorem State.taken_setCh (s : State) (n : Station) (c : Channel) (es : List Emission) :
    s.taken.written n c (s.patchOf n) s.taken.port es = { s.taken.setCh n c with emitted := es } := by
  have stands := s.taken.setPatch_stands n c
  rw [s.taken_patchOf] at stands
  unfold written
  rw [stands] <;> rfl

/-- Number 0, or one above 24, names no station. -/
theorem stationOf_outside {number : Nat} (h : number = 0 ∨ 24 < number) : stationOf number = none :=
  stationOf_eq_none.mpr h

theorem stationOf_inside (n : Station) : stationOf (n.val + 1) = some n := stationOf_eq_some.mpr rfl

/-! ## LINK_TEST (R142) -/

section
variable {tag number : Nat}

theorem actLinkTest_bad (h : number = 0 ∨ 24 < number) : actLinkTest tag number s = refuse s .badValue := by
  unfold actLinkTest
  rw [stationOf_outside h]

theorem actLinkTest_closed (h : ¬ (s.ctl.state = .dark ∨ s.ctl.state = .preshow) ∨ (s.ch n).link.state ≠ .up) :
    actLinkTest tag (n.val + 1) s = refuse s .wrongState := by
  unfold actLinkTest
  rw [stationOf_inside]
  refine if_pos ?_
  rw [Bool.not_eq_true', ← Bool.not_eq_true, Bool.and_eq_true, decide_eq_true_eq, Channel.isUp_iff]
  exact not_and_or.mpr h

theorem actLinkTest_open (h : s.ctl.state = .dark ∨ s.ctl.state = .preshow) (up : (s.ch n).link.state = .up) :
    actLinkTest tag (n.val + 1) s =
      if (s.ch n).link.test.isSome then refuse s .busy
      else
        ((s.send n (.test 0)).mapLink n fun l => { l with test := some ⟨tag, s.time.S, 1, [⟨0, s.time.S⟩], 0⟩ },
          .deferred) := by
  unfold actLinkTest
  rw [stationOf_inside]
  exact if_neg (by simp [Channel.isUp, up, h])

end

namespace State

variable (s : State) (n : Station) (c : Channel) (p : PatchRecord) (q : ControlPort) (es : List Emission)

/-! ## Test frames and their echoes (R142) -/

theorem written_actTestFrameSend {t : LinkTest} (h : c.link.test = some t) :
    actTestFrameSend n (s.written n c p q es) =
      s.written n
        { c with
          link :=
            { c.link with
              test := some
                { t with
                  nextFrame := t.nextFrame + 1
                  outstanding := t.outstanding ++ [⟨t.nextFrame, s.time.S⟩] } } } p q
        (es ++ [.link n s.time.S (.test t.nextFrame)]) := by
  simp [actTestFrameSend, h]

/-- R142: a test after the echo of a frame has been judged. -/
def judgedTest (t : LinkTest) (frame : Nat) (good : Bool) : LinkTest :=
  { t with
    outstanding := t.outstanding.filter fun f => decide (f.number ≠ frame)
    mismatches := if good then t.mismatches else t.mismatches + 1 }

theorem written_judgeEcho {t : LinkTest} (h : c.link.test = some t) {frame : Nat} (good : Bool) (hf : frame ≠ 255) :
    (s.written n c p q es).judgeEcho n frame good =
      s.written n { c with link := { c.link with test := some (judgedTest t frame good) } } p q es := by
  simp [judgeEcho, h, hf, judgedTest]

/-- R142: the judgement of frame 255 ends the test. -/
theorem written_judgeEcho_last {t : LinkTest} (h : c.link.test = some t) (good : Bool) :
    (s.written n c p q es).judgeEcho n 255 good =
      s.written n { c with link := { c.link with test := none } } p
        { q with
          replies := q.replies ++
            [⟨0x34, t.tag, .ok false (.testResult (judgedTest t 255 good).result t.began s.time.S), false⟩] } es := by
  simp [judgeEcho, h, endTest, deferredReply, answer, ControlPort.answer, judgedTest]
  rfl

/-! ## The relay (R143) -/

theorem written_endRelay {r : Relay} (h : c.link.relay = some r) {a : Answer} (hnow : a ≠ .deferred) :
    (s.written n c p q es).endRelay n a =
      s.written n { c with link := { c.link with relay := none } } p
        { q with replies := q.replies ++ [⟨0x35, r.tag, a, false⟩] } es := by
  unfold endRelay
  rw [written_ch, h]
  cases a
  case deferred => exact absurd rfl hnow
  all_goals
    rw [written_mapLink]
    rfl

/-! ## The queue released once a test has ended (R135, R142) -/

theorem releaseQueue_tested {s t : State} (h : (t.ch n).link.test ≠ none) : releaseQueue n s t = t := by
  refine if_neg ?_
  rw [Bool.and_eq_true, Option.isNone_iff_eq_none]
  exact fun k => h k.2

theorem releaseQueue_ended {s t : State} (h : (s.ch n).link.test ≠ none) (k : (t.ch n).link.test = none) :
    releaseQueue n s t = t.transmit n := by
  refine if_pos ?_
  rw [Bool.and_eq_true, Option.isNone_iff_eq_none, Option.isSome_iff_ne_none]
  exact ⟨h, k⟩

theorem whenReached_written {s : State} {x : Sample} {f : State → State} {c d : Channel} {p r : PatchRecord}
    {q q' : ControlPort} {es es' : List Emission} (hx : x ≤ s.time.S)
    (h : f ((s.atS (s.takenAt x)).written n c p q es) = (s.atS (s.takenAt x)).written n d r q' es') :
    (s.written n c p q es).whenReached (some x) f = s.written n d r q' es' := by
  rw [whenReached_due (s.written n c p q es) x f hx]
  exact congrArg (fun t : State => t.atS s.time.S) h

end State

theorem Link.testFrame_eq {l : Link} {t : LinkTest} {frame : Nat} {sent : Sample} (h : l.test = some t)
    (hf : t.outstanding.find? (fun f => decide (f.number = frame)) = some ⟨frame, sent⟩) :
    l.testFrame frame = some ⟨frame, sent⟩ := by
  unfold testFrame
  rw [h]
  exact hf

theorem State.endTest_time (s : State) (n : Station) (r : LinkTest → TestResult) : (s.endTest n r).time = s.time := by
  unfold endTest
  split <;> rfl

theorem State.judgeEcho_time (s : State) (n : Station) (frame : Nat) (good : Bool) :
    (s.judgeEcho n frame good).time = s.time := by
  unfold judgeEcho
  split
  · dsimp only
    split
    · exact endTest_time ..
    · rfl
  · rfl

section
variable {c : Channel} {p : PatchRecord} {q : ControlPort} {es : List Emission} {t : LinkTest} {frame : Nat}
  {sent : Sample}

theorem written_actTestEcho (h : c.link.test = some t)
    (hf : t.outstanding.find? (fun f => decide (f.number = frame)) = some ⟨frame, sent⟩) (correct : Bool) :
    actTestEcho n frame correct (s.written n c p q es) =
      (((s.atS s.time.S).written n c p q es).judgeEcho n frame
        (correct && decide (s.time.S ≤ sent + 2 * c.link.lead)) |>.atS s.time.S) := by
  unfold actTestEcho
  rw [State.written_ch, Link.testFrame_eq h hf]
  exact (State.atS_same (State.judgeEcho_time ..)).symm

/-- R142: a frame judged that is not the last: its test goes on. -/
theorem releaseQueue_judged {u : State} (good : Bool) (h : c.link.test = some t) (hl : frame ≠ 255) (y : Sample) :
    State.releaseQueue n u (((s.atS y).written n c p q es).judgeEcho n frame good |>.atS s.time.S) =
      s.written n { c with link := { c.link with test := some (State.judgedTest t frame good) } } p q es := by
  rw [State.written_judgeEcho _ _ _ _ _ _ h _ hl]
  exact State.releaseQueue_tested n (by rw [State.written_atS, State.written_ch]; nofun)

/-- R135, R142: frame 255 judged: the test ends, and the queue's head is judged. -/
theorem releaseQueue_last {u : State} (hu : (u.ch n).link.test ≠ none) (good : Bool) (h : c.link.test = some t)
    (up : c.link.state = .up) (y : Sample) :
    State.releaseQueue n u (((s.atS y).written n c p q es).judgeEcho n 255 good |>.atS s.time.S) =
      (let reach := s.time.S + c.link.lead
       let head := c.link.queue.takeWhile fun e => decide (e.due ≤ reach)
       let late : Event → Bool := fun e => e.misses reach
       s.written n
         { c with
           link :=
             { c.link with
               test := none
               queue := c.link.queue.dropWhile fun e => decide (e.due ≤ reach)
               lateCount :=
                 if head.filter late = [] then c.link.lateCount
                 else min 65535 (c.link.lateCount + (head.filter late).length) } } p
         { q with
           replies := q.replies ++
             [⟨0x34, t.tag, .ok false (.testResult (State.judgedTest t 255 good).result t.began y), false⟩] }
         (es ++ (head.filter fun e => !late e).map fun e => .link n s.time.S (.event e))) := by
  rw [State.written_judgeEcho_last _ _ _ _ _ _ h]
  refine (State.releaseQueue_ended n hu (by rw [State.written_atS, State.written_ch])).trans ?_
  exact State.written_transmit s n _ p _ es up rfl

/-- R142: TEST_ECHO_TIMEOUT's act. -/
def echoTimeout (n : Station) (frame : Nat) (s : State) : State :=
  State.releaseQueue n s
    (s.whenReached (((s.ch n).link.testFrame frame).map fun f => f.sentAt + 2 * (s.ch n).link.lead)
      fun x => x.judgeEcho n frame false)

theorem written_echoTimeout (h : c.link.test = some t)
    (hf : t.outstanding.find? (fun f => decide (f.number = frame)) = some ⟨frame, sent⟩)
    (le : sent + 2 * c.link.lead ≤ s.time.S) :
    echoTimeout n frame (s.written n c p q es) =
      State.releaseQueue n (s.written n c p q es)
        (((s.atS (s.takenAt (sent + 2 * c.link.lead))).written n c p q es).judgeEcho n frame false |>.atS
          s.time.S) := by
  unfold echoTimeout
  rw [State.written_ch, Link.testFrame_eq h hf]
  exact congrArg (State.releaseQueue n _)
    (State.whenReached_due (s.written n c p q es) _ (fun x => x.judgeEcho n frame false) le)

end

/-- Settles O41: LINK_TEST by the show state, the link and a test in progress; the judgement of a frame, and for
frame 255 the end of the test and then the send point. -/
theorem linkTests : Obligations.LinkTests := by
  intro s n
  refine ⟨fun tag number hadm => ⟨fun bad => ?_, ?_⟩, fun t ht => ⟨fun more le => ?_, fun frame sent hf =>
    ⟨fun correct hl => ?_, fun hl le => ?_, ?_⟩⟩⟩
  · exact exec_refused (i := .linkTest tag number) (r := ⟨0x34, tag, true, actLinkTest tag number⟩) rfl rfl hadm
      (actLinkTest_bad bad)
  · rintro rfl
    have state : s.taken.ctl.state = s.ctl.state := s.taken_ctl_state
    refine ⟨fun h => ?_, fun ho up ht => ?_, fun ho up ht => ?_⟩
    · refine exec_refused (i := .linkTest tag (n.val + 1)) (r := ⟨0x34, tag, true, actLinkTest tag (n.val + 1)⟩) rfl rfl
        hadm (actLinkTest_closed ?_)
      rwa [state, s.taken_ch]
    all_goals
      have judged := actLinkTest_open (tag := tag) (s := s.taken) (n := n) (by rwa [state]) (by rwa [s.taken_ch])
      rw [s.taken_ch, s.taken_time] at judged
    · refine exec_refused (i := .linkTest tag (n.val + 1)) (r := ⟨0x34, tag, true, actLinkTest tag (n.val + 1)⟩) rfl rfl
        hadm (judged.trans (if_pos (Option.isSome_iff_ne_none.mpr ht)))
    · refine (exec_request_deferred (i := .linkTest tag (n.val + 1)) (r := ⟨0x34, tag, true, actLinkTest tag (n.val + 1)⟩)
        rfl rfl hadm (judged.trans (if_neg (by rw [ht]; nofun)))).trans ?_
      conv_lhs => rw [← s.taken_written n]
      rw [State.written_send, State.written_mapLink, State.taken_setCh, s.taken_time]
      rfl
  · have due : ((s.ch n).link.test.bind LinkTest.nextAt) = some (t.began + t.nextFrame * 48) := by
      rw [ht]
      exact if_pos (Nat.lt_succ_of_le more)
    exact exec_channel_at (act := fun s => s.whenReached ((s.ch n).link.test.bind LinkTest.nextAt) (actTestFrameSend n))
      rfl (congrArg (fun v => s.quiet.whenReached v _) due) le (State.written_actTestFrameSend _ _ _ _ _ _ ht)
  · refine exec_channel (act := fun s => State.releaseQueue n s (actTestEcho n frame correct s)) rfl ?_
    dsimp only
    rw [written_actTestEcho ht hf]
    exact releaseQueue_judged (s := s.quiet) _ ht hl s.time.S
  · refine exec_channel (act := echoTimeout n frame) rfl ?_
    rw [written_echoTimeout (s := s.quiet) ht hf le]
    exact releaseQueue_judged (s := s.quiet) _ ht hl _
  · rintro reach head late ends rfl up
    have tested (u : State) : ((u.written n (s.ch n) (s.patchOf n) s.port []).ch n).link.test ≠ none := by
      rw [State.written_ch, ht]
      nofun
    refine ⟨fun correct => ?_, fun le => ?_⟩
    · refine exec_channel (act := fun s => State.releaseQueue n s (actTestEcho n 255 correct s)) rfl ?_
      dsimp only
      rw [written_actTestEcho ht hf]
      exact releaseQueue_last (s := s.quiet) (tested s.quiet) _ ht up s.time.S
    · refine exec_channel (act := echoTimeout n 255) rfl ?_
      rw [written_echoTimeout (s := s.quiet) ht hf le]
      exact releaseQueue_last (s := s.quiet) (tested s.quiet) _ ht up _

/-! ## STATION_PARAM and STATION_QUERY (R143, R144) -/

section
variable {tag number k : Nat} {value : Option (BitVec 32)}

theorem actStationParam_bad (h : number = 0 ∨ 24 < number) :
    actStationParam tag number k value s = refuse s .badValue := by
  unfold actStationParam
  rw [stationOf_outside h]

theorem actStationParam_one (n : Station) :
    actStationParam tag (n.val + 1) k value s =
      if (s.ch n).link.state ≠ .up then refuse s .wrongState
      else if (s.ch n).link.relay ≠ none then refuse s .busy
      else
        let serial := ((s.ch n).link.relaySerial + 1) % 256
        ((s.send n (.relay serial k value)).mapLink n fun l =>
          { l with relaySerial := serial, relay := some ⟨tag, serial, s.time.S, value.isSome⟩ }, .deferred) := by
  unfold actStationParam
  rw [stationOf_inside]
  simp [Channel.isUp, Option.isSome_iff_ne_none]

theorem actStationQuery_bad (h : number = 0 ∨ 24 < number) : actStationQuery number s = refuse s .badValue := by
  unfold actStationQuery
  rw [stationOf_outside h]

theorem actStationQuery_one (n : Station) :
    actStationQuery (n.val + 1) s =
      (s.setCh n { s.ch n with link := { (s.ch n).link with lateCount := 0 } },
        .ok false (.station (s.ch n).assigned (s.ch n).reported (s.ch n).link.report (s.patchOf n))) := by
  unfold actStationQuery
  rw [stationOf_inside]
  rfl

/-- The request that reads or writes a station parameter (R143). -/
def paramRequest (tag number k : Nat) : Option (BitVec 32) → Instr
  | none => .stationParamRead tag number k
  | some v => .stationParamWrite tag number k v

theorem requestOf_param :
    requestOf (paramRequest tag number k value) = some ⟨0x35, tag, true, actStationParam tag number k value⟩ := by
  cases value <;> rfl

theorem actRelayAnswer_other {known : Bool} {v : BitVec 32}
    (h : ∀ r, (s.ch n).link.relay = some r → k ≠ r.serial) : actRelayAnswer n k known v s = s := by
  unfold actRelayAnswer
  split
  next r hr => exact if_neg fun e => h r hr e.symm
  next => rfl

theorem written_actRelayAnswer {c : Channel} {p : PatchRecord} {q : ControlPort} {es : List Emission} {r : Relay}
    (h : c.link.relay = some r) (known : Bool) (v : BitVec 32) :
    actRelayAnswer n r.serial known v (s.written n c p q es) =
      s.written n { c with link := { c.link with relay := none } } p
        { q with
          replies := q.replies ++
            [⟨0x35, r.tag, if known then .ok false (.relayed v) else .refused .badValue .none_, false⟩] } es := by
  unfold actRelayAnswer
  rw [State.written_ch, h]
  exact (if_pos rfl).trans (State.written_endRelay _ _ _ _ _ _ h (by cases known <;> nofun))

end

theorem Link.report_eq (l : Link) :
    l.report =
      { state := l.state, rate := l.rate, tries := l.tries, lastFailure := l.lastFailure
        delay := l.delay, lead := l.delay.map (· + 96), stationSerial := l.stationSerial
        reportedKind := l.reportedKind, rigCapable := l.rigCapable
        ratesOffered := l.ratesOffered, errorCount := l.errorCount, windowEnd := l.windowEnd
        clicks := l.queue.countP Event.isClick, patches := l.queue.countP Event.isPatch
        lampEvents := l.queue.countP Event.isLamp
        cueLamp := l.cueLamp.map fun x => (x.pattern, x.source)
        stopLamp := l.stopLamp.map fun x => (x.pattern, x.source)
        testing := l.test.isSome, relaying := l.relay.isSome, lateCount := l.lateCount } := by
  simp only [report, List.countP_eq_length_filter]

/-- Settles O42: STATION_PARAM by the link and a relay in flight; the relay ended by its answer or its time-out. -/
theorem relaysAndQueries : Obligations.RelaysAndQueries := by
  intro s n
  refine ⟨fun tag number k value hadm => ⟨fun bad => ?_, ?_⟩, fun r hr => ⟨fun v => ?_, fun v => ?_,
    fun k known v hk => ?_, fun le => ?_⟩, fun hr k known v => ?_, fun tag number hadm => ⟨fun bad => ?_, ?_⟩⟩
  · exact exec_refused (i := paramRequest tag number k value) requestOf_param rfl hadm (actStationParam_bad bad)
  · rintro rfl
    have judged := actStationParam_one (tag := tag) (k := k) (value := value) (s := s.taken) n
    rw [s.taken_ch, s.taken_time] at judged
    refine ⟨fun down => ?_, fun up busy => ?_, fun up idle => ?_⟩
    · exact exec_refused (i := paramRequest tag (n.val + 1) k value) requestOf_param rfl hadm
        (judged.trans (if_pos down))
    · exact exec_refused (i := paramRequest tag (n.val + 1) k value) requestOf_param rfl hadm
        (judged.trans ((if_neg (not_not.mpr up)).trans (if_pos busy)))
    · refine (exec_request_deferred (i := paramRequest tag (n.val + 1) k value) requestOf_param rfl hadm
        (judged.trans ((if_neg (not_not.mpr up)).trans (if_neg (not_not.mpr idle))))).trans ?_
      conv_lhs => rw [← s.taken_written n]
      rw [State.written_send, State.written_mapLink, State.taken_setCh, s.taken_time]
      rfl
  · exact exec_channel rfl (written_actRelayAnswer hr true v)
  · exact exec_channel rfl (written_actRelayAnswer hr false v)
  · refine command_idle (act := actRelayAnswer n k known v) (actRelayAnswer_other fun r' h' => ?_)
    rwa [show r' = r from Option.some.inj (h'.symm.trans hr)]
  · exact exec_channel_at (act := fun s => s.whenReached ((s.ch n).link.relay.map fun r => r.start + 2400) fun x =>
        x.endRelay n (.refused .timeout .none_)) (f := fun x => x.endRelay n (.refused .timeout .none_)) rfl
      (congrArg (fun v => s.quiet.whenReached (Option.map _ v) _) hr) le
      (State.written_endRelay _ _ _ _ _ _ hr nofun)
  · exact command_idle (act := actRelayAnswer n k known v)
      (actRelayAnswer_other fun r' h' => absurd (h'.symm.trans hr) nofun)
  · exact exec_refused (i := .stationQuery tag number) (r := ⟨0x31, tag, true, actStationQuery number⟩) rfl rfl hadm
      (actStationQuery_bad bad)
  · rintro rfl
    have run := exec_request_replied (i := .stationQuery tag (n.val + 1)) rfl rfl hadm
      (actStationQuery_one (s := s.taken) n) nofun
    rwa [s.taken_ch, s.taken_patchOf, Link.report_eq] at run

end Sys2Proof.Machine
end

section
/-! PROOFS. STATION_SET and the settings refresh (O34). -/

namespace Sys2Proof.Machine

variable {s : State} {n : Station}

/-! ## The values of a STATION_SET (R120) -/

/-- R120: a role, kind, subdivision or name character of a STATION_SET out of range. -/
def BadAssigned (raw : RawAssigned) : Prop :=
  2 < raw.role ∨ 1 < raw.kind ∨ raw.click.subdivision ∉ [1, 2, 3, 4, 6, 8] ∨ ∃ x ∈ raw.name, x < 32 ∨ 126 < x

/-- R120: the assigned part that a STATION_SET carries, clamped. -/
def clampedAssigned (raw : RawAssigned) : Assigned :=
  { role := if raw.role = 0 then .unused else if raw.role = 1 then .player else .md
    kind := if raw.kind = 0 then .click else .rig
    name := raw.name
    click := { raw.click with level := min 15 raw.click.level }
    md := raw.md
    linkTries := min 7 (max 1 raw.linkTries)
    errorLimit := min 15 raw.errorLimit }

theorem StationRole.ofCode_eq (n : Nat) :
    ofCode n = if 2 < n then none else some (if n = 0 then .unused else if n = 1 then .player else .md) := by
  rcases n with _ | _ | _ | n <;> rfl

theorem kindOfCode_eq (n : Nat) :
    kindOfCode n = if 1 < n then none else some (if n = 0 then .click else .rig) := by
  rcases n with _ | _ | n <;> rfl

theorem subdivision_and_name {raw : RawAssigned} :
    (validSubdivision raw.click.subdivision ∧ Text.printable raw.name) ↔
      ¬ (raw.click.subdivision ∉ [1, 2, 3, 4, 6, 8] ∨ ∃ x ∈ raw.name, x < 32 ∨ 126 < x) := by
  rw [printable_iff, not_or, not_not]
  refine and_congr (by simp [validSubdivision]) ?_
  push Not
  exact Iff.rfl

theorem readAssigned_bad {raw : RawAssigned} (h : BadAssigned raw) : readAssigned raw = none := by
  unfold readAssigned
  rw [StationRole.ofCode_eq, kindOfCode_eq]
  by_cases hr : 2 < raw.role
  · rw [if_pos hr]
  · by_cases hk : 1 < raw.kind
    · rw [if_pos hk, if_neg hr]
    · rw [if_neg hr, if_neg hk]
      exact if_neg (mt subdivision_and_name.mp (not_not.mpr ((h.resolve_left hr).resolve_left hk)))

theorem readAssigned_good {raw : RawAssigned} (h : ¬ BadAssigned raw) :
    readAssigned raw =
      some (clampedAssigned raw,
        decide (15 < raw.click.level ∨ raw.linkTries = 0 ∨ 7 < raw.linkTries ∨ 15 < raw.errorLimit)) := by
  unfold BadAssigned at h
  rw [not_or, not_or] at h
  obtain ⟨hr, hk, hv⟩ := h
  have tries : clampTo 1 7 raw.linkTries ≠ raw.linkTries ↔ raw.linkTries = 0 ∨ 7 < raw.linkTries := by
    unfold clampTo
    omega
  unfold readAssigned
  rw [StationRole.ofCode_eq, kindOfCode_eq, if_neg hr, if_neg hk]
  refine (if_pos (subdivision_and_name.mpr hv)).trans ?_
  simp only [tries]
  simp only [Bool.decide_or, clampTo, Bool.or_assoc]
  rfl

theorem Channel.refreshed_up {c : Channel} (h : c.link.state = .up) (y : Sample) :
    c.refreshed y = { c with link := { c.link with refreshAt := some (y + 48000) } } := if_pos h

theorem Channel.refreshed_down {c : Channel} (h : c.link.state ≠ .up) (y : Sample) : c.refreshed y = c := if_neg h

/-! ## A station written (R84, R121, R132) -/

namespace State

variable (s : State) (n : Station) (c : Channel) (p : PatchRecord) (q : ControlPort) (es : List Emission)

section
variable {before after : StationRole}

theorem written_roleLink_stays (h : before = .unused ↔ after = .unused) :
    (s.written n c p q es).roleLink n before after = s.written n c p q es := by
  unfold roleLink
  rw [if_neg fun k => k.2 (h.mp k.1), if_neg fun k => k.1 (h.mpr k.2)]

theorem written_roleLink_enters (hb : before = .unused) (ha : after ≠ .unused) :
    (s.written n c p q es).roleLink n before after =
      s.written n { c with link := c.link.seeking s.time.S none } p
        (q.offer (.linkState n .off .seek .full .role s.time.S none)) (es ++ [.link n s.time.S .seekBurst]) := by
  unfold roleLink
  rw [if_pos ⟨hb, ha⟩, written_enterSeek, written_linkNotice]
  rfl

theorem written_roleLink_leaves (hb : before ≠ .unused) (ha : after = .unused) (down : c.link.state ≠ .up) :
    (s.written n c p q es).roleLink n before after =
      s.written n { c with link := c.link.off } p
        (q.offer (.linkState n c.link.state .off .full .role s.time.S none)) es := by
  unfold roleLink
  rw [if_neg fun k => hb k.1, if_pos ⟨hb, ha⟩, written_ch, if_neg (mt Channel.isUp_iff.mp down), written_linkOff,
    written_linkNotice]
  rfl

theorem written_roleLink_leavesUp (hb : before ≠ .unused) (ha : after = .unused) (up : c.link.state = .up) :
    (s.written n c p q es).roleLink n before after =
      s.written n { c.down with link := c.down.link.off } p.linkLost (q.linkLost n c p .off .role s.time.S) es := by
  unfold roleLink
  rw [if_neg fun k => hb k.1, if_pos ⟨hb, ha⟩, written_ch, if_pos (Channel.isUp_iff.mpr up)]
  exact written_leaveUp_role ..

end

section
variable {a : Assigned} {c' : Channel} {p' : PatchRecord} {q' : ControlPort} {es' : List Emission}

/-- R84, R121: a station written, by what its role does to the link and whether it loses its patch record. -/
theorem written_writeStation
    (h : (s.written n { c with assigned := a } p q es).roleLink n c.assigned.role a.role = s.written n c' p' q' es') :
    writeStation a n (s.written n c p q es) =
      s.written n
        (Channel.refreshed
          (if c.assigned.drops a = true then { c' with link := c'.link.withdrawPatch } else c') s.time.S)
        (if c.assigned.drops a = true then PatchRecord.powerUp else p') q'
        (if c'.link.state = .up then es' ++ [.link n s.time.S (.settings c'.assigned)] else es') := by
  rw [writeStation_eq]
  dsimp only
  rw [written_ch, written_setCh, h]
  split
  · rw [written_dropPatchRecord, written_sendSettings]
    rfl
  · rw [written_sendSettings]

variable (h : (s.written n { c with assigned := a } p q es).roleLink n c.assigned.role a.role =
  s.written n c' p' q' es')
include h

theorem written_writeStation_kept (hd : ¬ c.assigned.drops a = true) (down : c'.link.state ≠ .up) :
    writeStation a n (s.written n c p q es) = s.written n c' p' q' es' := by
  rw [written_writeStation _ _ _ _ _ _ h, if_neg hd, if_neg hd, if_neg down, Channel.refreshed_down down]

theorem written_writeStation_dropped (hd : c.assigned.drops a = true) (down : c'.link.state ≠ .up) :
    writeStation a n (s.written n c p q es) =
      s.written n { c' with link := c'.link.withdrawPatch } PatchRecord.powerUp q' es' := by
  rw [written_writeStation _ _ _ _ _ _ h, if_pos hd, if_pos hd, if_neg down, Channel.refreshed_down]
  exact down

theorem written_writeStation_keptUp (hd : ¬ c.assigned.drops a = true) (up : c'.link.state = .up) :
    writeStation a n (s.written n c p q es) =
      s.written n { c' with link := { c'.link with refreshAt := some (s.time.S + 48000) } } p' q'
        (es' ++ [.link n s.time.S (.settings c'.assigned)]) := by
  rw [written_writeStation _ _ _ _ _ _ h, if_neg hd, if_neg hd, if_pos up, Channel.refreshed_up up]

theorem written_writeStation_droppedUp (hd : c.assigned.drops a = true) (up : c'.link.state = .up) :
    writeStation a n (s.written n c p q es) =
      s.written n { c' with link := { c'.link.withdrawPatch with refreshAt := some (s.time.S + 48000) } }
        PatchRecord.powerUp q' (es' ++ [.link n s.time.S (.settings c'.assigned)]) := by
  rw [written_writeStation _ _ _ _ _ _ h, if_pos hd, if_pos hd, if_pos up, Channel.refreshed_up]
  exact up

end

end State

theorem Assigned.drops_iff {before after : Assigned} :
    before.drops after = true ↔
      (before.role ≠ .unused ∧ after.role = .unused) ∨ (before.kind = .rig ∧ after.kind = .click) := by
  simp [drops]

/-! ## STATION_SET judged (R120) -/

section
variable {tag number : Nat} {raw : RawAssigned} {a : Assigned} {clamped : Bool}

theorem exec_stationSet {t : State} {b : Answer} (hadm : s.admits tag) (hl : raw.name.length ≤ 8)
    (hact : actStationSet number raw s.taken = (t, b)) (hnow : b ≠ .deferred) :
    exec (.stationSet tag number raw) s = .next (t.replied 0x30 tag b) :=
  exec_request_replied (i := .stationSet tag number raw) rfl (decide_eq_true hl) hadm hact hnow

theorem State.mdTaken_one : s.mdTaken (n.val + 1) = true ↔ ∃ m, m ≠ n ∧ (s.ch m).assigned.role = .md := by
  unfold mdTaken
  rw [stationOf_inside]
  simp [mem_allStations]

theorem State.mdTaken_all : s.mdTaken 0 = true ↔ 1 < s.inUse.length := decide_eq_true_iff

theorem actStationSet_bad (h : 24 < number ∨ BadAssigned raw) : actStationSet number raw s = refuse s .badValue := by
  unfold actStationSet
  by_cases hb : BadAssigned raw
  · rw [readAssigned_bad hb]
  · rw [readAssigned_good hb]
    exact if_pos (.inl (h.resolve_right hb))

theorem actStationSet_md (hr : (clampedAssigned raw).role = .md) (hm : s.mdTaken number = true) :
    actStationSet number raw s = refuse s .badValue := by
  unfold actStationSet
  by_cases hb : BadAssigned raw
  · rw [readAssigned_bad hb]
  · rw [readAssigned_good hb]
    exact if_pos (.inr ⟨hr, hm⟩)

theorem actStationSet_taken (hb : ¬ BadAssigned raw) (hn : number ≤ 24)
    (hm : (clampedAssigned raw).role = .md → s.mdTaken number = false) :
    actStationSet number raw s =
      (let named := match stationOf number with
        | some n => [n]
        | none => s.inUse
       (forStations (State.writeStation (clampedAssigned raw)) named s,
         .ok (decide (15 < raw.click.level ∨ raw.linkTries = 0 ∨ 7 < raw.linkTries ∨ 15 < raw.errorLimit))
           (.stationsWritten named.length (clampedAssigned raw)))) := by
  unfold actStationSet
  rw [readAssigned_good hb]
  refine (if_neg ?_).trans rfl
  rintro (h | ⟨hr, h⟩)
  · exact absurd hn (Nat.not_le.mpr h)
  · simp [hm hr] at h

theorem State.taken_mdTaken (s : State) (number : Nat) : s.taken.mdTaken number = s.mdTaken number := by
  unfold mdTaken
  simp only [s.taken_ch, s.taken_inUse]

/-- R120, R121: one station written. -/
theorem exec_stationSet_one (hadm : s.admits tag) (hl : raw.name.length ≤ 8) (hb : ¬ BadAssigned raw)
    (hm : (clampedAssigned raw).role = .md → ∀ m, m ≠ n → (s.ch m).assigned.role ≠ .md)
    {c : Channel} {p : PatchRecord} {q : ControlPort} {es : List Emission}
    (h : State.writeStation (clampedAssigned raw) n (s.taken.written n (s.ch n) (s.patchOf n) s.taken.port []) =
      s.taken.written n c p q es) :
    exec (.stationSet tag (n.val + 1) raw) s =
      .next (State.replied { (s.taken.setCh n c).setPatch n p with port := q, emitted := es } 0x30 tag
        (.ok (decide (15 < raw.click.level ∨ raw.linkTries = 0 ∨ 7 < raw.linkTries ∨ 15 < raw.errorLimit))
          (.stationsWritten 1 (clampedAssigned raw)))) := by
  rw [s.taken_written] at h
  refine exec_stationSet hadm hl ((actStationSet_taken hb (by omega) fun hr => ?_).trans ?_) nofun
  · rw [s.taken_mdTaken, ← Bool.not_eq_true, State.mdTaken_one]
    rintro ⟨m, ne, md⟩
    exact hm hr m ne md
  · rw [stationOf_inside]
    exact congrArg (·, _) h

end

/-- Settles O34: the values by `readAssigned`, and a station written by its role before and after, its link, and
whether it loses its patch record. -/
theorem stationSettings : Obligations.StationSettings := by
  intro s tag number raw hadm hl
  refine ⟨fun bad => exec_stationSet hadm hl (actStationSet_bad bad) nofun, fun n hn hr hm => ?_,
    fun n m hn hr hne hu hv => ?_, fun n hn hb hm => ?_, fun hn hb hr => ?_, fun n x hx le up => ?_⟩
  · subst hn
    refine exec_stationSet hadm hl (actStationSet_md hr ?_) nofun
    rw [s.taken_mdTaken]
    exact State.mdTaken_one.mpr hm
  · subst hn
    refine exec_stationSet hadm hl (actStationSet_md hr ?_) nofun
    rw [s.taken_mdTaken, State.mdTaken_all]
    by_contra few
    have hn := State.mem_inUse.mpr hu
    have hm := State.mem_inUse.mpr hv
    match hlist : s.inUse, few with
    | [], _ => simp [hlist] at hn
    | [x], _ =>
      rw [hlist, List.mem_singleton] at hn hm
      exact hne (hn.trans hm.symm)
    | x :: y :: l, few => simp at few
  · subst hn
    intro c written p kept unpatched lost wrote
    have stays {b a : StationRole} (hb : b ≠ .unused) (ha : a ≠ .unused) : b = .unused ↔ a = .unused :=
      iff_of_false hb ha
    have drops {b a : Assigned} (hk : ¬ ¬ (b.kind = .rig ∧ a.kind = .click)) : b.drops a = true :=
      Assigned.drops_iff.mpr (.inr (not_not.mp hk))
    have keeps {b a : Assigned} (hr : a.role = .unused → b.role = .unused) (hk : ¬ (b.kind = .rig ∧ a.kind = .click)) :
        ¬ b.drops a = true := by
      rw [Assigned.drops_iff]
      exact fun h => h.elim (fun h => h.1 (hr h.2)) hk
    have leaves {b a : Assigned} (hb : b.role ≠ .unused) (ha : a.role = .unused) : b.drops a = true :=
      Assigned.drops_iff.mpr (.inl ⟨hb, ha⟩)
    rw [← s.taken_time]
    refine ⟨fun hb ha down k => ?_, fun hb ha up k => ?_, fun hb ha up k => ?_, fun hb ha k => ?_,
      fun hb ha down => ?_, fun hb ha up => ?_, fun hb ha down k => ?_, fun hs down k => ?_, fun hb ha k => ?_⟩
    all_goals refine exec_stationSet_one hadm hl ‹_› hm ?_
    · exact State.written_writeStation_kept _ _ _ _ _ _ (State.written_roleLink_stays _ _ _ _ _ _ (stays hb ha))
        (keeps (fun h => absurd h ha) k) down
    · exact State.written_writeStation_keptUp _ _ _ _ _ _ (State.written_roleLink_stays _ _ _ _ _ _ (stays hb ha))
        (keeps (fun h => absurd h ha) k) up
    · exact State.written_writeStation_droppedUp _ _ _ _ _ _ (State.written_roleLink_stays _ _ _ _ _ _ (stays hb ha))
        (drops k) up
    · exact State.written_writeStation_kept _ _ _ _ _ _ (State.written_roleLink_enters _ _ _ _ _ _ hb ha)
        (keeps (fun _ => hb) k) nofun
    · exact State.written_writeStation_dropped _ _ _ _ _ _ (State.written_roleLink_leaves _ _ _ _ _ _ hb ha down)
        (leaves hb ha) nofun
    · exact State.written_writeStation_dropped _ _ _ _ _ _ (State.written_roleLink_leavesUp _ _ _ _ _ _ hb ha up)
        (leaves hb ha) nofun
    · exact State.written_writeStation_kept _ _ _ _ _ _
        (State.written_roleLink_stays _ _ _ _ _ _ (iff_of_true hb ha)) (keeps (fun _ => hb) k) down
    · exact State.written_writeStation_dropped _ _ _ _ _ _ (State.written_roleLink_stays _ _ _ _ _ _ hs)
        (drops k) down
    · exact State.written_writeStation_dropped _ _ _ _ _ _ (State.written_roleLink_enters _ _ _ _ _ _ hb ha)
        (drops k) nofun
  · subst hn
    have acts (m : Station) : ActsOn m (State.writeStation (clampedAssigned raw) m) := ActsOn.writeStation _
    have frame := forStations_frame acts s.taken.inUse s.taken
    have run := exec_stationSet hadm hl (actStationSet_taken (number := 0) (s := s.taken) hb (by omega)
      fun h => absurd h hr) nofun
    refine ⟨_, run, fun n => ?_, fun n hu => ?_, ?_, frame.time.trans s.taken_time, frame.click.trans s.taken_click,
      frame.cue, frame.ctl, frame.vin.trans s.taken_vin, frame.vout.trans s.taken_vout,
      frame.reports.trans s.taken_reports, frame.pending.trans s.taken_pending⟩
    · refine (State.writeStations_assigned s.taken _ s.taken.inUse n).trans ?_
      simp only [s.taken_inUse, State.mem_inUse, s.taken_ch, ite_not]
      rfl
    · have hm : n ∉ s.taken.inUse := by
        rw [s.taken_inUse, State.mem_inUse]
        exact not_not.mpr hu
      obtain ⟨ch, patch⟩ := forStations_other acts n _ hm s.taken
      exact ⟨ch.trans (s.taken_ch n), patch.trans (s.taken_patchOf n)⟩
    · refine (State.replied_replies ..).trans ?_
      rw [← s.inUse_eq, ← s.taken_inUse]
      rfl
  · have sent := State.written_sendSettings (s.quiet.atS (s.takenAt x)) n (s.ch n) (s.patchOf n) s.port []
    rw [Channel.refreshed_up up, if_pos up] at sent
    exact exec_channel_at (act := fun s => s.whenReached (s.ch n).link.refreshAt (actSettingsRefresh n)) rfl
      (congrArg (fun v => s.quiet.whenReached v _) hx) le sent

end Sys2Proof.Machine
end

section
/-! PROOFS. The format table: the entry a frame matches, and FORMAT_PUT (O43). -/

namespace Sys2Proof.Machine

variable {s : State}

/-! ## The entry a frame matches (R145) -/

/-- The first of an ascending list that satisfies `p` is the least that does. -/
theorem find?_eq_some_iff_least {k : Nat} {p : Fin k → Bool} {l : List (Fin k)} (h : l.Pairwise (· < ·)) {e : Fin k} :
    l.find? p = some e ↔ e ∈ l ∧ p e = true ∧ ∀ x ∈ l, x < e → ¬ p x = true := by
  induction l with
  | nil => simp
  | cons a l ih =>
    obtain ⟨least, rest⟩ := List.pairwise_cons.mp h
    by_cases ha : p a = true
    · rw [List.find?_cons_of_pos ha]
      constructor
      · rintro ⟨rfl⟩
        refine ⟨List.mem_cons_self, ha, fun x hx lt => ?_⟩
        rcases List.mem_cons.mp hx with rfl | hx
        · exact absurd lt (lt_irrefl _)
        · exact absurd lt (lt_asymm (least x hx))
      · rintro ⟨he, -, first⟩
        rcases List.mem_cons.mp he with rfl | he
        · rfl
        · exact absurd ha (first a List.mem_cons_self (least e he))
    · rw [List.find?_cons_of_neg ha, ih rest, List.mem_cons]
      constructor
      · rintro ⟨he, hp, first⟩
        refine ⟨.inr he, hp, fun x hx lt => ?_⟩
        rcases List.mem_cons.mp hx with rfl | hx
        · exact ha
        · exact first x hx lt
      · rintro ⟨he, hp, first⟩
        refine ⟨he.resolve_left ?_, hp, fun x hx => first x (List.mem_cons_of_mem _ hx)⟩
        rintro rfl
        exact ha hp

/-- R145: a frame of `lines` and `period` agrees with entry `e`. -/
def State.Agrees (s : State) (lines period : Nat) (e : EntryNo) : Prop :=
  ∃ f, s.format e = some f ∧ f.lines = lines ∧ f.period ≤ period + f.tolerance ∧ period ≤ f.period + f.tolerance

theorem State.agrees_iff {lines period : Nat} {e : EntryNo} :
    ((s.format e).map fun f => f.agrees lines period).getD false = true ↔ s.Agrees lines period e := by
  unfold Agrees
  cases s.format e <;> simp [Format.agrees]

theorem mem_allEntries (e : EntryNo) : e ∈ allEntries := by
  revert e; decide

theorem State.matchEntry_eq_some {lines period : Nat} {e : EntryNo} :
    s.matchEntry lines period = some e ↔ s.Agrees lines period e ∧ ∀ x < e, ¬ s.Agrees lines period x := by
  unfold matchEntry
  rw [find?_eq_some_iff_least (by decide)]
  simp only [agrees_iff, mem_allEntries, true_and, forall_const]

theorem State.matchEntry_eq_none {lines period : Nat} :
    s.matchEntry lines period = none ↔ ∀ e, ¬ s.Agrees lines period e := by
  unfold matchEntry
  rw [List.find?_eq_none]
  simp only [agrees_iff, mem_allEntries, forall_const]

/-! ## Inputs whose record changes -/

@[simp] theorem State.setInput_self (s : State) (i : Input) : s.setInput i (s.input i) = s := by cases i <;> rfl

theorem State.lockChanged_same {i : Input} {before : LockState} (h : (s.input i).lock = before) :
    s.lockChanged i before = s := if_pos h

/-- R146: the search of an input restarted after a write of entry `e`. -/
theorem State.mapInput_rewrite (i : Input) (e : EntryNo) :
    s.mapInput i (InputRecord.rewrite e) =
      (let r := s.input i
       if r.matched = some e ∧ (r.lock = .searching ∨ (r.lock = .locked ∧ r.mode = .autoDetect)) then
         (s.setInput i
           { r with
             lock := .searching, matched := none, matchCount := 0, missCount := 0, missEnd := none
             lockStart := none }).lockChanged i r.lock
       else s) := by
  unfold mapInput InputRecord.rewrite
  have names : (s.input i).names e = true ↔
      (s.input i).matched = some e ∧
        ((s.input i).lock = .searching ∨ ((s.input i).lock = .locked ∧ (s.input i).mode = .autoDetect)) := by
    simp [InputRecord.names]
  simp only [names]
  split
  · rfl
  · rw [setInput_self]
    exact lockChanged_same rfl

/-! ## FORMAT_PUT (R146) -/

theorem entryNo_val (e : EntryNo) : entryNo e.val = some e := by
  revert e; decide

theorem entryNo_above {number : Nat} (h : 15 < number) : entryNo number = none := by
  unfold entryNo
  exact dif_neg (by omega)

theorem readFormatWrite_empty {raw : RawFormat} (h : raw.lines = 0) : readFormatWrite raw = some (none, false) :=
  if_pos h

theorem readFormatWrite_bad {raw : RawFormat} (h : raw.lines ≠ 0) (hs : 1 < raw.scan) : readFormatWrite raw = none := by
  have scan : Scan.ofCode raw.scan = none := by
    obtain ⟨x, hx⟩ : ∃ x, raw.scan = x + 2 := ⟨raw.scan - 2, by omega⟩
    rw [hx]
    rfl
  unfold readFormatWrite readFormat
  rw [if_neg h, scan]
  rfl

theorem readFormatWrite_some {raw : RawFormat} (h : raw.lines ≠ 0) (hs : raw.scan ≤ 1) :
    readFormatWrite raw =
      (let f : Format :=
        ⟨min 1250 (max 200 raw.lines), min 50000 (max 10000 raw.period), min 500 raw.tolerance,
          if raw.scan = 0 then .progressive else .interlaced, min 240 (max 1 raw.width), min 135 (max 1 raw.rows)⟩
       some (some f,
        decide (f.lines ≠ raw.lines ∨ f.period ≠ raw.period ∨ f.tolerance ≠ raw.tolerance ∨
          f.width ≠ raw.width ∨ f.rows ≠ raw.rows))) := by
  have scan : Scan.ofCode raw.scan = some (if raw.scan = 0 then .progressive else .interlaced) := by
    obtain h | h : raw.scan = 0 ∨ raw.scan = 1 := by omega
    all_goals
      rw [h]
      rfl
  unfold readFormatWrite readFormat
  rw [if_neg h, scan]
  rfl

section
variable {e : EntryNo} {raw : RawFormat} {tag : Nat}

theorem exec_formatPutWrite {number : Nat} {t : State} {a : Answer} (hadm : s.admits tag)
    (hact : actFormatPutWrite number raw s.taken = (t, a)) (hnow : a ≠ .deferred) :
    exec (.formatPutWrite tag number raw) s = .next (t.replied 0x41 tag a) :=
  exec_request_replied (i := .formatPutWrite tag number raw) rfl rfl hadm hact hnow

theorem actFormatPutWrite_read {x : Option Format} {clamped : Bool} (hr : readFormatWrite raw = some (x, clamped)) :
    actFormatPutWrite e.val raw s =
      if e.val < 10 then refuse s .badValue
      else if s.isForced e then refuse s .busy
      else (s.putFormat e x, .ok clamped (.format x)) := by
  unfold actFormatPutWrite
  rw [entryNo_val, hr]

theorem actFormatPutWrite_unread (hr : readFormatWrite raw = none) :
    actFormatPutWrite e.val raw s = refuse s .badValue := by
  unfold actFormatPutWrite
  rw [entryNo_val, hr]

theorem actFormatPutWrite_above {number : Nat} (h : 15 < number) :
    actFormatPutWrite number raw s = refuse s .badValue := by
  unfold actFormatPutWrite
  rw [entryNo_above h]

theorem State.taken_isForced (s : State) (e : EntryNo) :
    s.taken.isForced e = true ↔ s.vin.inputA.mode = .forced e ∨ s.vin.inputB.mode = .forced e := by
  unfold isForced
  rw [s.taken_vin, decide_eq_true_eq]

theorem State.taken_format (s : State) (e : EntryNo) : s.taken.format e = s.format e := by
  unfold format
  rw [s.taken_vin]

/-- R146: an entry stored, and each input that names it searching afresh, A before B (log 64). -/
theorem State.putFormat_eq (s : State) (e : EntryNo) (x : Option Format) :
    s.putFormat e x =
      (State.mapInput (State.mapInput
        { s with vin := { s.vin with formats := s.vin.formats.set e.val x e.isLt } } .a (InputRecord.rewrite e)) .b
          (InputRecord.rewrite e)).refreshOutputs := rfl

end

/-- Settles O43: the least entry that agrees (`find?_eq_some_iff_least`), and FORMAT_PUT by what its WRITE reads. -/
theorem formatEntries : Obligations.FormatEntries := by
  intro s
  refine ⟨fun lines period e => State.matchEntry_eq_some, fun lines period => State.matchEntry_eq_none,
    fun tag hadm => ⟨fun e => ?_, fun number raw h => ⟨?_, ?_⟩, fun e raw => ?_⟩⟩
  · have act : actFormatPutRead e.val s.taken = (s.taken, .ok false (.format (s.format e))) := by
      unfold actFormatPutRead
      rw [entryNo_val, ← s.taken_format]
    exact exec_request_replied (i := .formatPutRead tag e.val) rfl rfl hadm act nofun
  · have act : actFormatPutRead number s.taken = refuse s.taken .badValue := by
      unfold actFormatPutRead
      rw [entryNo_above h]
    exact exec_refused (i := .formatPutRead tag number) rfl rfl hadm act
  · exact exec_formatPutWrite hadm (actFormatPutWrite_above h) nofun
  · have taken {x : Option Format} {clamped : Bool} (hr : readFormatWrite raw = some (x, clamped)) (h10 : 10 ≤ e.val)
        (hf : ¬ (s.vin.inputA.mode = .forced e ∨ s.vin.inputB.mode = .forced e)) :
        actFormatPutWrite e.val raw s.taken = (s.taken.putFormat e x, .ok clamped (.format x)) := by
      rw [actFormatPutWrite_read hr, if_neg (Nat.not_lt.mpr h10), if_neg (mt (s.taken_isForced e).mp hf)]
    refine ⟨fun low => ?_, fun hl hs => ?_, fun h10 ok hf => ?_, fun h10 hl hf => ?_, fun h10 hl hs hf => ?_⟩
    · refine exec_formatPutWrite hadm ?_ nofun
      cases hr : readFormatWrite raw with
      | none => exact actFormatPutWrite_unread hr
      | some x => exact (actFormatPutWrite_read hr).trans (if_pos low)
    · exact exec_formatPutWrite hadm (actFormatPutWrite_unread (readFormatWrite_bad hl hs)) nofun
    · obtain ⟨x, hr⟩ : ∃ x, readFormatWrite raw = some x := by
        by_cases hl : raw.lines = 0
        · exact ⟨_, readFormatWrite_empty hl⟩
        · exact ⟨_, readFormatWrite_some hl (ok.resolve_left hl)⟩
      refine exec_formatPutWrite hadm ((actFormatPutWrite_read hr).trans ?_) nofun
      rw [if_neg (Nat.not_lt.mpr h10), if_pos ((s.taken_isForced e).mpr hf)]
      rfl
    · have run := exec_formatPutWrite hadm (taken (readFormatWrite_empty hl) h10 hf) nofun
      rwa [State.putFormat_eq, State.mapInput_rewrite, State.mapInput_rewrite, s.taken_vin] at run
    · have run := exec_formatPutWrite hadm (taken (readFormatWrite_some hl hs) h10 hf) nofun
      rwa [State.putFormat_eq, State.mapInput_rewrite, State.mapInput_rewrite, s.taken_vin] at run

end Sys2Proof.Machine
end

section
/-! PROOFS. An input's record after a frame, a sync edge, and the ends of its watches (O44, O45). -/

namespace Sys2Proof.Machine

variable {s : State} {i : Input}

/-! ## The judgement of a measured frame (R150 to R152) -/

namespace InputRecord

variable {r : InputRecord} {m : Option EntryNo} {x : Sample} {f : EntryNo}

/-- R150: the match count of a SEARCHING input after a frame that matches `m`. -/
def counted (r : InputRecord) (m : Option EntryNo) : Nat :=
  if r.matched = m then min 31 (r.matchCount + 1) else 1

/-- R151: the miss count after one more miss. -/
def missedCount (r : InputRecord) : Nat := min 7 (r.missCount + 1)

theorem judge_searching (h : r.lock = .searching) (hm : r.mode = .autoDetect) : r.judge m x = r.judgeSearching m x := by
  unfold judge
  rw [h, hm]

theorem judge_locked (h : r.lock = .locked) (hm : r.mode = .autoDetect) : r.judge m x = r.judgeLocked m := by
  unfold judge
  rw [h, hm]

theorem judge_forced (h : r.lock = .locked) (hm : r.mode = .forced f) : r.judge m x = r.judgeForced m := by
  unfold judge
  rw [h, hm]

theorem judge_waits (h : r.lock = .searching) (hm : r.mode = .forced f) : r.judge m x = r := by
  unfold judge
  rw [h, hm]

theorem lockForced_auto (hm : r.mode = .autoDetect) : r.lockForced x = r := by
  unfold lockForced
  split
  next hf => exact absurd (hm.symm.trans hf) nofun
  next => rfl

theorem lockForced_locked (h : r.lock = .locked) : r.lockForced x = r := by
  unfold lockForced
  rw [h]

theorem lockForced_locks (h : r.lock = .searching) (hm : r.mode = .forced f) :
    r.lockForced x = { r with lock := .locked, matched := some f, lockStart := some x, missCount := 0 } := by
  unfold lockForced
  rw [h, hm]

theorem judgeSearching_none : r.judgeSearching none x = { r with matched := none, matchCount := 0 } := rfl

theorem judgeSearching_some (hm : m ≠ none) :
    r.judgeSearching m x =
      if r.lockCount ≤ r.counted m then
        { r with
          matched := m, matchCount := r.counted m, lock := .locked, missCount := 0, lockStart := some x }
      else { r with matched := m, matchCount := r.counted m } := by
  obtain ⟨e, rfl⟩ := Option.ne_none_iff_exists'.mp hm
  rfl

theorem agrees_iff : (m.isSome = true ∧ m = r.matched) ↔ (m ≠ none ∧ m = r.matched) := by
  rw [Option.isSome_iff_ne_none]

theorem judgeLocked_eq :
    r.judgeLocked m =
      if m ≠ none ∧ m = r.matched then { r with missCount := 0 }
      else if r.unlockCount ≤ r.missedCount then
        { r with
          lock := .searching, matched := m, matchCount := if m = none then 0 else 1, missCount := 0, missEnd := none
          lockStart := none }
      else { r with missCount := r.missedCount } := by
  unfold judgeLocked
  simp only [agrees_iff]
  cases m <;> rfl

theorem judgeForced_eq :
    r.judgeForced m =
      if m ≠ none ∧ m = r.matched then { r with missCount := 0, matchCount := min 31 (r.matchCount + 1) }
      else { r with missCount := r.missedCount, matchCount := 0 } := by
  unfold judgeForced
  simp only [agrees_iff]
  rfl

end InputRecord

/-! ## The record after a frame start (R148) -/

section
variable {micros : Nat}

/-- R148: the span of the missing watch of an entry. -/
def State.spanOf (s : State) (e : Option EntryNo) : Option Nat :=
  (e.bind s.format).map fun (f : Format) => (2 * f.period * 48 + 999) / 1000

theorem State.watchSpan_auto {r : InputRecord} (h : r.mode = .autoDetect) : s.watchSpan r = s.spanOf r.matched := by
  unfold watchSpan
  rw [h]
  rfl

theorem State.watchSpan_forced {r : InputRecord} {f : EntryNo} (h : r.mode = .forced f) :
    s.watchSpan r = s.spanOf (some f) := by
  unfold watchSpan
  rw [h]
  rfl

/-- R148: the record of input `i` after a frame start, of which the judgement made `x`, with its watch of an entry. -/
def State.Leaves (s : State) (i : Input) (micros : Nat) (x : InputRecord) (watched : Option EntryNo) : Prop :=
  s.frameRecord i micros =
    { x with
      lastFrame := some s.time.S, valid := true, edges := 0, missEnd := (s.spanOf watched).map (s.time.S + ·) }

/-- R148: the entry that a frame of input `i` matches. -/
def State.frameMatch (s : State) (i : Input) (micros : Nat) : Option EntryNo :=
  s.matchEntry (min 4095 (s.input i).edges) (min 999999 micros)

theorem State.measured_invalid {r : InputRecord} (h : r.valid = false) : s.measured r micros = r :=
  if_neg (by simp [h])

theorem State.measured_valid (h : (s.input i).valid = true) :
    s.measured (s.input i) micros = ((s.input i).store micros).judge (s.frameMatch i micros) s.time.S := if_pos h

theorem State.measured_searching (hv : (s.input i).valid = true) (hs : (s.input i).lock = .searching)
    (hm : (s.input i).mode = .autoDetect) :
    s.measured (s.input i) micros = ((s.input i).store micros).judgeSearching (s.frameMatch i micros) s.time.S :=
  (measured_valid hv).trans (InputRecord.judge_searching (r := (s.input i).store micros) hs hm)

theorem State.measured_locked (hv : (s.input i).valid = true) (hl : (s.input i).lock = .locked)
    (hm : (s.input i).mode = .autoDetect) :
    s.measured (s.input i) micros = ((s.input i).store micros).judgeLocked (s.frameMatch i micros) :=
  (measured_valid hv).trans (InputRecord.judge_locked (r := (s.input i).store micros) hl hm)

theorem State.measured_waits {f : EntryNo} (hv : (s.input i).valid = true) (hs : (s.input i).lock = .searching)
    (hm : (s.input i).mode = .forced f) : s.measured (s.input i) micros = (s.input i).store micros :=
  (measured_valid hv).trans (InputRecord.judge_waits (r := (s.input i).store micros) hs hm)

theorem State.measured_forced {f : EntryNo} (hv : (s.input i).valid = true) (hl : (s.input i).lock = .locked)
    (hm : (s.input i).mode = .forced f) :
    s.measured (s.input i) micros = ((s.input i).store micros).judgeForced (s.frameMatch i micros) :=
  (measured_valid hv).trans (InputRecord.judge_forced (r := (s.input i).store micros) hl hm)

theorem State.leaves_of {x : InputRecord} (h : (s.measured (s.input i) micros).lockForced s.time.S = x) :
    s.frameRecord i micros =
      { x with
        lastFrame := some s.time.S, valid := true, edges := 0
        missEnd := (s.watchSpan x).map (s.time.S + ·) } := by
  unfold frameRecord
  rw [h]

theorem State.leaves_auto {x : InputRecord} (hx : s.measured (s.input i) micros = x) (hm : x.mode = .autoDetect) :
    s.Leaves i micros x x.matched := by
  have h := State.leaves_of (x := x) (by rw [hx]; exact InputRecord.lockForced_auto hm)
  rwa [watchSpan_auto hm] at h

theorem State.leaves_forced {x : InputRecord} {f : EntryNo}
    (hx : (s.measured (s.input i) micros).lockForced s.time.S = x) (hm : x.mode = .forced f) :
    s.Leaves i micros x (some f) := by
  have h := State.leaves_of hx
  rwa [watchSpan_forced hm] at h

end

/-- R148, R157: a frame start of an input that has sync. -/
theorem actInputFrameStart_sync {micros : Nat} (h : (s.input i).lock ≠ .noSignal) :
    actInputFrameStart i micros s =
      (((s.setInput i (s.frameRecord i micros)).lockChanged i (s.input i).lock).takeEffect i).refreshOutputs.handFrame i :=
  if_neg h

/-- Settles O44: the record by the mode and the lock state, and in each by what the frame matches. -/
theorem framesMeasured : Obligations.FramesMeasured := by
  intro s i micros
  refine ⟨fun h => ?_, fun h => ?_, fun hm => ⟨fun hv => ?_, fun hv hs => ⟨fun none => ?_, fun some few => ?_,
    fun some full => ?_⟩, fun hv hl => ⟨fun agree => ?_, fun no few => ?_, fun no full => ?_⟩⟩,
    fun f hm => ⟨fun hs => ?_, fun hl hv => ?_, fun hl hv hf => ⟨fun agree => ?_, fun no => ?_⟩⟩⟩
  · exact command_idle (act := actInputFrameStart i micros) (if_pos h)
  · exact command_done (act := actInputFrameStart i micros) (actInputFrameStart_sync h)
  · exact State.leaves_auto (State.measured_invalid hv) hm
  · rw [if_pos hv]
    refine State.leaves_auto ((State.measured_searching hv hs hm).trans ?_) hm
    exact congrArg (InputRecord.judgeSearching _ · _) none
  · rw [if_pos hv]
    refine State.leaves_auto ((State.measured_searching hv hs hm).trans ?_) hm
    exact (InputRecord.judgeSearching_some some).trans (if_neg (Nat.not_le.mpr few))
  · rw [if_pos hv]
    refine State.leaves_auto ((State.measured_searching hv hs hm).trans ?_) hm
    exact (InputRecord.judgeSearching_some some).trans (if_pos full)
  · rw [if_pos hv]
    refine State.leaves_auto ((State.measured_locked hv hl hm).trans ?_) hm
    exact InputRecord.judgeLocked_eq.trans (if_pos agree)
  · rw [if_pos hv]
    refine State.leaves_auto ((State.measured_locked hv hl hm).trans ?_) hm
    exact InputRecord.judgeLocked_eq.trans ((if_neg no).trans (if_neg (Nat.not_le.mpr few)))
  · rw [if_pos hv]
    have judged := (State.measured_locked (micros := micros) hv hl hm).trans
      (InputRecord.judgeLocked_eq.trans ((if_neg no).trans (if_pos full)))
    have left := State.leaves_auto judged hm
    exact left
  · by_cases hv : (s.input i).valid = true
    · rw [if_pos hv]
      refine State.leaves_forced ?_ hm
      rw [State.measured_waits hv hs hm]
      exact InputRecord.lockForced_locks hs hm
    · rw [if_neg hv]
      refine State.leaves_forced ?_ hm
      rw [State.measured_invalid (by simpa using hv)]
      exact InputRecord.lockForced_locks hs hm
  · refine State.leaves_forced ?_ hm
    rw [State.measured_invalid hv, InputRecord.lockForced_locked hl]
  · rw [if_pos hv]
    refine State.leaves_forced ?_ hm
    rw [State.measured_forced hv hl hm, InputRecord.judgeForced_eq,
      if_pos ⟨by rw [State.frameMatch, agree]; nofun, agree.trans hf.symm⟩]
    exact InputRecord.lockForced_locked hl
  · rw [if_pos hv]
    refine State.leaves_forced ?_ hm
    rw [State.measured_forced hv hl hm, InputRecord.judgeForced_eq,
      if_neg fun k => no (k.2.trans hf)]
    exact InputRecord.lockForced_locked hl

/-! ## Sync edges and missing frames (R149 to R152) -/

theorem State.setInput_vin_selection (s : State) (i : Input) (r : InputRecord) :
    (s.setInput i r).vin.selection = s.vin.selection := by
  cases i <;> rfl

/-- A change of an input's record that leaves its lock state. -/
theorem State.mapInput_same {f : InputRecord → InputRecord} (h : (f (s.input i)).lock = (s.input i).lock) :
    s.mapInput i f = s.setInput i (f (s.input i)) :=
  State.lockChanged_same (by rw [State.input_setInput, if_pos rfl, h])

/-- R157: a change of the lock state in which LOCKED has no part. -/
theorem State.lockChanged_noticed {before : LockState} (h : (s.input i).lock ≠ before) (hb : before ≠ .locked)
    (hl : (s.input i).lock ≠ .locked) : s.lockChanged i before = s.lockNotice i before := by
  unfold lockChanged
  rw [if_neg h]
  exact (if_neg hl).trans (if_neg hb)

/-- R157: a change of an input's record that moves its lock state, LOCKED having no part in it. -/
theorem State.mapInput_noticed {f : InputRecord → InputRecord} {r : InputRecord} (hf : f (s.input i) = r)
    (h : r.lock ≠ (s.input i).lock) (hb : (s.input i).lock ≠ .locked) (hl : r.lock ≠ .locked) :
    s.mapInput i f =
      { s.setInput i r with
        port := s.port.offer
          (.videoState .lock (some i) (some (s.input i).lock) (some r.lock) r.matched r.lines r.period (some r.mode)
            s.vin.selection s.time.S) } := by
  have input : (s.setInput i r).input i = r := by rw [State.input_setInput, if_pos rfl]
  unfold mapInput
  rw [hf, State.lockChanged_noticed (by rwa [input]) hb (by rwa [input])]
  unfold lockNotice
  rw [input, State.setInput_vin_selection]
  cases i <;> rfl

theorem InputRecord.edge_sync {r : InputRecord} {x : Sample} (h : r.lock ≠ .noSignal) :
    r.edge x = { r with syncPresent := true, syncWatchEnd := some (x + 4800), edges := min 4095 (r.edges + 1) } :=
  if_neg h

theorem InputRecord.edge_first {r : InputRecord} {x : Sample} (h : r.lock = .noSignal) :
    r.edge x =
      { r with
        syncPresent := true, syncWatchEnd := some (x + 4800), edges := min 4095 (r.edges + 1)
        lock := .searching, matched := none, matchCount := 0, missCount := 0, lastFrame := none, valid := false } :=
  if_pos h

namespace InputRecord

variable {r : InputRecord} {y : Sample} {span : Option Nat}

theorem missFrame_searching (h : r.lock = .searching) :
    r.missFrame y span = { r with matched := none, matchCount := 0, valid := false, missEnd := none } := by
  unfold missFrame
  rw [h]

/-- R151, R152: a missing frame of a LOCKED input. -/
theorem missFrame_locked (h : r.lock = .locked) :
    r.missFrame y span =
      (let missed : InputRecord :=
        { r with missCount := r.missedCount, valid := false, missEnd := span.map (y + ·) }
       if r.mode = .autoDetect ∧ r.unlockCount ≤ r.missedCount then missed.search else missed) := by
  unfold missFrame
  rw [h]
  dsimp only
  cases hm : r.mode with
  | autoDetect =>
    simp only [true_and]
    rfl
  | forced f =>
    exact (if_neg fun k => nomatch k.1).symm

end InputRecord

/-- Settles O45: a sync edge by the lock state before it; the watches' ends at the sample they waited for. -/
theorem syncAndMissingFrames : Obligations.SyncAndMissingFrames := by
  intro s i
  refine ⟨fun h => ?_, fun h => ?_, fun x hx => ⟨fun hw => ?_, fun hw => ⟨fun hs => ?_, fun hl hk => ?_,
    fun hl hm full => ?_⟩⟩⟩
  · refine command_done (act := fun s => s.mapInput i fun r => r.edge s.time.S) ?_
    have edge := InputRecord.edge_sync (x := s.time.S) h
    have lock := congrArg InputRecord.lock edge
    have same := State.mapInput_same (s := s.quiet) (i := i) (f := fun r => r.edge s.time.S) lock
    exact same.trans (congrArg (s.quiet.setInput i) edge)
  · refine command_done (act := fun s => s.mapInput i fun r => r.edge s.time.S) ?_
    refine (State.mapInput_noticed (s := s.quiet) (InputRecord.edge_first (x := s.time.S) h) ?_ ?_ ?_).trans ?_
    · rw [show (s.quiet.input i).lock = .noSignal from h]
      nofun
    · rw [show (s.quiet.input i).lock = .noSignal from h]
      nofun
    · nofun
    · rw [show (s.quiet.input i).lock = .noSignal from h]
      rfl
  · exact command_at (act := fun s => s.whenReached (s.input i).syncWatchEnd fun x =>
      (x.mapInput i InputRecord.loseSync).refreshOutputs) (congrArg (fun v => s.quiet.whenReached v _) hw) hx
  all_goals
    have missed {q : InputRecord}
        (h : (s.input i).missFrame (s.takenAt x) (s.watchSpan (s.input i)) = q) :
        exec (.missingWatchExpiry i) s =
          .next (((((s.quiet.atS (s.takenAt x)).setInput i q).lockChanged i (s.input i).lock).refreshOutputs).atS
            s.time.S).done :=
      (command_at (act := fun s => s.whenReached (s.input i).missEnd (actMissingWatch i))
        (congrArg (fun v => s.quiet.whenReached v _) hw) hx).trans
        (congrArg (fun q => Host.Outcome.next (((((s.quiet.atS (s.takenAt x)).setInput i q).lockChanged i
          (s.input i).lock).refreshOutputs).atS s.time.S).done) h)
  · exact missed (InputRecord.missFrame_searching hs)
  · refine missed ((InputRecord.missFrame_locked hl).trans (if_neg ?_))
    rintro ⟨auto, full⟩
    rcases hk with ⟨f, forced⟩ | few
    · exact absurd (auto.symm.trans forced) nofun
    · exact absurd full (Nat.not_le.mpr few)
  · exact missed ((InputRecord.missFrame_locked hl).trans (if_pos ⟨hm, full⟩))

end Sys2Proof.Machine
end

section
/-! PROOFS. The choice between the inputs (O46). -/

namespace Sys2Proof.Machine

variable {s : State} {i : Input}

/-! ## What is chosen, and what is in effect (R156) -/

/-- R154: the input a choice names is LOCKED. -/
def State.NamesLocked (s : State) (c : Option Input) : Prop := ∃ k, c = some k ∧ (s.input k).lock = .locked

theorem State.choiceLocked_iff {c : Option Input} : s.choiceLocked c = true ↔ s.NamesLocked c := by
  unfold choiceLocked NamesLocked
  cases c <;> simp [isLocked]

/-- R157: a SELECT or EFFECT notice with a selection record (logs 48 and 75). -/
def State.choiceNote (s : State) (ev : VideoEvent) (c : Option Input) (y : Selection) : Notice :=
  let q := c.map s.input
  .videoState ev c (q.map InputRecord.lock) (q.map InputRecord.lock) (q.bind InputRecord.matched)
    (q.bind InputRecord.lines) (q.bind InputRecord.period) (q.map InputRecord.mode) y s.time.S

/-- R156: the state after a choice has given the selection record `y`. -/
def State.selected (s : State) (c : Option Input) (y : Selection) : State :=
  { s with
    vin := { s.vin with selection := y }
    port :=
      if y.inEffect = s.vin.selection.inEffect then s.port.offer (s.choiceNote .select c y)
      else (s.port.offer (s.choiceNote .select c y)).offer (s.choiceNote .effect y.inEffect y) }

theorem State.choiceNotice_selection (ev : VideoEvent) (c : Option Input) (y : Selection) :
    (s.setSelection y).choiceNotice ev c =
      { s with vin := { s.vin with selection := y }, port := s.port.offer (s.choiceNote ev c y) } := rfl

theorem State.choose_same : s.choose s.vin.selection.chosen = s := if_pos rfl

theorem State.choose_eq {c : Option Input} (h : c ≠ s.vin.selection.chosen) :
    s.choose c = s.selected c (s.vin.selection.choose c (s.choiceLocked c)) := by
  unfold choose
  dsimp only
  rw [if_neg h, choiceNotice_selection]
  unfold selected
  split <;> rfl

theorem Selection.choose_inEffect {x : Selection} {c : Option Input} (h : c = x.inEffect) (locked : Bool) :
    x.choose c locked = { x with chosen := c, pendingChange := none } := if_pos h

theorem Selection.choose_locked {x : Selection} {c : Option Input} (h : c ≠ x.inEffect) :
    x.choose c true = { x with chosen := c, pendingChange := c } := if_neg h

theorem Selection.choose_unlocked {x : Selection} {c : Option Input} (h : c ≠ x.inEffect) :
    x.choose c false = { x with chosen := c, inEffect := c, pendingChange := none } := if_neg h

theorem State.takeEffect_none (h : s.vin.selection.pendingChange ≠ some i) : s.takeEffect i = s := if_neg h

theorem State.takeEffect_eq (h : s.vin.selection.pendingChange = some i) :
    s.takeEffect i =
      (let y : Selection := { s.vin.selection with inEffect := some i, pendingChange := none }
       { s with
         vin := { s.vin with selection := y }, port := s.port.offer (s.choiceNote .effect (some i) y) }) :=
  if_pos h

/-! ## A's return time (R154) -/

theorem reached_eq (v : Option Sample) (y : Sample) : reached v y = decide (∃ x ∈ v, x ≤ y) := by
  cases v <;> simp [reached]

/-- R154: A's return time as it stands in the record of selection, and whether it has been reached. -/
def State.returning (s : State) (back : Option Sample) (spent : Bool) : State :=
  { s with
    vin :=
      { s.vin with
        selection := { s.vin.selection with returnTime := back }, returnReached := none, returnSpent := spent } }

theorem State.setReturnTime_eq (back : Option Sample) : s.setReturnTime back = s.returning back false := rfl

theorem State.returning_spendReturn (back : Option Sample) :
    (s.returning back false).spendReturn = s.returning back (decide (∃ v ∈ back, v ≤ s.time.S)) := by
  rw [← reached_eq]
  rfl

theorem State.returnDue_iff :
    s.returnDue = true ↔ s.vin.returnSpent = false ∧ ∃ v ∈ s.vin.selection.returnTime, v ≤ s.time.S := by
  unfold returnDue
  rw [reached_eq, Bool.and_eq_true, Bool.not_eq_true', decide_eq_true_eq]

/-- R154: a return time set: it acts at once where S has reached it. -/
theorem State.returnNow_returning (back : Option Sample) (auto : s.vin.selection.mode = .auto) :
    (s.returning back false).returnNow =
      (let late : Bool := decide (∃ v ∈ back, v ≤ s.time.S)
       if s.vin.selection.chosen ≠ some .a ∧ late = true then (s.returning back late).returnToA
       else s.returning back late) := by
  have due : (s.returning back false).returnDue = true ↔ ∃ v ∈ back, v ≤ s.time.S :=
    returnDue_iff.trans ⟨fun h => h.2, fun h => ⟨rfl, h⟩⟩
  unfold returnNow
  simp only [due, returning_spendReturn, decide_eq_true_eq]
  refine if_congr ?_ rfl rfl
  exact ⟨fun h => ⟨h.2.2, h.1⟩, fun h => ⟨h.2, auto, h.1⟩⟩

/-! ## A lock state that changes (R154, R157) -/

theorem State.yieldsToB_iff :
    s.yieldsToB = true ↔
      s.vin.selection.chosen ≠ some .b ∧
        (¬ s.NamesLocked s.vin.selection.chosen ∨
          (s.vin.selection.chosen = some .a ∧ s.vin.returnReached = some s.time.S)) := by
  unfold yieldsToB
  dsimp only
  rw [Bool.and_eq_true, Bool.or_eq_true, decide_eq_true_eq, decide_eq_true_eq, Bool.not_eq_true', ← Bool.not_eq_true,
    choiceLocked_iff]

section
variable {before : LockState}

theorem State.lockChanged_gained (h : before ≠ .locked) (hl : (s.input i).lock = .locked) :
    s.lockChanged i before = ((s.lockNotice i before).setReturn i true).lockGained i := by
  unfold lockChanged
  rw [if_neg fun k => h (k.symm.trans hl)]
  exact if_pos hl

theorem State.lockChanged_lost (h : (s.input i).lock ≠ .locked) :
    s.lockChanged i .locked =
      (((s.lockNotice i .locked).setReturn i false).lockLost i).takeEffect i := by
  unfold lockChanged
  rw [if_neg h]
  exact (if_neg h).trans (if_pos rfl)

end

theorem State.lockGained_b {p : Prop} [Decidable p]
    (hp : p ↔ s.vin.selection.mode = .auto ∧ s.vin.selection.chosen ≠ some .b ∧
      (¬ s.NamesLocked s.vin.selection.chosen ∨
        (s.vin.selection.chosen = some .a ∧ s.vin.returnReached = some s.time.S))) :
    s.lockGained .b = if p then s.choose (some .b) else s := by
  rw [← yieldsToB_iff] at hp
  simp only [hp, ite_and]
  rfl

theorem State.setReturn_eq (locks : Bool) :
    s.setReturn i locks =
      if i = .a ∧ s.vin.selection.mode = .auto then
        s.returning (if locks then s.returnTimeOf s.vin.selection.hold else none) false
      else s := by
  cases i
  case b => exact (if_neg fun h => nomatch h.1).symm
  case a =>
    simp only [true_and]
    rfl

theorem State.lockLost_eq :
    s.lockLost i =
      if s.vin.selection.mode = .auto ∧ s.vin.selection.chosen = some i then
        s.choose (if (s.input (otherInput i)).lock = .locked then some (otherInput i) else none)
      else s := by
  unfold lockLost isLocked
  simp only [decide_eq_true_eq]

/-- R154, R157: an input that leaves LOCKED, in the order of R157. -/
theorem State.lockChanged_lost_eq (h : (s.input i).lock ≠ .locked) :
    s.lockChanged i .locked =
      (let t := s.lockNotice i .locked
       let u := if i = .a ∧ s.vin.selection.mode = .auto then t.returning none false else t
       (if s.vin.selection.mode = .auto ∧ s.vin.selection.chosen = some i then
          u.choose (if (s.input (otherInput i)).lock = .locked then some (otherInput i) else none)
        else u).takeEffect i) := by
  have moved : (s.lockNotice i .locked).setReturn i false =
      if i = .a ∧ s.vin.selection.mode = .auto then (s.lockNotice i .locked).returning none false
      else s.lockNotice i .locked := setReturn_eq false
  rw [lockChanged_lost h, moved, lockLost_eq]
  dsimp only
  by_cases hu : i = .a ∧ s.vin.selection.mode = .auto
  · rw [if_pos hu]
    cases i <;> rfl
  · rw [if_neg hu]
    cases i <;> rfl

/-- Settles O46: a choice by what is in effect and the lock of what it names; a change of the lock state by the state
before and after it, and the mode. -/
theorem locksAndChoice : Obligations.LocksAndChoice := by
  intro s i
  refine ⟨fun c hc => ⟨fun he => ?_, fun he hl => ?_, fun he hl => ?_⟩, State.choose_same, State.takeEffect_none,
    State.takeEffect_eq, fun before => ⟨fun h => State.lockChanged_same h.symm, fun h hb hl => ?_, fun hb hl => ⟨?_, ?_, ?_⟩,
    ?_⟩⟩
  · exact (State.choose_eq hc).trans (congrArg (s.selected c) (Selection.choose_inEffect he _))
  · have locked : s.choiceLocked c = true := State.choiceLocked_iff.mpr hl
    refine (State.choose_eq hc).trans (congrArg (s.selected c) ?_)
    rw [locked]
    exact Selection.choose_locked he
  · have locked : s.choiceLocked c = false := Bool.not_eq_true _ ▸ mt State.choiceLocked_iff.mp hl
    refine (State.choose_eq hc).trans (congrArg (s.selected c) ?_)
    rw [locked]
    exact Selection.choose_unlocked he
  · exact State.lockChanged_noticed h.symm hb hl
  · rintro rfl
    rw [State.lockChanged_gained hb hl]
    exact State.lockGained_b Iff.rfl
  · rintro rfl hm
    rw [State.lockChanged_gained hb hl, State.setReturn_eq, if_neg fun h => hm h.2]
    exact if_neg hm
  · rintro rfl hm
    rw [State.lockChanged_gained hb hl, State.setReturn_eq, if_pos ⟨rfl, hm⟩]
    refine (if_pos hm).trans ?_
    exact State.returnNow_returning _ hm
  · rintro rfl hl
    refine (State.lockChanged_lost_eq hl).trans ?_
    cases i <;> rfl

end Sys2Proof.Machine
end

section
/-! PROOFS. Output frames: when one starts, what it latches and what it draws (O49). -/

namespace Sys2Proof.Machine

variable {s : State} {o : OutputNo}

/-! ## Frames in progress against their present source (R159) -/

/-- R159: an output whose frame in progress has been drawn against its present source. -/
def State.refreshed (s : State) (r : OutputRecord) : OutputRecord :=
  { r with frame := r.frame.map fun f => f.refresh (s.lockedSource r) }

theorem State.refreshOutput_output (k : OutputNo) :
    (s.refreshOutput k).output o = if o = k then s.refreshed (s.output o) else s.output o := by
  unfold refreshOutput
  rw [output_setOutput]
  split
  next h => rw [h]; rfl
  next => rfl

theorem State.refreshOutput_refreshed (k : OutputNo) (r : OutputRecord) :
    (s.refreshOutput k).refreshed r = s.refreshed r := rfl

theorem State.foldl_refreshOutput_output (ks : List OutputNo) (nd : ks.Nodup) :
    (ks.foldl State.refreshOutput s).output o = if o ∈ ks then s.refreshed (s.output o) else s.output o := by
  induction ks generalizing s with
  | nil => rfl
  | cons k ks ih =>
    obtain ⟨hk, nd⟩ := List.nodup_cons.mp nd
    rw [List.foldl_cons, ih nd, refreshOutput_refreshed, refreshOutput_output]
    by_cases ho : o = k
    · subst ho
      simp [hk]
    · simp [ho]

theorem State.refreshOutputs_output : s.refreshOutputs.output o = s.refreshed (s.output o) := by
  unfold refreshOutputs
  rw [foldl_refreshOutput_output _ (by decide), if_pos]
  revert o
  decide

/-- R159: nothing but the outputs' frames changes. -/
theorem State.refreshOutputs_eq (s : State) :
    s.refreshOutputs = { s with vout := { s.vout with outputs := s.refreshOutputs.vout.outputs } } := by
  unfold refreshOutputs
  induction allOutputs generalizing s with
  | nil => rfl
  | cons k ks ih => exact ih (s.refreshOutput k)

theorem State.refreshOutputs_atS (s : State) (y : Sample) : (s.atS y).refreshOutputs = s.refreshOutputs.atS y := by
  unfold refreshOutputs
  induction allOutputs generalizing s with
  | nil => rfl
  | cons k ks ih => exact ih (s.refreshOutput k)

theorem State.refreshOutputs_time (s : State) : s.refreshOutputs.time = s.time := by rw [refreshOutputs_eq]
theorem State.refreshOutputs_vin (s : State) : s.refreshOutputs.vin = s.vin := by rw [refreshOutputs_eq]

/-! ## Which frame an output starts (R159, R160) -/

theorem State.usableEntry_eq (e : EntryNo) : s.usableEntry e = if s.format e = none then 2 else e := by
  unfold usableEntry
  cases s.format e <;> rfl

/-- R160: the time of an output's own frame has come. -/
def State.Elapsed (s : State) (r : OutputRecord) (micros : Nat) : Prop :=
  match r.lastFrame, r.frame with
  | none, _ => True
  | some _, some f => f.format.period ≤ micros
  | some _, none => (s.fieldsOf (s.usableEntry r.holdFormat)).period ≤ micros

theorem State.ownFrameDue_iff {r : OutputRecord} {micros : Nat} :
    s.ownFrameDue r micros = true ↔ s.Elapsed r micros := by
  unfold ownFrameDue Elapsed
  cases r.lastFrame with
  | none => simp
  | some x => cases r.frame <;> simp

theorem State.ownFrame_starts {micros : Nat} (h : (s.output o).enabled = true) (he : s.Elapsed (s.output o) micros) :
    s.ownFrame o micros =
      s.startFrame o (if s.lockedSource (s.output o) = none then .fallback else .fill)
        (s.usableEntry (s.output o).holdFormat) := by
  refine (if_pos ⟨h, ownFrameDue_iff.mpr he⟩).trans ?_
  cases s.lockedSource (s.output o) <;> rfl

theorem State.ownFrame_waits {micros : Nat} (h : (s.output o).enabled = false ∨ ¬ s.Elapsed (s.output o) micros) :
    s.ownFrame o micros = s := by
  refine if_neg fun k => ?_
  rcases h with h | h
  · exact absurd (h.symm.trans k.1) nofun
  · exact h (ownFrameDue_iff.mp k.2)

/-! ## Adoption (R165) -/

/-- R165: with no adoption due, a staged layout is the committed one. -/
theorem VideoOut.settleStaged_eq (v : VideoOut) :
    v.settleStaged =
      match v.staged with
      | some l =>
        if v.outputs.toList.any OutputRecord.adoptionDue = true then v else { v with committed := l, staged := none }
      | none => v := by
  have none_due : v.adoptions = 0 ↔ ¬ v.outputs.toList.any OutputRecord.adoptionDue = true := by
    unfold adoptions
    rw [List.length_eq_zero_iff, List.filter_eq_nil_iff, Bool.not_eq_true, List.any_eq_false]
  unfold settleStaged
  cases v.staged with
  | none => rfl
  | some l => simp only [none_due, ite_not]

theorem VideoOut.settleStaged_outputs (v : VideoOut) : v.settleStaged.outputs = v.outputs := by
  rw [settleStaged_eq]
  repeat' split
  all_goals rfl

theorem VideoOut.settleStaged_palette (v : VideoOut) :
    v.settleStaged.palette = v.palette ∧ v.settleStaged.bannerText = v.bannerText := by
  rw [settleStaged_eq]
  repeat' split
  all_goals exact ⟨rfl, rfl⟩

/-- R165: an output's record once an adoption due is made. -/
def State.adopted (s : State) (r : OutputRecord) : OutputRecord :=
  if r.adoptionDue = true then { r with layout := s.vout.staged.getD r.layout, adoptionDue := false } else r

theorem State.adopt_eq :
    s.adopt o =
      (let r := s.output o
       { s with
         vout :=
          if r.adoptionDue = true then
            VideoOut.settleStaged { s.vout with outputs := s.vout.outputs.set o.val (s.adopted r) o.isLt }
          else s.vout }) := by
  unfold adopt adopted
  dsimp only
  split <;> rfl

theorem State.adopt_output : (s.adopt o).output o = s.adopted (s.output o) := by
  rw [adopt_eq]
  unfold State.output adopted
  dsimp only
  split
  · rw [VideoOut.settleStaged_outputs]
    exact (vector_get_set s.vout.outputs o o _).trans (if_pos rfl)
  · rfl

/-! ## A frame start (R160, R162, R166, R167) -/

theorem OutputRecord.settleFlash_eq (r : OutputRecord) (b : Option BeatRecord) :
    r.settleFlash b =
      (let lit : BeatRecord → OutputRecord := fun b =>
        { r with
          litOnset := some b.onset, framesLeft := r.flashFrames
          litColour := if b.level = .down then r.layout.downbeat else r.layout.flash.foreground }
       match b, r.litOnset with
       | none, _ => { r with litOnset := none, framesLeft := 0 }
       | some b, none => lit b
       | some b, some x =>
         if x < b.onset then lit b
         else if x = b.onset then r
         else { r with litOnset := some b.onset, framesLeft := 0 }) := by
  unfold settleFlash
  cases b with
  | none => rfl
  | some b =>
    cases r.litOnset with
    | none => rfl
    | some x =>
      simp only [eq_comm (a := b.onset)]
      rfl

/-- R166: what an output latches depends on nothing that its adoption changes. -/
theorem State.adopt_latch (r : OutputRecord) (x : Sample) : (s.adopt o).latch r x = s.latch r x := by
  rw [adopt_eq]
  unfold latch
  dsimp only
  split
  · rw [(VideoOut.settleStaged_palette _).1, (VideoOut.settleStaged_palette _).2]
  · rfl

/-- R160: a frame start: the adoption made, the record and the composed frame of the state before it. -/
theorem State.startFrame_eq (st : FrameState) (e : EntryNo) :
    s.startFrame o st e =
      (let a := s.adopted (s.output o)
       let v := (s.adopt o).vout
       { s with
         vout :=
          { v with outputs := v.outputs.set o.val (s.startRecord a st e).useFlash o.isLt }
         emitted := s.emitted ++ [.output o (s.compose a st e)] }) := by
  have adopted : s.adopt o = { s with vout := (s.adopt o).vout } := by rw [adopt_eq]
  unfold startFrame
  dsimp only
  rw [adopt_output]
  have record (r : OutputRecord) : (s.adopt o).startRecord r st e = s.startRecord r st e := by
    unfold startRecord
    rw [adopt_latch]
    rw [adopted]
    rfl
  have compose (r : OutputRecord) : (s.adopt o).compose r st e = s.compose r st e := by
    unfold State.compose
    rw [adopt_latch]
    rw [adopted]
    rfl
  rw [record, compose]
  rw [adopted]
  rfl

theorem OutputRecord.settleFlash_drawing (r : OutputRecord) (b : Option BeatRecord) :
    (r.settleFlash b).layout = r.layout ∧ (r.settleFlash b).mask = r.mask := by
  rw [settleFlash_eq]
  dsimp only
  repeat' split
  all_goals exact ⟨rfl, rfl⟩

section
variable {r f : OutputRecord} {st : FrameState} {e : EntryNo}

theorem State.startRecord_eq (h : r.settleFlash (s.latch r s.time.S).sounded = f) :
    (s.startRecord r st e).useFlash =
      { f with
        framesLeft := f.framesLeft - 1, holdFormat := e, lastFrame := some s.time.S
        frame := some ⟨st, s.lockedSource r, s.fieldsOf e⟩, latched := some (s.latch r s.time.S)
        shownPicture := r.shownPicture || decide (st = .picture) } := by
  subst h
  rfl

/-- R162, R163: the cells of a field, laid out. -/
theorem FieldContent.cells_eq (c : FieldContent) (x : OverlayField) (q : FieldRecord) :
    c.cells x q =
      (List.range x.extent.2).map fun i => (List.range x.extent.1).map fun j =>
        match c with
        | .text t => ⟨t[i * x.extent.1 + j]?, q.foreground, q.background⟩
        | .box colour => ⟨none, q.foreground, colour⟩ := by
  unfold cells
  cases c <;> rfl

/-- R162: the fields drawn go by the layout and the mask, which the flash leaves. -/
theorem drawnFields_eq (hl : f.layout = r.layout) (hm : f.mask = r.mask) (l : Latched) (g : Format) :
    drawnFields f l g =
      (allFields.filter fun x =>
        (r.layout.field x).enabled && drawnIn r.mask x &&
          decide ((r.layout.field x).column + x.extent.1 ≤ g.width ∧ (r.layout.field x).row + x.extent.2 ≤ g.rows)).map
        fun x => ⟨x, r.layout.field x, fieldContent f l x, (fieldContent f l x).cells x (r.layout.field x)⟩ := by
  unfold drawnFields OutputRecord.drawField
  simp only [hl]
  congr 2
  funext x
  unfold OutputRecord.draws
  rw [hl, hm]
  rfl

theorem State.compose_eq (h : r.settleFlash (s.latch r s.time.S).sounded = f) :
    s.compose r st e =
      { stamp := s.time.S
        state := st
        format := e
        scan := (s.fieldsOf e).scan
        picture := r.picture st (s.lockedSource r)
        palette := s.vout.palette
        fields := drawnFields f (s.latch r s.time.S) (s.fieldsOf e) } := by
  subst h
  rfl

end

/-- Settles O49: when a frame starts, by what is due; what a frame start makes, by `startFrame_eq`; the frames in
progress output by output. -/
theorem outputFrames : Obligations.OutputFrames := by
  intro s o
  refine ⟨fun micros => ⟨fun h he => ?_, fun h => ?_⟩, fun i => ⟨rfl, fun h hi => ?_, fun h => ?_⟩, fun st e => ?_,
    State.refreshOutputs_output, s.refreshOutputs_eq⟩
  · refine command_done (act := fun s => s.ownFrame o micros) ?_
    have he : s.Elapsed (s.output o) micros := by
      unfold State.Elapsed
      rw [State.usableEntry_eq]
      exact he
    refine (State.ownFrame_starts (s := s.quiet) h he).trans ?_
    rw [State.usableEntry_eq]
    rfl
  · refine command_idle (act := fun s => s.ownFrame o micros) (State.ownFrame_waits (h.imp_right fun h he => h ?_))
    unfold State.Elapsed at he
    rw [State.usableEntry_eq] at he
    exact he
  · refine (if_pos ⟨h, hi⟩).trans ?_
    rw [State.usableEntry_eq]
    rfl
  · refine if_neg fun k => ?_
    rcases h with h | h
    · exact absurd (h.symm.trans k.1) nofun
    · exact h k.2
  · intro settled a v sounded latched lit f g fields picture
    have flash : a.settleFlash sounded = f := OutputRecord.settleFlash_eq a sounded
    have vout : (s.adopt o).vout = v := by
      rw [State.adopt_eq]
      refine if_congr Iff.rfl ?_ rfl
      exact VideoOut.settleStaged_eq _
    have flashed := a.settleFlash_drawing sounded
    rw [flash] at flashed
    have drawn := drawnFields_eq flashed.1 flashed.2 latched g
    simp only [FieldContent.cells_eq] at drawn
    refine (State.startFrame_eq st e).trans ?_
    have frame := (State.compose_eq (st := st) (e := e) flash).trans
      (congrArg (fun x => (⟨s.time.S, st, e, g.scan, a.picture st (s.lockedSource a), s.vout.palette, x⟩ : OutputFrame)) drawn)
    have record := State.startRecord_eq (st := st) (e := e) flash
    show ({ s with
        vout :=
          { (s.adopt o).vout with
            outputs := (s.adopt o).vout.outputs.set o.val (s.startRecord a st e).useFlash o.isLt }
        emitted := s.emitted ++ [.output o (s.compose a st e)] } : State) = _
    have pic : a.picture st (s.lockedSource a) = picture := by
      show _ = (match st, s.lockedSource a with
        | .picture, some i => Picture.input i
        | .fill, _ => if a.shownPicture = true then .lastPicture else .pattern a.fallback
        | _, _ => .pattern a.fallback)
      unfold OutputRecord.picture
      cases st <;> cases s.lockedSource a <;> rfl
    rw [vout, record, frame, pic]
    congr 1
    refine congrArg (fun l => s.emitted ++ [Emission.output o ⟨s.time.S, st, e, g.scan, picture, s.vout.palette, l⟩])
      (List.map_congr_left fun x _ => ?_)
    dsimp only
    generalize fieldContent f latched x = c
    cases c <;> rfl

end Sys2Proof.Machine
end

section
/-! PROOFS. OUTPUT_SET, PALETTE, OVERLAY_PUT and OVERLAY_COMMIT (O48). -/

namespace Sys2Proof.Machine

variable {s : State} {tag : Nat}

theorem State.taken_output (s : State) (o : OutputNo) : s.taken.output o = s.output o := by
  unfold output
  rw [s.taken_vout]

/-- The form in which a request that changes the Mixer leaves the state. -/
theorem State.taken_mapVout (s : State) (f : VideoOut → VideoOut) :
    s.taken.mapVout f = { s.taken with vout := f s.vout } := by
  unfold mapVout
  rw [s.taken_vout]

theorem State.taken_writeOutput (s : State) (o : OutputNo) (r : OutputRecord) (f : VideoOut → VideoOut) :
    (s.taken.setOutput o r).mapVout f =
      { s.taken with vout := f { s.vout with outputs := s.vout.outputs.set o.val r o.isLt } } := by
  unfold setOutput mapVout
  rw [s.taken_vout]

/-! ## Values by their codes -/

theorem outputNo_outside {number : Nat} (h : number = 0 ∨ 4 < number) : outputNo number = none := by
  unfold outputNo
  exact dif_neg (by omega)

theorem outputNo_inside (o : OutputNo) : outputNo (o.val + 1) = some o := by
  revert o; decide

theorem OutputSource.ofCode_above {n : Nat} (h : 2 < n) : OutputSource.ofCode n = none := by
  obtain ⟨k, rfl⟩ : ∃ k, n = k + 3 := ⟨n - 3, by omega⟩
  rfl

theorem Fallback.ofCode_above {n : Nat} (h : 2 < n) : Fallback.ofCode n = none := by
  obtain ⟨k, rfl⟩ : ∃ k, n = k + 3 := ⟨n - 3, by omega⟩
  rfl

theorem OverlayField.ofCode_above {n : Nat} (h : 5 < n) : OverlayField.ofCode n = none := by
  obtain ⟨k, rfl⟩ : ∃ k, n = k + 6 := ⟨n - 6, by omega⟩
  rfl

theorem OutputSource.ofCode_listed {n : Nat} {x : OutputSource}
    (h : (n, x) ∈ [(0, OutputSource.selected), (1, .a), (2, .b)]) : OutputSource.ofCode n = some x := by
  simp only [List.mem_cons, Prod.mk.injEq, List.not_mem_nil, or_false] at h
  rcases h with ⟨rfl, rfl⟩ | ⟨rfl, rfl⟩ | ⟨rfl, rfl⟩ <;> rfl

theorem Fallback.ofCode_listed {n : Nat} {x : Fallback}
    (h : (n, x) ∈ [(0, Fallback.black), (1, .bars), (2, .card)]) : Fallback.ofCode n = some x := by
  simp only [List.mem_cons, Prod.mk.injEq, List.not_mem_nil, or_false] at h
  rcases h with ⟨rfl, rfl⟩ | ⟨rfl, rfl⟩ | ⟨rfl, rfl⟩ <;> rfl

theorem colourNo_above {n : Nat} (h : 7 < n) : colourNo n = none := dif_neg (by omega)

theorem colourNo_eq {n : Nat} {x : Fin 8} (h : x.val = n) : colourNo n = some x := by
  subst h
  exact dif_pos x.isLt

/-! ## OUTPUT_SET (R158) -/

section
variable {o : OutputNo} {raw : RawOutput}

theorem actOutputSetRead_bad {number : Nat} (h : number = 0 ∨ 4 < number) :
    actOutputSetRead number s = refuse s .badValue := by
  unfold actOutputSetRead
  rw [outputNo_outside h]

theorem actOutputSetRead_one : actOutputSetRead (o.val + 1) s = (s, .ok false (.output (s.output o))) := by
  unfold actOutputSetRead
  rw [outputNo_inside]

theorem actOutputSetWrite_bad {number : Nat}
    (h : outputNo number = none ∨ OutputSource.ofCode raw.source = none ∨ Fallback.ofCode raw.fallback = none) :
    actOutputSetWrite number raw s = refuse s .badValue := by
  unfold actOutputSetWrite
  split
  next ho hs hf =>
    rcases h with h | h | h
    · exact absurd (ho.symm.trans h) nofun
    · exact absurd (hs.symm.trans h) nofun
    · exact absurd (hf.symm.trans h) nofun
  next => rfl

/-- R158: the record of an output after a taken WRITE. -/
def OutputRecord.written (r : OutputRecord) (raw : RawOutput) (source : OutputSource) (fallback : Fallback)
    (v : VideoOut) : OutputRecord :=
  (r.set raw source fallback).enable raw.enabled v

theorem OutputRecord.written_eq (r : OutputRecord) (raw : RawOutput) (source : OutputSource) (fallback : Fallback)
    (v : VideoOut) :
    r.written raw source fallback v =
      (let q : OutputRecord :=
        { r with
          source := source, mask := raw.mask, fallback := fallback
          flashAdvance := min 9600 raw.flashAdvance, flashFrames := min 4 (max 1 raw.flashFrames) }
       if raw.enabled = q.enabled then q
       else if raw.enabled = true then
         { q with
           enabled := true, layout := v.committed, adoptionDue := v.staged.isSome, shownPicture := false }
       else { q with enabled := false, frame := none, adoptionDue := false }) := by
  unfold written enable
  simp only [eq_comm (b := raw.enabled)]
  rfl

theorem actOutputSetWrite_taken {source : OutputSource} {fallback : Fallback}
    (hs : OutputSource.ofCode raw.source = some source) (hf : Fallback.ofCode raw.fallback = some fallback) :
    actOutputSetWrite (o.val + 1) raw s =
      (let t := ((s.setOutput o ((s.output o).written raw source fallback s.vout)).mapVout
        VideoOut.settleStaged).refreshOutput o
       (t, .ok (decide (9600 < raw.flashAdvance) || decide (min 4 (max 1 raw.flashFrames) ≠ raw.flashFrames))
        (.output (t.output o)))) := by
  unfold actOutputSetWrite
  rw [outputNo_inside, hs, hf]
  rfl

end

/-! ## OVERLAY_PUT and OVERLAY_COMMIT (R164, R165) -/

section
variable {f : OverlayField} {raw : RawField} {fg bg down : Fin 8}

theorem readField_bad (h : 7 < raw.foreground ∨ 7 < raw.background ∨ (f = .flash ∧ 7 < raw.downbeat)) :
    readField f raw = none := by
  unfold readField
  split
  next hf hb hd =>
    rcases h with h | h | ⟨rfl, h⟩
    · exact absurd (hf.symm.trans (colourNo_above h)) nofun
    · exact absurd (hb.symm.trans (colourNo_above h)) nofun
    · exact absurd (hd.symm.trans ((if_pos rfl).trans (colourNo_above h))) nofun
  next => rfl

theorem readField_some (hf : fg.val = raw.foreground) (hb : bg.val = raw.background)
    (hd : (if f = .flash then colourNo raw.downbeat else some 0) = some down) :
    readField f raw =
      some (⟨min 239 raw.column, min 134 raw.row, fg, bg, raw.enabled⟩, down,
        decide (239 < raw.column) || decide (134 < raw.row)) := by
  unfold readField
  rw [colourNo_eq hf, colourNo_eq hb, hd]

theorem actOverlayPutField_bad {field : Nat}
    (h : OverlayField.ofCode field = none ∨ ∀ f, OverlayField.ofCode field = some f → readField f raw = none) :
    actOverlayPutField field raw s = refuse s .badValue := by
  unfold actOverlayPutField
  cases hf : OverlayField.ofCode field with
  | none => rfl
  | some f =>
    rw [hf] at h
    dsimp only
    rw [(h.resolve_left nofun) f rfl]

/-- R164: a field's pending record replaced. -/
theorem exec_overlayPutField {field : Nat} {r : FieldRecord} {clamped : Bool} (hadm : s.admits tag)
    (hf : OverlayField.ofCode field = some f) (hr : readField f raw = some (r, down, clamped)) :
    exec (.overlayPutField tag field raw) s =
      .next ({ s.taken with
        vout := { s.vout with pendingLayout := s.vout.pendingLayout.setField f r down } }.replied 0x49 tag
          (.ok clamped .empty)) := by
  refine exec_request_replied (i := .overlayPutField tag field raw) rfl rfl hadm (a := .ok clamped .empty) ?_ nofun
  show actOverlayPutField field raw s.taken = _
  unfold actOverlayPutField
  rw [hf]
  dsimp only
  rw [hr]
  dsimp only
  rw [s.taken_mapVout]

end

/-- R165: the outputs with adoption due once a layout has been staged are the enabled ones. -/
theorem VideoOut.stage_adoptions (v : VideoOut) :
    v.stage.settleStaged.adoptions = (v.outputs.toList.filter OutputRecord.enabled).length := by
  unfold adoptions
  rw [settleStaged_outputs]
  unfold stage
  rw [Vector.toList_map, List.filter_map, List.length_map]
  rfl

/-- Settles O48. -/
theorem outputAndOverlayRequests : Obligations.OutputAndOverlayRequests := by
  intro s tag hadm
  refine ⟨fun number raw h => ⟨?_, ?_⟩, fun o => ⟨?_, fun raw => ⟨fun h => ?_, fun source fallback hs hf => ?_⟩⟩,
    fun entry red green blue => ⟨fun h => ?_, fun e he => ?_⟩, fun field raw => ⟨fun h => ?_, fun fg bg down hf hb h5 hd => ?_⟩,
    fun text => ⟨fun h => ?_, fun hl hc => ?_, fun hl hc => ?_⟩, ?_⟩
  · exact exec_refused (i := .outputSetRead tag number) rfl rfl hadm (actOutputSetRead_bad h)
  · exact exec_refused (i := .outputSetWrite tag number raw) rfl rfl hadm
      (actOutputSetWrite_bad (.inl (outputNo_outside h)))
  · have run := exec_request_replied (i := .outputSetRead tag (o.val + 1)) rfl rfl hadm
      (actOutputSetRead_one (s := s.taken)) nofun
    rwa [s.taken_output] at run
  · exact exec_refused (i := .outputSetWrite tag (o.val + 1) raw) rfl rfl hadm
      (actOutputSetWrite_bad (.inr (h.imp OutputSource.ofCode_above Fallback.ofCode_above)))
  · intro frames q r t
    have run := exec_request_replied (i := .outputSetWrite tag (o.val + 1) raw) rfl rfl hadm
      (actOutputSetWrite_taken (s := s.taken) (o := o) (OutputSource.ofCode_listed hs) (Fallback.ofCode_listed hf)) nofun
    have written : (s.output o).written raw source fallback s.vout = r := OutputRecord.written_eq ..
    rw [s.taken_output, s.taken_vout, written, s.taken_writeOutput, VideoOut.settleStaged_eq] at run
    exact run
  · refine exec_refused (i := .palette tag entry red green blue) (r := ⟨0x4B, tag, true, actPalette entry red green blue⟩)
      rfl rfl hadm ?_
    show actPalette entry red green blue s.taken = _
    unfold actPalette
    rw [colourNo_above h]
  · refine exec_request_replied (i := .palette tag entry red green blue)
      (r := ⟨0x4B, tag, true, actPalette entry red green blue⟩) rfl rfl hadm (a := .ok false .empty) ?_ nofun
    show actPalette entry red green blue s.taken = _
    unfold actPalette
    rw [colourNo_eq he]
    dsimp only
    rw [s.taken_mapVout]
  · refine exec_refused (i := .overlayPutField tag field raw) (r := ⟨0x49, tag, true, actOverlayPutField field raw⟩)
      rfl rfl hadm (actOverlayPutField_bad ?_)
    rcases h with h | h | h | ⟨rfl, h⟩
    · exact .inl (OverlayField.ofCode_above h)
    · exact .inr fun f _ => readField_bad (.inl h)
    · exact .inr fun f _ => readField_bad (.inr (.inl h))
    · exact .inr fun f hf => readField_bad (.inr (.inr ⟨(Option.some.inj hf).symm, h⟩))
  · have put {f : OverlayField} (hcode : OverlayField.ofCode field = some f) (hflash : f = OverlayField.flash → field = 2) :
        exec (.overlayPutField tag field raw) s =
          .next ({ s.taken with
            vout := { s.vout with
              pendingLayout := s.vout.pendingLayout.setField f
                ⟨min 239 raw.column, min 134 raw.row, fg, bg, raw.enabled⟩ (if f = OverlayField.flash then down else 0) } }.replied
              0x49 tag (.ok (decide (239 < raw.column) || decide (134 < raw.row)) .empty)) := by
      refine exec_overlayPutField hadm hcode (readField_some hf hb ?_)
      by_cases h : f = .flash
      · rw [if_pos h, if_pos h]
        exact colourNo_eq (hd (hflash h))
      · rw [if_neg h, if_neg h]
    match field, h5 with
    | 0, _ => exact put (f := .cue) rfl nofun
    | 1, _ => exact put (f := .position) rfl nofun
    | 2, _ => exact put (f := .flash) rfl fun _ => rfl
    | 3, _ => exact put (f := .banner) rfl nofun
    | 4, _ => exact put (f := .countdown) rfl nofun
    | 5, _ => exact put (f := .text) rfl nofun
  · refine (exec_request (.overlayPutBannerText tag text) s _ rfl).trans ?_
    show serve 0x49 tag (decide (text.length ≤ 16)) _ s = _
    rw [decide_eq_false (Nat.not_le.mpr h)]
    exact serve_badLength _ _ _ _ hadm
  · refine exec_refused (i := .overlayPutBannerText tag text)
      (r := ⟨0x49, tag, decide (text.length ≤ 16), actOverlayPutBannerText text⟩) rfl (decide_eq_true hl) hadm
      (if_neg ?_)
    rw [printable_iff]
    obtain ⟨c, hc, out⟩ := hc
    intro all
    have := all c hc
    omega
  · have run := exec_request_replied (i := .overlayPutBannerText tag text) (s := s)
      (r := ⟨0x49, tag, decide (text.length ≤ 16), actOverlayPutBannerText text⟩) rfl (decide_eq_true hl) hadm
      (if_pos (printable_iff.mpr hc)) nofun
    rwa [s.taken_mapVout] at run
  · have run := exec_request_replied (i := .overlayCommit tag) (s := s) (r := ⟨0x4A, tag, true, actOverlayCommit⟩) rfl rfl
      hadm (t := s.taken.mapVout fun v => v.stage.settleStaged)
      (a := .ok false (.adoptions (s.vout.outputs.toList.filter OutputRecord.enabled).length)) ?_ nofun
    · rw [s.taken_mapVout, VideoOut.settleStaged_eq] at run
      exact run
    · show actOverlayCommit s.taken = _
      unfold actOverlayCommit
      rw [← s.taken_vout, ← VideoOut.stage_adoptions]
      rfl

end Sys2Proof.Machine
end

section
/-! PROOFS. RETURN_TIME, SELECT and INPUT_SET (O47). -/

namespace Sys2Proof.Machine

variable {s : State} {tag : Nat}

/-! ## RETURN_TIME (R154) -/

/-- R154: A's return time reached for good. -/
def State.returnTaken (s : State) : State := { s with vin := { s.vin with returnSpent := true } }

/-- R154: the choice of A at its return time, kept in mind where it was from none (log 55). -/
theorem State.returnToA_eq :
    s.returnToA =
      (let u := s.choose (some .a)
       if s.vin.selection.chosen = none then { u with vin := { u.vin with returnReached := some s.time.S } } else u) := rfl

theorem State.spendReturn_reached {v : Sample} (h : s.vin.selection.returnTime = some v) (hv : v ≤ s.time.S) :
    s.spendReturn = s.returnTaken := by
  unfold spendReturn returnTaken
  rw [h, reached, decide_eq_true hv, Bool.or_true]

theorem State.returnNow_reached {v : Sample} (h : s.vin.selection.returnTime = some v) (hv : v ≤ s.time.S) :
    s.returnNow =
      if s.vin.selection.mode = .auto ∧ s.vin.selection.chosen ≠ some .a ∧ s.vin.returnSpent = false then
        s.returnTaken.returnToA
      else s.returnTaken := by
  have due : s.returnDue = true ↔ s.vin.returnSpent = false := by
    rw [returnDue_iff, h]
    exact ⟨fun k => k.1, fun k => ⟨k, v, rfl, hv⟩⟩
  unfold returnNow
  rw [spendReturn_reached h hv]
  refine if_congr ?_ rfl rfl
  rw [due]
  exact ⟨fun k => ⟨k.2.1, k.2.2, k.1⟩, fun k => ⟨k.2.2, k.1, k.2.1⟩⟩

theorem State.le_takenAt {v : Sample} (h : v ≤ s.time.S) : v ≤ s.takenAt v := by
  unfold takenAt
  split
  · exact Nat.le_refl v
  · exact h

/-! ## SELECT (R155) -/

theorem State.findsReturn_iff :
    s.findsReturn = true ↔ s.vin.selection.returnTime ≠ none ∧ s.vin.inputA.lockStart ≠ none := by
  unfold findsReturn
  rw [Bool.and_eq_true, Option.isSome_iff_ne_none, Option.isSome_iff_ne_none]

/-- R155: the selection record after a SELECT that finds no return time again. -/
def State.selectKept (s : State) (m : SelectionMode) (hold : Nat) : State :=
  { s with vin := { s.vin with selection := { s.vin.selection with mode := m, hold := hold } } }

/-- R155: A's return time found again from A's lock start. -/
def State.backFrom (s : State) (hold : Nat) : Option Sample := s.vin.inputA.lockStart.map (· + 48000 * hold)

/-- R155: the state after a SELECT that finds A's return time again. -/
def State.selectFound (s : State) (m : SelectionMode) (hold : Nat) : State :=
  (s.selectKept m hold).returning (s.backFrom hold) (decide (∃ v ∈ s.backFrom hold, v ≤ s.time.S))

theorem State.setHold_eq (hold : Nat) :
    s.setHold hold =
      if s.findsReturn = true then
        (s.selectKept s.vin.selection.mode hold).returning (s.backFrom hold) false
      else s.selectKept s.vin.selection.mode hold := rfl

theorem State.setHold_mode (hold : Nat) : (s.setHold hold).vin.selection.mode = s.vin.selection.mode := by
  rw [setHold_eq]
  split <;> rfl

/-- R155: a SELECT of the mode that stands. -/
theorem State.select_same {m : SelectionMode} (h : m = s.vin.selection.mode) (hold : Nat) :
    s.select m hold =
      if s.findsReturn = true then
        if s.vin.selection.mode = .auto ∧ s.vin.selection.chosen ≠ some .a ∧
            decide (∃ v ∈ s.backFrom hold, v ≤ s.time.S) = true then (s.selectFound m hold).returnToA
        else s.selectFound m hold
      else s.selectKept m hold := by
  subst h
  unfold select
  dsimp only
  rw [setHold_mode, if_pos rfl, setHold_eq]
  by_cases hf : s.findsReturn = true
  · simp only [hf, if_true]
    by_cases auto : s.vin.selection.mode = .auto
    · rw [returnNow_returning (s := s.selectKept s.vin.selection.mode hold) _ auto]
      simp only [auto, true_and]
      rfl
    · have idle : ((s.selectKept s.vin.selection.mode hold).returning (s.backFrom hold) false).returnNow =
          ((s.selectKept s.vin.selection.mode hold).returning (s.backFrom hold) false).spendReturn :=
        if_neg fun k => auto k.2.1
      rw [idle, returning_spendReturn, if_neg fun k => auto k.1]
      rfl
  · simp only [hf]
    rfl

/-- R155: a SELECT of a new mode. -/
theorem State.select_new {m : SelectionMode} (h : m ≠ s.vin.selection.mode) (hold : Nat) :
    s.select m hold =
      (let t := if s.findsReturn = true ∨ (m = .auto ∧ s.vin.inputA.lock = .locked) then s.selectFound m hold
        else s.selectKept m hold
       t.choose (s.chosenFor m)) := by
  unfold select
  dsimp only
  rw [setHold_mode, if_neg h, setHold_eq]
  have locked (t : State) (ht : t.vin.inputA = s.vin.inputA) :
      (m = .auto ∧ t.isLocked .a = true) ↔ (m = .auto ∧ s.vin.inputA.lock = .locked) := by
    unfold isLocked State.input
    rw [decide_eq_true_eq]
    dsimp only
    rw [ht]
  by_cases hf : s.findsReturn = true
  · rw [if_pos hf, if_pos hf, if_pos (.inl hf), returning_spendReturn]
    unfold enterMode
    dsimp only
    split
    · rw [setReturnTime_eq, returning_spendReturn]
      rfl
    · rfl
  · rw [if_neg hf, if_neg hf]
    unfold enterMode
    dsimp only
    by_cases hl : m = .auto ∧ s.vin.inputA.lock = .locked
    · rw [if_pos ((locked (s.selectKept s.vin.selection.mode hold) rfl).mpr hl), if_pos (.inr hl), setReturnTime_eq, returning_spendReturn]
      rfl
    · rw [if_neg (mt (locked (s.selectKept s.vin.selection.mode hold) rfl).mp hl), if_neg (not_or.mpr ⟨hf, hl⟩)]
      rfl

theorem SelectionMode.ofCode_above {n : Nat} (h : 2 < n) : SelectionMode.ofCode n = none := by
  obtain ⟨k, rfl⟩ : ∃ k, n = k + 3 := ⟨n - 3, by omega⟩
  rfl

theorem SelectionMode.ofCode_listed {n : Nat} {m : SelectionMode}
    (h : (n, m) ∈ [(0, SelectionMode.auto), (1, .forceA), (2, .forceB)]) : SelectionMode.ofCode n = some m := by
  simp only [List.mem_cons, Prod.mk.injEq, List.not_mem_nil, or_false] at h
  rcases h with ⟨rfl, rfl⟩ | ⟨rfl, rfl⟩ | ⟨rfl, rfl⟩ <;> rfl

section
variable {mode hold : Nat} {m : SelectionMode}

theorem actSelect_bad (h : 2 < mode) : actSelect mode hold s = refuse s .badValue := by
  unfold actSelect
  rw [SelectionMode.ofCode_above h]

theorem State.taken_select (s : State) (m : SelectionMode) (hold : Nat) :
    s.taken.selectKept m hold =
      { s.taken with vin := { s.vin with selection := { s.vin.selection with mode := m, hold := hold } } } := by
  unfold selectKept
  rw [s.taken_vin]

theorem State.taken_selectFound (s : State) (m : SelectionMode) (hold : Nat) :
    s.taken.selectFound m hold =
      { s.taken with
        vin :=
          { s.vin with
            selection := { s.vin.selection with mode := m, hold := hold, returnTime := s.backFrom hold }
            returnReached := none, returnSpent := decide (∃ v ∈ s.backFrom hold, v ≤ s.time.S) } } := by
  unfold selectFound backFrom
  rw [taken_select, s.taken_vin, s.taken_time]
  rfl

theorem State.taken_finds (s : State) :
    s.taken.findsReturn = true ↔ s.vin.selection.returnTime ≠ none ∧ s.vin.inputA.lockStart ≠ none := by
  rw [findsReturn_iff, s.taken_vin]

theorem State.returnToA_at {t : State} {c : Option Input} {x : Sample} (hc : t.vin.selection.chosen = c)
    (hx : t.time.S = x) :
    t.returnToA =
      (let u := t.choose (some .a)
       if c = none then { u with vin := { u.vin with returnReached := some x } } else u) := by
  subst hc hx
  rfl

/-- R155: a SELECT taken. -/
theorem exec_select {t : State} (hadm : s.admits tag) (hm : SelectionMode.ofCode mode = some m)
    (ht : s.taken.select m (min 60 hold) = t) :
    exec (.select tag mode hold) s =
      .next (t.refreshOutputs.replied 0x42 tag (.ok (decide (60 < hold)) (.selection t.vin.selection))) := by
  have act : actSelect mode hold s.taken =
      (t.refreshOutputs, .ok (decide (60 < hold)) (.selection t.vin.selection)) := by
    unfold actSelect
    rw [hm]
    dsimp only
    rw [ht, State.refreshOutputs_vin]
  exact exec_request_replied (i := .select tag mode hold) rfl rfl hadm act nofun

end

/-! ## INPUT_SET (R153) -/

/-- From `s` to `t` the selection, what is kept of A's return time, and the port alone may differ. -/
def State.Chose (s t : State) : Prop :=
  ∃ x r b q, t = { s with vin := { s.vin with selection := x, returnReached := r, returnSpent := b }, port := q }

namespace State.Chose

variable {t u : State} {i : Input}

theorem refl (s : State) : s.Chose s := ⟨s.vin.selection, s.vin.returnReached, s.vin.returnSpent, s.port, rfl⟩

theorem trans (h : s.Chose t) (k : t.Chose u) : s.Chose u := by
  obtain ⟨x, r, b, q, rfl⟩ := h
  obtain ⟨x', r', b', q', rfl⟩ := k
  exact ⟨x', r', b', q', rfl⟩

theorem choose (s : State) (c : Option Input) : s.Chose (s.choose c) := by
  by_cases h : c = s.vin.selection.chosen
  · rw [h, State.choose_same]
    exact refl s
  · rw [State.choose_eq h]
    exact ⟨_, s.vin.returnReached, s.vin.returnSpent, _, rfl⟩

theorem takeEffect (s : State) (i : Input) : s.Chose (s.takeEffect i) := by
  by_cases h : s.vin.selection.pendingChange = some i
  · rw [State.takeEffect_eq h]
    exact ⟨_, s.vin.returnReached, s.vin.returnSpent, _, rfl⟩
  · rw [State.takeEffect_none h]
    exact refl s

theorem setReturn (s : State) (i : Input) (locks : Bool) : s.Chose (s.setReturn i locks) := by
  rw [State.setReturn_eq]
  split
  · exact ⟨_, _, _, s.port, rfl⟩
  · exact refl s

theorem spendReturn (s : State) : s.Chose s.spendReturn :=
  ⟨s.vin.selection, s.vin.returnReached, _, s.port, rfl⟩

theorem returnToA (s : State) : s.Chose s.returnToA := by
  rw [State.returnToA_eq]
  dsimp only
  split
  · exact (choose s _).trans ⟨_, _, _, _, rfl⟩
  · exact choose s _

theorem returnNow (s : State) : s.Chose s.returnNow := by
  unfold State.returnNow
  dsimp only
  split
  · exact (spendReturn s).trans (returnToA _)
  · exact spendReturn s

theorem lockGained (s : State) (i : Input) : s.Chose (s.lockGained i) := by
  unfold State.lockGained
  split
  · cases i with
    | a => exact returnNow s
    | b =>
      dsimp only
      split
      · exact choose s _
      · exact refl s
  · exact refl s

theorem lockLost (s : State) (i : Input) : s.Chose (s.lockLost i) := by
  rw [State.lockLost_eq]
  split
  · exact choose s _
  · exact refl s

theorem lockChanged (s : State) (i : Input) (before : LockState) : s.Chose (s.lockChanged i before) := by
  have noticed : s.Chose (s.lockNotice i before) := ⟨s.vin.selection, s.vin.returnReached, s.vin.returnSpent, _, rfl⟩
  unfold State.lockChanged
  dsimp only
  split
  · exact refl s
  · split
    · exact (noticed.trans (setReturn _ _ _)).trans (lockGained _ _)
    · split
      · exact ((noticed.trans (setReturn _ _ _)).trans (lockLost _ _)).trans (takeEffect _ _)
      · exact noticed

theorem time (h : s.Chose t) : t.time = s.time := by
  obtain ⟨x, r, b, q, rfl⟩ := h
  rfl

theorem format (h : s.Chose t) : t.format = s.format := by
  obtain ⟨x, r, b, q, rfl⟩ := h
  rfl

end State.Chose

/-- R153: the missing watch of entry `e` set from the last frame start. -/
def State.watched (s : State) (q : InputRecord) (e : EntryNo) : InputRecord :=
  { q with
    missEnd :=
      match q.lastFrame, s.format e with
      | some f, some g => some (f + (2 * g.period * 48 + 999) / 1000)
      | _, _ => none }

theorem State.rewatch_eq {q : InputRecord} {e : EntryNo} (h : q.mode = .forced e) : s.rewatch q = s.watched q e := by
  unfold rewatch watched
  rw [watchSpan_forced h]
  unfold spanOf
  cases q.lastFrame with
  | none => rfl
  | some x => cases h : s.format e <;> simp [h]

/-- R153: the record of an input after a WRITE of mode `m`, counts `l` and `u`. -/
def State.inputWritten (s : State) (m : InputMode) (l u : Nat) (r : InputRecord) : InputRecord :=
  let q : InputRecord := { r with mode := m, lockCount := l, unlockCount := u }
  match r.mode, m with
  | .autoDetect, .autoDetect => q
  | .autoDetect, .forced f =>
    if r.lastFrame = none then q
    else
      s.watched
        { q with
          lock := .locked, matched := some f
          lockStart := if r.lock = .locked then r.lockStart else some s.time.S } f
  | .forced _, .forced f => if r.lock = .locked then s.watched { q with matched := some f } f else q
  | .forced _, .autoDetect =>
    if r.lock = .noSignal then q
    else
      { q with
        lock := .searching, matched := none, matchCount := 0, missCount := 0, missEnd := none
        lockStart := none }

theorem State.changeMode_eq {m : InputMode} {l u : Nat} {r : InputRecord} :
    s.changeMode r.mode { r with mode := m, lockCount := l, unlockCount := u } = s.inputWritten m l u r := by
  unfold changeMode inputWritten
  dsimp only
  cases r.mode <;> cases m
  case autoDetect.autoDetect => rfl
  case forced.autoDetect => rfl
  case autoDetect.forced f =>
    dsimp only
    cases r.lastFrame with
    | none => rfl
    | some x => exact (if_pos rfl).trans ((rewatch_eq rfl).trans (if_neg nofun).symm)
  case forced.forced e f => exact if_congr Iff.rfl (rewatch_eq rfl) rfl

theorem State.setInputMode_eq (m : InputMode) (l u : Nat) (i : Input) :
    State.setInputMode m l u s i =
      (s.setInput i (s.inputWritten m l u (s.input i))).lockChanged i (s.input i).lock := by
  unfold setInputMode mapInput
  dsimp only
  rw [changeMode_eq]

theorem State.Chose.inputWritten {t : State} (h : s.Chose t) (m : InputMode) (l u : Nat) (r : InputRecord) :
    t.inputWritten m l u r = s.inputWritten m l u r := by
  unfold State.inputWritten State.watched
  rw [h.time, h.format]

section
variable {address mode entry lock unlock : Nat} {m : InputMode}

theorem addressOf_above (h : 2 < address) : addressOf address = none := by
  obtain ⟨k, rfl⟩ : ∃ k, address = k + 3 := ⟨address - 3, by omega⟩
  rfl

theorem State.taken_input (s : State) (i : Input) : s.taken.input i = s.input i := by
  cases i <;> simp only [input, s.taken_vin]

theorem actInputSetRead_bad (h : 2 < address) : actInputSetRead address s = refuse s .badValue := by
  unfold actInputSetRead
  rw [addressOf_above h]

theorem exec_inputSetRead {is : List Input} (hadm : s.admits tag) (h : addressOf address = some is) :
    exec (.inputSetRead tag address) s =
      .next (s.taken.replied 0x40 tag (.ok false (.input (s.input (is.headD .a))))) := by
  have act : actInputSetRead address s.taken = (s.taken, .ok false (.input (s.input (is.headD .a)))) := by
    unfold actInputSetRead State.inputReply
    rw [h, ← s.taken_input]
  exact exec_request_replied (i := .inputSetRead tag address) rfl rfl hadm act nofun

/-- R153: the entry a WRITE of a forced mode names holds a format. -/
def State.NamesFormat (s : State) (entry : Nat) : Prop := ∃ e : EntryNo, e.val = entry ∧ s.format e ≠ none

theorem State.readInputMode_bad (h : 1 < mode ∨ (mode = 1 ∧ ¬ s.NamesFormat entry)) :
    s.readInputMode mode entry = none := by
  rcases h with h | ⟨rfl, h⟩
  · obtain ⟨k, rfl⟩ : ∃ k, mode = k + 2 := ⟨mode - 2, by omega⟩
    rfl
  · show (match entryNo entry with
      | some e => if (s.format e).isSome then some (InputMode.forced e) else none
      | none => none) = none
    cases he : entryNo entry with
    | none => rfl
    | some e =>
      refine if_neg fun k => h ⟨e, ?_, Option.isSome_iff_ne_none.mp k⟩
      unfold entryNo at he
      split at he
      · rw [← Option.some.inj he]
      · cases he

theorem State.readInputMode_some
    (h : (mode = 0 ∧ m = .autoDetect) ∨
      (mode = 1 ∧ s.NamesFormat entry ∧ ∃ e : EntryNo, e.val = entry ∧ m = .forced e)) :
    s.readInputMode mode entry = some m := by
  rcases h with ⟨rfl, rfl⟩ | ⟨rfl, ⟨e', he', hf⟩, e, rfl, rfl⟩
  · rfl
  · rw [Fin.ext he'] at hf
    unfold readInputMode
    rw [entryNo_val]
    exact if_pos (Option.isSome_iff_ne_none.mpr hf)

theorem actInputSetWrite_bad (h : addressOf address = none ∨ s.readInputMode mode entry = none) :
    actInputSetWrite address mode entry lock unlock s = refuse s .badValue := by
  unfold actInputSetWrite
  split
  next ha hm =>
    rcases h with h | h
    · exact absurd (ha.symm.trans h) nofun
    · exact absurd (hm.symm.trans h) nofun
  next => rfl

/-- R153: a WRITE taken on the addressed inputs. -/
theorem exec_inputSetWrite {is : List Input} {t : State} (hadm : s.admits tag) (ha : addressOf address = some is)
    (hm : s.taken.readInputMode mode entry = some m)
    (ht : is.foldl (State.setInputMode m (min 31 (max 1 lock)) (min 7 (max 1 unlock))) s.taken = t) :
    exec (.inputSetWrite tag address mode entry lock unlock) s =
      .next (t.refreshOutputs.replied 0x40 tag
        (.ok (decide (min 31 (max 1 lock) ≠ lock) || decide (min 7 (max 1 unlock) ≠ unlock))
          (.input (t.input (is.headD .a))))) := by
  have input : t.refreshOutputs.input (is.headD .a) = t.input (is.headD .a) := by
    cases is.headD .a <;> simp only [State.input, State.refreshOutputs_vin]
  have act : actInputSetWrite address mode entry lock unlock s.taken =
      (t.refreshOutputs, .ok (decide (min 31 (max 1 lock) ≠ lock) || decide (min 7 (max 1 unlock) ≠ unlock))
        (.input (t.input (is.headD .a)))) := by
    unfold actInputSetWrite
    rw [ha, hm, ← input, ← ht]
    rfl
  exact exec_request_replied (i := .inputSetWrite tag address mode entry lock unlock) rfl rfl hadm act nofun

theorem State.taken_readInputMode (s : State) (mode entry : Nat) :
    s.taken.readInputMode mode entry = s.readInputMode mode entry := by
  unfold readInputMode
  simp only [s.taken_format]

theorem State.taken_inputWritten (s : State) (m : InputMode) (l u : Nat) (r : InputRecord) :
    s.taken.inputWritten m l u r = s.inputWritten m l u r := by
  unfold inputWritten watched
  simp only [s.taken_format, s.taken_time]

end

/-- Settles O47: RETURN_TIME by `returnNow_reached`, SELECT by whether the mode stands, INPUT_SET by what the WRITE
reads, on one input or on A before B. -/
theorem selectionAndInputSettings : Obligations.SelectionAndInputSettings := by
  intro s
  refine ⟨fun v hv le => ?_, fun tag hadm => ⟨fun mode hold => ⟨fun bad => ?_, fun m hm same => ?_, fun hm hne => ?_,
    fun hm hne => ?_, fun hm hne => ?_⟩, ?_, ?_, ?_, fun address h => ?_,
    fun address mode entry lock unlock => ⟨fun bad => ?_, fun m hm => ⟨fun ha => ?_, fun ha => ?_, fun ha => ?_⟩⟩⟩⟩
  · refine (command_at (act := fun s => s.whenReached s.vin.selection.returnTime fun x => x.returnNow.refreshOutputs)
      (congrArg (fun v => s.quiet.whenReached v _) hv) le).trans ?_
    have now := State.returnNow_reached (s := s.quiet.atS (s.takenAt v)) hv (State.le_takenAt le)
    refine (congrArg (fun t : State => Host.Outcome.next (t.refreshOutputs.atS s.time.S).done) now).trans ?_
    by_cases h : s.vin.selection.mode = .auto ∧ s.vin.selection.chosen ≠ some .a ∧ s.vin.returnSpent = false
    · rw [if_pos h]
      exact congrArg (fun t : State => Host.Outcome.next (t.refreshOutputs.atS s.time.S).done) (if_pos h)
    · rw [if_neg h]
      refine (congrArg (fun t : State => Host.Outcome.next (t.refreshOutputs.atS s.time.S).done) (if_neg h)).trans ?_
      have back : ((s.quiet.returnTaken.atS (s.takenAt v)).refreshOutputs.atS s.time.S) =
          s.quiet.returnTaken.refreshOutputs := by
        rw [State.refreshOutputs_atS]
        exact State.atS_same (s := s.quiet.returnTaken) (State.refreshOutputs_time _)
      exact congrArg (fun t : State => Host.Outcome.next t.done) back
  · exact exec_refused (i := .select tag mode hold) rfl rfl hadm (actSelect_bad bad)
  · refine exec_select hadm (SelectionMode.ofCode_listed hm) ?_
    have mode : m = s.taken.vin.selection.mode := by
      rw [s.taken_vin]
      exact same
    refine (State.select_same mode _).trans (if_congr s.taken_finds (if_congr ?_ ?_ ?_) ?_)
    · unfold State.backFrom
      rw [s.taken_vin, s.taken_time]
    · rw [s.taken_selectFound]
      exact State.returnToA_at rfl (congrArg Timebase.S s.taken_time)
    · exact s.taken_selectFound m _
    · exact s.taken_select m _
  · subst hm
    refine exec_select hadm (m := .auto) rfl ?_
    refine (State.select_new ?_ _).trans ?_
    · rw [s.taken_vin]
      exact hne.symm
    refine congr (congrArg State.choose (if_congr ?_ (s.taken_selectFound _ _) (s.taken_select _ _))) (if_congr ?_ rfl rfl)
    · rw [s.taken_finds, s.taken_vin, eq_self, true_and]
    · unfold State.isLocked State.input
      simp only [s.taken_vin, Bool.or_eq_true, decide_eq_true_eq, Bool.not_eq_true', decide_eq_false_iff_not]
  · subst hm
    refine exec_select hadm (m := .forceA) rfl ((State.select_new ?_ _).trans ?_)
    · rw [s.taken_vin]
      exact hne.symm
    refine congr (congrArg State.choose (if_congr ?_ (s.taken_selectFound _ _) (s.taken_select _ _))) rfl
    rw [s.taken_finds, or_iff_left nofun]
  · subst hm
    refine exec_select hadm (m := .forceB) rfl ((State.select_new ?_ _).trans ?_)
    · rw [s.taken_vin]
      exact hne.symm
    refine congr (congrArg State.choose (if_congr ?_ (s.taken_selectFound _ _) (s.taken_select _ _))) rfl
    rw [s.taken_finds, or_iff_left nofun]
  · exact exec_inputSetRead hadm (is := [.a]) rfl
  · exact exec_inputSetRead hadm (is := [.b]) rfl
  · exact exec_inputSetRead hadm (is := [.a, .b]) rfl
  · exact exec_refused (i := .inputSetRead tag address) rfl rfl hadm (actInputSetRead_bad h)
  · refine exec_refused (i := .inputSetWrite tag address mode entry lock unlock) rfl rfl hadm (actInputSetWrite_bad ?_)
    rw [s.taken_readInputMode]
    exact bad.imp addressOf_above State.readInputMode_bad
  · subst ha
    refine exec_inputSetWrite (is := [.a]) hadm rfl ((s.taken_readInputMode mode entry).trans (State.readInputMode_some hm)) ?_
    simp only [List.foldl_cons, List.foldl_nil, State.setInputMode_eq, s.taken_inputWritten]
    rfl
  · subst ha
    refine exec_inputSetWrite (is := [.b]) hadm rfl ((s.taken_readInputMode mode entry).trans (State.readInputMode_some hm)) ?_
    simp only [List.foldl_cons, List.foldl_nil, State.setInputMode_eq, s.taken_inputWritten]
    rfl
  · subst ha
    refine exec_inputSetWrite (is := [.a, .b]) hadm rfl ((s.taken_readInputMode mode entry).trans (State.readInputMode_some hm)) ?_
    have second (r : InputRecord) : ((s.taken.setInput .a r).lockChanged .a (s.taken.input .a).lock).inputWritten m
        (min 31 (max 1 lock)) (min 7 (max 1 unlock)) = s.inputWritten m (min 31 (max 1 lock)) (min 7 (max 1 unlock)) :=
      funext fun q => ((State.Chose.lockChanged _ _ _).inputWritten m _ _ q).trans (s.taken_inputWritten m _ _ q)
    simp only [List.foldl_cons, List.foldl_nil, State.setInputMode_eq, s.taken_inputWritten, second]
    rfl

end Sys2Proof.Machine
end

section
/-! PROOFS. The path of every request, and the Control Port's own requests (O51, O52). -/

namespace Sys2Proof.Machine

variable {s : State}

/-! ## A valid frame (R80, R82, R169, R170) -/

section
variable {kind tag : Nat} {judge : State → State × Answer}

/-- R170: a valid frame with a place free is judged, and its reply holds the place. -/
theorem frame_judged (hr : s.port.restarting = false) (hp : s.port.placesHeld < 4) :
    command (takeFrame kind tag judge) s = .next ((judge s.taken).1.answer kind tag (judge s.taken).2 true).done := by
  rcases takeFrame_cases kind tag judge s.quiet with ⟨k, -⟩ | ⟨-, k, -⟩ | ⟨-, -, k⟩
  · exact absurd (hr.symm.trans k) nofun
  · exact absurd hp (Nat.not_lt.mpr k)
  · rw [command_eq, k]
    rfl

theorem frame_refused {r : Reason} (hr : s.port.restarting = false) (hp : s.port.placesHeld < 4)
    (h : judge s.taken = refuse s.taken r) :
    command (takeFrame kind tag judge) s = .next (s.refusedWith kind tag r) := by
  rw [frame_judged hr hp, h]
  exact congrArg Host.Outcome.next (State.answer_done s.taken kind tag (.refused r .none_) nofun)

end

theorem ControlPort.reject_eq (p : ControlPort) (reason : Reason) (tag : Nat) :
    p.reject reason tag =
      { p with rejects := if p.rejects.length < 4 then p.rejects ++ [⟨reason, tag⟩] else p.rejects } := by
  unfold reject
  exact apply_ite (fun r => { p with rejects := r }) (p.rejects.length < 4) _ _ |>.symm

/-- R80: the host-silence timer of a valid frame. -/
theorem State.taken_remote (h : s.cue.mode = .remote) :
    s.taken = { s.quiet with ctl := s.restartSilence.ctl } := by
  have mode : s.quiet.restartSilence.cue.mode = .remote := h
  unfold taken validFrame returnToRemote
  rw [mode]
  rfl

/-- R82: LOCAL returned to REMOTE by a valid frame. -/
theorem State.taken_local {x : Sample} {gos : Nat} (h : s.cue.mode = .local_)
    (e : s.cue.localEntry = some ⟨x, gos⟩) :
    s.taken =
      { s.quiet with
        ctl := s.restartSilence.ctl
        cue := { s.cue with mode := .remote, localEntry := none }
        port := s.port.offer (.controlMode .remote x (some (s.time.S, gos))) } := by
  have mode : s.quiet.restartSilence.cue.mode = .local_ := h
  have entry : s.quiet.restartSilence.cue.localEntry = some ⟨x, gos⟩ := e
  unfold taken validFrame returnToRemote
  rw [mode]
  dsimp only
  rw [entry]
  rfl

/-- Settles O51: a request is `serve` of its owner, by the place free, the tag, the length and the owner's answer. -/
theorem requestsTaken : Obligations.RequestsTaken := by
  refine ⟨fun i r hi s => ?_, fun s => ⟨State.taken_remote, fun x gos => State.taken_local⟩⟩
  rw [exec_request i s r hi]
  refine ⟨serve_restarting _ _ _ _ _, fun hr => ⟨fun held => ?_, fun free zero => ?_, fun free tag wrong => ?_,
    fun free tag right t a judged => ?_⟩⟩
  · rw [serve_busy _ _ _ _ _ hr held, ControlPort.reject_eq, show s.taken.port.rejects = s.port.rejects from
      s.quiet.validFrame_port.2.1]
  · rw [← zero]
    exact frame_refused hr free (if_pos zero)
  · rw [wrong]
    exact serve_badLength _ _ _ _ ⟨hr, free, tag⟩
  · rw [right, serve_admitted _ _ _ _ ⟨hr, free, tag⟩, judged]
    split
    next deferred => rw [deferred]; rfl
    next answered => rw [State.answer_done _ _ _ _ answered]

/-! ## NOTICE_MASK (R173) -/

/-- R82: the port of a valid frame: the same but for a notice. -/
theorem State.taken_port (s : State) : s.taken.port = s.port ∨ ∃ x, s.taken.port = s.port.offer x := by
  unfold taken validFrame returnToRemote
  split
  · exact .inl rfl
  · exact .inr ⟨_, rfl⟩

theorem State.taken_port_kept (s : State) :
    s.taken.port.mask = s.port.mask ∧ s.taken.port.lastReset = s.port.lastReset ∧
      s.taken.port.lineRate = s.port.lineRate := by
  rcases s.taken_port with h | ⟨x, h⟩ <;> rw [h]
  · exact ⟨rfl, rfl, rfl⟩
  · exact s.port.offer_kept x

theorem mask_eq {wide : BitVec 16} {mask : BitVec 13} (h : ∀ k, k < 13 → mask.getLsbD k = wide.getLsbD k) :
    wide.extractLsb' 0 13 = mask := by
  refine BitVec.eq_of_getLsbD_eq fun k hk => ?_
  rw [h k hk, BitVec.getLsbD_extractLsb', decide_eq_true hk, Bool.true_and, Nat.zero_add]

/-- R173: the mask in two bytes, the enable of kind 0xC0 + k in bit k. -/
theorem maskBytes (mask : BitVec 13) :
    ∃ high low : Byte, bytesOf 2 mask.toNat = [high, low] ∧
      ∀ k, k < 8 → low.getLsbD k = mask.getLsbD k ∧ high.getLsbD k = mask.getLsbD (k + 8) := by
  have byte (v k : Nat) (hk : k < 8) : (BitVec.ofNat 8 v).getLsbD k = v.testBit k := by
    rw [BitVec.getLsbD_ofNat, decide_eq_true hk, Bool.true_and]
  refine ⟨_, _, rfl, fun k hk => ⟨(byte _ k hk).trans ?_, (byte _ k hk).trans ?_⟩⟩
  · exact congrArg (Nat.testBit · k) (Nat.div_one _)
  · have shifted : mask.toNat / 256 = mask.toNat >>> 8 := (Nat.shiftRight_eq_div_pow _ 8).symm
    exact (congrArg (Nat.testBit · k) shifted).trans (by rw [Nat.testBit_shiftRight, Nat.add_comm]; rfl)

/-! ## STATUS (R174) -/

theorem State.countUp_eq (s : State) (p : Link → Bool) :
    s.countUp p = allStations.countP fun n => decide ((s.ch n).link.state = .up) && p (s.ch n).link :=
  List.countP_eq_length_filter.symm

/-- R174: the record of STATUS, judged once its frame has been taken. -/
theorem State.taken_statusRecord (s : State) :
    s.taken.statusRecord =
      { S := s.time.S, lastReset := s.port.lastReset, showState := s.ctl.state, mode := .remote
        clockState := s.time.clockState, edit := s.cue.edit, serial := s.cue.serial, standby := s.cue.standby
        running := s.cue.running.map RunningCue.number, lost := s.taken.port.lost
        noticesQueued := s.taken.port.notices.length, placesFree := 3 - s.port.placesHeld
        lineRate := s.port.lineRate, linksUp := s.countUp fun _ => true
        linksReduced := s.countUp fun l => decide (l.rate = .reduced), inEffect := s.vin.selection.inEffect
        stopRecord := s.ctl.stopRecord.isSome } := by
  have counts : s.taken.countUp = s.countUp := funext fun p => by simp only [countUp, s.taken_ch]
  have free : Config.requestPlaces - (s.taken.port.placesHeld + 1) = 3 - s.port.placesHeld := by
    rw [show s.taken.port.placesHeld = s.port.placesHeld from s.quiet.validFrame_port.2.2.2]
    exact Nat.add_sub_add_right 3 1 _
  obtain ⟨-, reset, rate⟩ := s.taken_port_kept
  have cue := s.taken_cue
  have mode : s.taken.cue.mode = .remote := by rw [cue]
  have running : s.taken.cue.running = s.cue.running := by rw [cue]
  have record : s.taken.ctl.stopRecord = s.ctl.stopRecord := by
    rw [s.taken_ctl]
    rfl
  unfold statusRecord
  rw [counts, free, reset, rate, mode, running, record]
  simp only [s.taken_time, s.taken_ctl_state, s.taken_edit, s.taken_serial, s.taken_standby, s.taken_vin]

/-- Settles O52: each request judged by its owner; the STATUS record field by field. -/
theorem portRequests : Obligations.PortRequests := by
  intro s tag hadm up
  refine ⟨?_, fun wide mask h => ?_, fun mask place => maskBytes mask, ?_, ?_⟩
  · have act : actNoticeMaskRead s.taken = (s.taken, .ok false (.noticeMask s.port.mask)) := by
      rw [← s.taken_port_kept.1]
      rfl
    exact exec_request_replied (i := .noticeMaskRead tag) rfl rfl hadm act nofun
  · rw [← mask_eq h]
    exact exec_request_replied (i := .noticeMaskWrite tag wide) rfl rfl hadm rfl nofun
  · have act : actStatus s.taken =
        ({ s.taken with port := { s.taken.port with lost := false } }, .ok false (.status s.taken.statusRecord)) := rfl
    rw [s.taken_statusRecord, s.countUp_eq, s.countUp_eq] at act
    simp only [Bool.and_true] at act
    refine (exec_request_replied (i := .status tag) rfl rfl hadm act nofun).trans ?_
    simp only [up, Bool.and_true]
  · exact exec_request_replied (i := .restart tag) rfl rfl hadm rfl nofun

end Sys2Proof.Machine
end

section
/-! PROOFS. The transmitter, the lengths of frames, and RESTART (O53). -/

namespace Sys2Proof.Machine

variable {s : State}

/-! ## What a free transmitter takes (R172) -/

namespace ControlPort

variable {p : ControlPort}

theorem arbitrate_busy (h : p.sending ≠ none) : p.arbitrate = p := by
  obtain ⟨f, hf⟩ := Option.ne_none_iff_exists'.mp h
  unfold arbitrate
  rw [hf]

theorem arbitrate_reject {r : Reject} {rs : List Reject} (h : p.sending = none) (hr : p.rejects = r :: rs) :
    p.arbitrate = { p with sending := some (.reject r), rejects := rs } := by
  unfold arbitrate
  rw [h, hr]

theorem arbitrate_free (h : p.sending = none) (hr : p.rejects = []) :
    p.arbitrate =
      if p.replies ≠ [] then { p with sending := some .reply }
      else if p.notices ≠ [] ∧ p.restarting = false then { p with sending := some .notice }
      else p := by
  unfold arbitrate
  rw [h, hr]

theorem afterReset_arbitrate (rate : Fin 4) (kind : ResetKind) :
    (afterReset rate kind).arbitrate = afterReset rate kind :=
  arbitrate_free rfl rfl

end ControlPort

/-! ## The lengths of frames (Tables 10.6 to 10.8) -/

theorem bytesOf_length (n v : Nat) : (bytesOf n v).length = n := by
  induction n generalizing v with
  | zero => rfl
  | succ n ih => exact congrArg (· + 1) (ih v)

theorem frameBytes_length (kind tag : Nat) (payload : List Byte) :
    (frameBytes kind tag payload).length = payload.length + 6 := by
  simp only [frameBytes, checkBytes, List.length_append, List.length_cons, List.length_nil, bytesOf_length]
  omega

theorem Reply.bytes_length_ok {k tag : Nat} {c place : Bool} {b : ReplyBody} :
    (Reply.mk k tag (.ok c b) place).bytes.length = (Reply.mk k tag (.ok c b) place).contents.length + 8 := by
  simp only [Reply.bytes, frameBytes_length, List.length_append, bytesOf_length]
  omega

theorem StatusRecord.bytes_length (r : StatusRecord) : r.bytes.length = 27 := by
  simp only [StatusRecord.bytes, List.length_append, bytesOf_length]

/-! ## The last byte of a frame (R172, R175) -/

theorem exec_frameSent {t : State} (h : actFrameSent s.quiet = t) : exec .frameSent s = .next t.done :=
  congrArg (fun t : State => Host.Outcome.next t.done) h

theorem Reply.restarts_iff (r : Reply) : r.restarts = true ↔ r.kind = 0x03 ∧ ∃ c b, r.answer = .ok c b := by
  obtain ⟨kind, tag, answer, place⟩ := r
  cases answer <;> simp [restarts]

theorem actFrameSent_reply {r : Reply} {rs : List Reply} (h : s.port.sending = some .reply)
    (hr : s.port.replies = r :: rs) :
    actFrameSent s =
      if r.restarts then ((s.emit (.serial (.reply r))).freeSent rs s.port.notices).restart
      else (s.emit (.serial (.reply r))).freeSent rs s.port.notices := by
  unfold actFrameSent
  dsimp only
  rw [h]
  dsimp only
  rw [hr]

/-! ## RESTART (R175) -/

theorem flatMap_if {α β : Type} (p : α → Prop) [DecidablePred p] (f : α → β) (l : List α) :
    (l.flatMap fun a => if p a then [f a] else []) = (l.filter fun a => decide (p a)).map f := by
  induction l with
  | nil => rfl
  | cons a l ih =>
    rw [List.flatMap_cons, ih, List.filter_cons]
    by_cases h : p a <;> simp [h]

/-- R123: what a station's SEEK after RESTART puts on its link. -/
def State.reseekFrames (n : Station) (s : State) : List Emission :=
  if (s.ch n).assigned.role ≠ .unused then [.link n s.time.S .seekBurst] else []

theorem reseek_emitted (n : Station) (s : State) :
    (State.reseek n s).emitted = s.emitted ++ State.reseekFrames n s := by
  rw [State.reseek_written, State.reseekFrames]
  by_cases h : (s.ch n).assigned.role = .unused
  · rw [if_pos h, if_neg (not_not.mpr h), List.append_nil]
  · rw [if_neg h, if_pos h]
    rfl

theorem reseekFrames_seen (n : Station) : Seen n (State.reseekFrames n) := fun s t h hc _ => by
  unfold State.reseekFrames
  rw [hc, h.time]

theorem State.restart_emitted (s : State) :
    s.restart.emitted =
      s.emitted ++
        (allStations.filter fun n => decide ((s.ch n).assigned.role ≠ .unused)).map fun n =>
          Emission.link n s.time.S .seekBurst := by
  rw [s.restart_eq, forAll_appends (out := State.emitted) (fun n => ActsOn.reseek) reseek_emitted reseekFrames_seen,
    ← flatMap_if]
  refine congrArg (s.emitted ++ ·) (List.flatMap_congr fun n _ => ?_)
  unfold reseekFrames
  rw [s.restarted_ch]
  rfl

/-- Settles O53: what the transmitter takes by the queues, the lengths by their parts, and the last byte by what is
being sent, with `restart` for the OK reply of a RESTART. -/
theorem framesSent : Obligations.FramesSent := by
  refine ⟨fun p => ⟨ControlPort.arbitrate_busy, fun h => ⟨fun r rs => ControlPort.arbitrate_reject h,
    fun hr hq => ?_, fun hr hq hn hs => ?_, fun hr hq hn => ?_⟩, fun x => ⟨fun hm => ?_, fun hm hn => ?_, fun hm hn => ?_⟩⟩,
    fun tag c place r cue slot point standby at_ x f m promoted => ⟨?_, ?_, ?_, ?_, ?_⟩,
    fun s => ⟨fun h => ?_, fun r h => ?_, fun r rs h hr hk => ?_, fun x xs h hx => ?_, fun r rs c b h hr hk ha => ?_⟩⟩
  · rw [ControlPort.arbitrate_free h hr, if_pos hq]
  · rw [ControlPort.arbitrate_free h hr, if_neg (not_not.mpr hq), if_pos ⟨hn, hs⟩]
  · refine (ControlPort.arbitrate_free h hr).trans ?_
    rw [if_neg (not_not.mpr hq), if_neg]
    rintro ⟨some, running⟩
    rcases hn with none | restarting
    · exact some none
    · exact absurd (running.symm.trans restarting) nofun
  · exact if_pos hm
  · exact (if_neg (ne_false_of_eq_true hm)).trans (if_pos hn)
  · exact (if_neg (ne_false_of_eq_true hm)).trans (if_neg (Nat.not_lt.mpr hn))
  · exact frameBytes_length ..
  · exact frameBytes_length ..
  · exact Reply.bytes_length_ok.trans (congrArg (· + 8) r.bytes_length)
  · refine Reply.bytes_length_ok.trans (congrArg (· + 8) ?_)
    simp only [Reply.contents, List.length_append, bytesOf_length]
  · refine (frameBytes_length ..).trans (congrArg (· + 6) ?_)
    simp only [Notice.payload, List.length_append, bytesOf_length]
  · refine exec_frameSent ?_
    unfold actFrameSent
    dsimp only
    rw [show s.quiet.port.sending = none from h]
  · refine exec_frameSent ?_
    unfold actFrameSent
    dsimp only
    rw [show s.quiet.port.sending = some (.reject r) from h]
    rfl
  · have stays : ¬ r.restarts = true := fun k => by
      obtain ⟨kind, c, b, answer⟩ := r.restarts_iff.mp k
      exact hk.elim (fun ne => ne kind) fun ne => ne c b answer
    exact exec_frameSent ((actFrameSent_reply (s := s.quiet) h hr).trans (if_neg stays))
  · refine exec_frameSent ?_
    unfold actFrameSent
    dsimp only
    rw [show s.quiet.port.sending = some .notice from h]
    dsimp only
    rw [show s.quiet.port.notices = x :: xs from hx]
    rfl
  · intro S search chosen
    have restarts : r.restarts = true := r.restarts_iff.mpr ⟨hk, c, b, ha⟩
    have sent := (actFrameSent_reply (s := s.quiet) h hr).trans (if_pos restarts)
    refine ⟨_, exec_frameSent sent, ?_⟩
    generalize hu : (s.quiet.emit (.serial (.reply r))).freeSent rs s.quiet.port.notices = u
    have frame := u.restart_frame
    have port := u.restart_port
    have patch := u.restart_patchOf
    have channel := u.restart_ch
    have emitted := u.restart_emitted
    generalize u.restart = v at frame port patch channel emitted ⊢
    subst hu
    have vin : v.done.vin = s.vin.restart := frame.vin
    refine ⟨frame.pending, frame.reports, frame.time, frame.click, frame.cue, patch, frame.ctl, channel, ?_⟩
    rw [vin]
    exact ⟨rfl, rfl, rfl, rfl, rfl, rfl, frame.vout,
      (congrArg ControlPort.arbitrate port).trans (ControlPort.afterReset_arbitrate _ _), emitted⟩

end Sys2Proof.Machine
end

section
/-! PROOFS. The frame assembler and the payloads of requests (O50). -/

namespace Sys2Proof.Machine

variable {s : State} {b : Byte} {stop : Bool}

/-! ## A byte, by the assembler's phase (R169, R175) -/

theorem exec_byte {q : ControlPort} (h : actByteReceived b stop s.quiet = { s.quiet with port := q }) :
    exec (.byteReceived b stop) s = .next { s.quiet with port := q }.done :=
  congrArg (fun t : State => Host.Outcome.next t.done) h

theorem actByteReceived_restarting (h : s.port.restarting = true) : actByteReceived b stop s = s := if_pos h

section
variable (running : s.port.restarting = false)
include running

theorem actByteReceived_hunt (h : s.port.phase = .hunt) :
    actByteReceived b stop s =
      { s with
        port :=
          if b = 0xA5#8 then
            { s.port with phase := .header, bytes := [], expected := 3, lastByteAt := some s.time.S }
          else s.port } := by
  refine (if_neg (ne_true_of_eq_false running)).trans ?_
  rw [h]
  dsimp only
  split
  next => rfl
  next => rfl

theorem actByteReceived_noStop (h : s.port.phase ≠ .hunt) :
    actByteReceived b false s = { s with port := s.port.abandon } := by
  refine (if_neg (ne_true_of_eq_false running)).trans ?_
  cases hp : s.port.phase with
  | hunt => exact absurd hp h
  | header => rfl
  | body => rfl
  | check => rfl

theorem actByteReceived_header (h : s.port.phase = .header) :
    actByteReceived b true s = { s with port := s.port.headerByte b s.time.S } := by
  refine (if_neg (ne_true_of_eq_false running)).trans ?_
  rw [h]
  rfl

theorem actByteReceived_body (h : s.port.phase = .body) :
    actByteReceived b true s = { s with port := s.port.bodyByte b s.time.S } := by
  refine (if_neg (ne_true_of_eq_false running)).trans ?_
  rw [h]
  rfl

theorem actByteReceived_check (h : s.port.phase = .check) :
    actByteReceived b true s =
      if 1 < s.port.expected then { s with port := s.port.take b s.time.S .check (s.port.expected - 1) }
      else s.completeFrame (s.port.bytes ++ [b]) := by
  refine (if_neg (ne_true_of_eq_false running)).trans ?_
  rw [h]
  rfl

end

namespace ControlPort

variable (p : ControlPort)

theorem abandon_eq :
    p.abandon =
      { p with
        phase := .hunt, bytes := [], expected := 0, lastByteAt := none
        rejects := if p.rejects.length < 4 then p.rejects ++ [⟨.badFrame, 0⟩] else p.rejects } :=
  p.hunt.reject_eq .badFrame 0

variable {p} {S : Sample}

theorem headerByte_length (h : p.expected = 3) :
    p.headerByte b S = if 250 < b.toNat then p.abandon else p.take b S .header 2 := by
  unfold headerByte
  rw [h]
  simp only [Config.payloadMax, true_and, Nat.one_lt_ofNat, if_true]

theorem headerByte_kind (h : p.expected = 2) : p.headerByte b S = p.take b S .header 1 := by
  unfold headerByte
  rw [h]
  rfl

theorem headerByte_tag {length : Byte} {rest : List Byte} (h : p.expected = 1) (hb : p.bytes = length :: rest) :
    p.headerByte b S =
      if length.toNat = 0 then p.take b S .check 2 else p.take b S .body length.toNat := by
  have payload : p.payloadLength = length.toNat := by
    unfold payloadLength
    rw [hb]
    rfl
  unfold headerByte
  rw [h, payload]
  rfl

theorem bodyByte_more {k : Nat} (h : p.expected = k + 2) : p.bodyByte b S = p.take b S .body (k + 1) := by
  unfold bodyByte
  rw [h]
  exact if_pos (Nat.le_add_left 2 k)

theorem bodyByte_last (h : p.expected = 1) : p.bodyByte b S = p.take b S .check 2 := by
  unfold bodyByte
  rw [h]
  rfl

end ControlPort

theorem exec_byte_header {q : ControlPort} (running : s.port.restarting = false) (h : s.port.phase = .header)
    (hq : s.port.headerByte b s.time.S = q) :
    exec (.byteReceived b true) s = .next { s.quiet with port := q }.done :=
  exec_byte ((actByteReceived_header (s := s.quiet) running h).trans (congrArg (fun q => { s.quiet with port := q }) hq))

theorem exec_byte_body {q : ControlPort} (running : s.port.restarting = false) (h : s.port.phase = .body)
    (hq : s.port.bodyByte b s.time.S = q) :
    exec (.byteReceived b true) s = .next { s.quiet with port := q }.done :=
  exec_byte ((actByteReceived_body (s := s.quiet) running h).trans (congrArg (fun q => { s.quiet with port := q }) hq))

theorem ControlPort.gapEnd_eq {p : ControlPort} {x : Sample} (h : p.phase ≠ .hunt) (hx : p.lastByteAt = some x) :
    p.gapEnd = some (x + 241) := by
  unfold gapEnd
  rw [hx]
  cases hp : p.phase with
  | hunt => exact absurd hp h
  | header => rfl
  | body => rfl
  | check => rfl

/-! ## A complete frame (R169, R170) -/

section
variable {length kind tag first : Byte} {payload : List Byte}

theorem State.completeFrame_eq :
    s.completeFrame (length :: kind :: tag :: payload ++ [first] ++ [b]) =
      if checkBytes (length :: kind :: tag :: payload) = [first, b] then
        takeFrame kind.toNat tag.toNat (decodeFrame kind.toNat tag.toNat payload) { s with port := s.port.hunt }
      else { s with port := s.port.abandon } := by
  unfold completeFrame
  have bytes : length :: kind :: tag :: payload ++ [first] ++ [b] = length :: kind :: tag :: payload ++ [first, b] := by
    simp
  have front : (length :: kind :: tag :: payload ++ [first, b]).length - 2 = (length :: kind :: tag :: payload).length := by
    simp
  rw [bytes, front]
  dsimp only
  rw [List.take_left, List.drop_left]
  rfl

end

/-- R170: every request is of a kind of Table 10.4. -/
theorem requestOf_kind {i : Instr} {r : Request} (h : requestOf i = some r) : isRequestKind r.kind = true := by
  cases i <;> simp only [requestOf, Option.some.injEq, reduceCtorEq] at h <;> subst h <;> rfl

section
variable {k t : Nat} {payload : List Byte}

theorem decodeFrame_request {i : Instr} {r : Request} (hi : requestOf i = some r)
    (read : readPayload k t payload = .request i) (hk : r.kind = k) (ht : r.tag = t) (hl : r.lengthOk = true) :
    decodeFrame k t payload = decodeRequest t true r.owner := by
  funext s
  have known : ¬ isRequestKind k = false := by
    rw [← hk, requestOf_kind hi]
    exact nofun
  unfold decodeFrame decodeRequest
  rw [if_neg known, read]
  refine if_congr Iff.rfl rfl ?_
  show (match requestOf i with
    | none => refuse s .badLength
    | some q => if q.kind = k ∧ q.tag = t ∧ q.lengthOk = true then q.owner s else refuse s .badLength) = r.owner s
  rw [hi]
  exact if_pos ⟨hk, ht, hl⟩

theorem decodeFrame_badKind (h : isRequestKind k = false) : decodeFrame k t payload s = refuse s .badKind := if_pos h

theorem decodeFrame_judged (hk : isRequestKind k = true) (ht : t ≠ 0) :
    decodeFrame k t payload s = judgeReading k t (readPayload k t payload) s :=
  (if_neg (ne_false_of_eq_true hk)).trans (if_neg ht)

end

/-- Table 10.3: two bytes, high byte first, as a number. -/
theorem ofNat_valueOf (y z : Byte) : BitVec.ofNat 16 (valueOf [y, z]) = y ++ z := by
  refine BitVec.eq_of_toNat_eq ?_
  have value : valueOf [y, z] = y.toNat <<< 8 + z.toNat := by
    simp [valueOf, Nat.shiftLeft_eq]
  have small : valueOf [y, z] < 2 ^ 16 := by
    rw [value, Nat.shiftLeft_eq]
    have := y.isLt
    have := z.isLt
    omega
  rw [BitVec.toNat_ofNat, Nat.mod_eq_of_lt small, value, BitVec.toNat_append, Nat.shiftLeft_add_eq_or_of_lt z.isLt]

theorem valueOf_three (x y z : Byte) : valueOf [x, y, z] = (x.toNat * 256 + y.toNat) * 256 + z.toNat := by
  simp [valueOf]

theorem readPayload_mask_bad {t : Nat} {x : Byte} {rest : List Byte} (h : 1 < x.toNat) :
    readPayload 0x02 t (x :: rest) = .badValue :=
  (if_neg (by omega)).trans (if_neg (by omega))

/-- Settles O50: a byte by the phase and the count, a complete frame by its check and what its payload reads as. -/
theorem frameBytesTaken : Obligations.FrameBytes := by
  refine ⟨fun s b stop => ⟨fun h => ?_, fun running => ⟨fun h => ?_, fun h noStop => ?_, fun h hs => ⟨fun he => ?_,
    fun he => ?_, fun length rest he hb => ?_⟩, fun h hs => ⟨fun k he => ?_, fun he => ?_⟩, fun h hs => ⟨fun he => ?_,
    fun length kind tag payload first he hb => ?_⟩⟩, fun x h hx le => ?_⟩,
    fun t x y z => ⟨rfl, rfl, rfl, rfl, ?_, rfl, ?_, rfl, ?_, readPayload_mask_bad⟩,
    fun t kind values payload h => ?_, fun t x rest => readPayload_mask_bad, by decide +kernel⟩
  · exact exec_byte (actByteReceived_restarting h)
  · exact exec_byte (actByteReceived_hunt (s := s.quiet) running h)
  · subst noStop
    refine exec_byte ((actByteReceived_noStop (s := s.quiet) running h).trans ?_)
    rw [ControlPort.abandon_eq]
    rfl
  · subst hs
    exact exec_byte_header running h
      ((ControlPort.headerByte_length he).trans (if_congr Iff.rfl s.port.abandon_eq rfl))
  · subst hs
    exact exec_byte_header running h (ControlPort.headerByte_kind he)
  · subst hs
    exact exec_byte_header running h (ControlPort.headerByte_tag he hb)
  · subst hs
    exact exec_byte_body running h (ControlPort.bodyByte_more he)
  · subst hs
    exact exec_byte_body running h (ControlPort.bodyByte_last he)
  · subst hs
    have more : 1 < s.quiet.port.expected := he ▸ Nat.one_lt_two
    refine exec_byte ((actByteReceived_check (s := s.quiet) running h).trans ((if_pos more).trans ?_))
    rw [show s.quiet.port.expected = 2 from he]
    rfl
  · subst hs
    have last : ¬ 1 < s.quiet.port.expected := he ▸ Nat.lt_irrefl 1
    have complete : actByteReceived b true s.quiet = s.quiet.completeFrame (length :: kind :: tag :: payload ++ [first] ++ [b]) :=
      (actByteReceived_check (s := s.quiet) running h).trans ((if_neg last).trans (congrArg (fun l => s.quiet.completeFrame (l ++ [b])) hb))
    rw [State.completeFrame_eq] at complete
    intro body k t s0
    refine ⟨fun wrong => ?_, fun right => ?_⟩
    · refine exec_byte ((complete.trans (if_neg wrong)).trans ?_)
      rw [ControlPort.abandon_eq]
      rfl
    · have taken : exec (.byteReceived b true) s = command (takeFrame k t (decodeFrame k t payload)) s0 :=
        congrArg (fun t : State => Host.Outcome.next t.done) (complete.trans (if_pos right))
      refine ⟨fun i r hi read hk ht hl => ?_, fun free hk => ?_, fun free hk ht read => ?_, fun free hk ht read => ?_⟩
      · rw [taken, decodeFrame_request hi read hk ht hl, exec_request i s0 r hi, hk, ht, hl]
        rfl
      · exact taken.trans (frame_refused running free (decodeFrame_badKind hk))
      · refine taken.trans (frame_refused running free ((decodeFrame_judged hk ht).trans ?_))
        rw [read]
        rfl
      · refine taken.trans (frame_refused running free ((decodeFrame_judged hk ht).trans ?_))
        rw [read]
        rfl
  · exact (command_at (act := fun s => s.whenReached s.port.gapEnd fun x => { x with port := x.port.hunt })
      (congrArg (fun v => s.quiet.whenReached v _) (ControlPort.gapEnd_eq h hx)) le).trans rfl
  · rw [← valueOf_three]
    rfl
  · rw [← valueOf_three]
    rfl
  · rw [← ofNat_valueOf]
    rfl
  · simp only [List.mem_cons, Prod.mk.injEq, List.not_mem_nil, or_false] at h
    rcases h with ⟨rfl, rfl⟩ | ⟨rfl, rfl⟩ | ⟨rfl, rfl⟩ | ⟨rfl, rfl⟩ | ⟨rfl, rfl⟩ | ⟨rfl, rfl⟩ | ⟨rfl, rfl⟩ <;> rfl

end Sys2Proof.Machine
end

section
/-! PROOFS. Production at once (R26), and CONTINUE (O29). -/

namespace Sys2Proof.Machine

variable {s t : State} {c : Context} {g : Segment} {e : ClickEngine}

/-! ## What a beat feeds (R30, R139) -/

theorem Link.FedTo.tickAll {k : Lamp} (xs : List Sample) (l : Link) : l.FedTo (xs.foldl (Link.tickLamp k) l) := by
  induction xs generalizing l with
  | nil => exact .refl l
  | cons x xs ih => exact (tickLamp k l x).trans (ih _)

theorem Link.FedTo.runLamp (b : BeatRecord) (k : Lamp) (l : Link) : l.FedTo (l.runLamp b k) := by
  unfold Link.runLamp
  split
  next r _ => exact tickAll _ l
  next => exact .refl l

theorem Channel.fedTo.clicked (c : Channel) (b : BeatRecord) : c.fedTo (c.clicked b) := by
  unfold Channel.clicked
  by_cases hu : c.link.state = .up
  · split
    · have fed := of_link (c := c) (Link.FedTo.handAll c.link
        (.click b.onset (if c.assigned.click.accent = true then b.level else .beat) ::
          (b.subs.pick (if c.link.rate = .reduced ∧ 2 < c.assigned.click.subdivision then 2
            else c.assigned.click.subdivision)).map fun x => .click x .sub))
      rwa [if_pos hu] at fed
    · exact refl c
  · rw [if_neg fun k => hu k.2.1]
    exact refl c

theorem Channel.fedTo.ran (c : Channel) (b : BeatRecord) : c.fedTo (c.ran b) :=
  of_link ((Link.FedTo.runLamp b .cue _).trans (.runLamp b .stop _))

theorem State.beaten_fed (s : State) (c : Context) (g : Segment) (n : Station) : (s.ch n).fedTo ((s.beaten c g).ch n) := by
  rw [beaten_ch]
  split
  · exact .ran _ _
  · exact (Channel.fedTo.clicked _ _).trans (.ran _ _)

/-! ## The engine's next move (R25, R26) -/

theorem ClickEngine.next_eq (hc : e.context = some c) (hp : e.state.produces = true)
    (hb : e.blocked c.nextOnset = false) : e.next = some (c.move, c.nextOnset) := by
  unfold next
  rw [hc]
  dsimp only
  rw [hp, hb]
  rfl

theorem ClickEngine.blocked_free (hl : e.limit = none) (hh : e.holdPoint = none) (x : Sample) : e.blocked x = false := by
  unfold blocked
  rw [hl, hh]
  rfl

theorem Context.move_beat (hg : c.segment = some g) (hm : c.moveDue = false) : c.move = .beat := by
  have inside : ¬ c.segments.length ≤ c.segmentIndex := Nat.not_le.mpr (List.getElem?_eq_some_iff.mp hg).1
  unfold move pastLast
  rw [hm, decide_eq_false inside]
  rfl

/-- R25: the engine plays a count-in, and a segment whose beats it counts. -/
theorem ClickEngine.produces (hheld : e.held = false) (hc : e.context = some c) (hg : c.segment = some g)
    (h : c.countIn ≠ none ∨ g.kind = .metered ∨ g.kind = .vamp ∨ (g.kind = .tap ∧ c.tapPlaced = true)) :
    e.state.produces = true := by
  unfold state
  rw [hheld, hc]
  dsimp only
  rw [if_neg Bool.false_ne_true]
  cases hk : c.countIn with
  | some k => rfl
  | none =>
    rw [hg]
    rcases h with h | h | h | ⟨h, placed⟩
    · exact absurd hk h
    · simp [h, EngineState.produces]
    · simp [h, EngineState.produces]
    · simp [h, placed, EngineState.produces]

theorem State.runEngine_beat {x : Sample} (hn : s.click.next = some (.beat, x)) (hx : x ≤ s.time.S + 4800) :
    s.runEngine = s.produceBeat := by
  unfold runEngine
  rw [hn]
  exact if_pos hx

/-- R26 step 6: the bar-reached report a beat gives. -/
def Context.barReports (c : Context) (g : Segment) : List Report :=
  (c.barReached g).toList.map fun r => .barReached r.1 r.2

theorem State.produceBeat_reports (hc : s.click.context = some c) (hg : c.segment = some g) :
    s.produceBeat = { s.beaten c g with reports := s.reports ++ c.barReports g } := by
  have same : (s.beaten c g).reports = s.reports := (s.beaten_frame c g).reports
  rw [produceBeat_eq hc hg, Context.barReports]
  generalize s.beaten c g = v at same ⊢
  rw [← same]
  cases c.barReached g with
  | none => exact congrArg (fun r => { v with reports := r }) (List.append_nil v.reports).symm
  | some r => rfl

/-! ## A bar reached while the show does not run (R72) -/

/-- R72: outside RUNNING a bar-reached report spends at most the bar mark. -/
theorem settle_bar_idle (hr : t.reports = c.barReports g) (hs : t.ctl.state ≠ .running) :
    ∃ mark, settle t = { t with reports := [], cue := { t.cue with barMark := mark } } ∧
      (c.barReached g = none → mark = t.cue.barMark) := by
  unfold Context.barReports at hr
  cases hb : c.barReached g with
  | none =>
    rw [hb] at hr
    refine ⟨t.cue.barMark, ?_, fun _ => rfl⟩
    rw [settle_nil t hr, show ([] : List Report) = t.reports from hr.symm]
  | some r =>
    rw [hb] at hr
    cases hd : t.cue.barCue r.1 with
    | none =>
      exact ⟨t.cue.barMark, settle_one hr (State.takeBarReached_none (s := { t with reports := [] }) hd) rfl, nofun⟩
    | some d =>
      refine ⟨false, settle_one hr ?_ rfl, nofun⟩
      show State.takeBarReached { t with reports := [] } r.1 = _
      unfold State.takeBarReached
      rw [show CueEngine.barCue (State.cue { t with reports := [] }) r.1 = some d from hd]
      exact if_neg fun k => hs k.1

/-! ## A context re-based with a count-in (R43, R45) -/

section
variable {x : Sample} {bars : Nat}

theorem Context.returnAt_eq (hg : c.segment = some g) (x : Sample) (bars : Nat) :
    c.returnAt x bars =
      { c with
        acc := x * 65536, countIn := countInOf bars g.beatsPerBar (g.tempoAt c.beatIndex c.tempo)
        lastOnset := none, muteFirst := false } := by
  unfold returnAt
  rw [hg]
  rfl

theorem countInOf_none (b t : Nat) : countInOf 0 b t = none := by
  unfold countInOf
  rw [Nat.zero_mul]
  rfl

theorem countInOf_some {b t : Nat} (hbars : bars ≠ 0) (hb : 1 ≤ b) : countInOf bars b t = some ⟨bars * b, bars, 1, t⟩ :=
  if_neg (Nat.mul_ne_zero hbars (Nat.ne_of_gt hb))

theorem Context.returnAt_segment (hg : c.segment = some g) : (c.returnAt x bars).segment = some g := by
  rw [returnAt_eq hg]
  exact hg

theorem Context.returnAt_onset (hg : c.segment = some g) : (c.returnAt x bars).nextOnset = x := by
  rw [returnAt_eq hg]
  exact Nat.mul_div_cancel x (by decide)

/-- R29, R32: the first record of a returned position. -/
structure BeatRecord.First (b : BeatRecord) (c : Context) (g : Segment) (x : Sample) (bars : Nat) : Prop where
  onset : b.onset = x
  tempo : b.tempo = g.tempoAt c.beatIndex c.tempo
  main : bars = 0 → b.bar = (c.bar : Int) ∧ b.beatInBar = c.beatInBar ∧ b.countdown = none
  countIn : bars ≠ 0 → b.bar = -(bars : Int) ∧ b.beatInBar = 1 ∧ b.level = .down ∧
    b.countdown = some (bars * g.beatsPerBar)

theorem Context.returnAt_first (hg : c.segment = some g) (hb : 1 ≤ g.beatsPerBar) :
    ((c.returnAt x bars).record g).First c g x bars := by
  have onset : x * 65536 / 65536 = x := Nat.mul_div_cancel x (by decide)
  by_cases hbars : bars = 0
  · have at_ : c.returnAt x bars = { c with acc := x * 65536, countIn := none, lastOnset := none, muteFirst := false } := by
      rw [returnAt_eq hg, hbars, countInOf_none]
    rw [at_, record_main (c := { c with acc := x * 65536, countIn := none, lastOnset := none, muteFirst := false }) hg rfl]
    exact ⟨onset, rfl, fun _ => ⟨rfl, rfl, rfl⟩, fun h => absurd hbars h⟩
  · rw [returnAt_eq hg, countInOf_some hbars hb, record_countIn g rfl]
    refine ⟨onset, rfl, fun h => absurd h hbars, fun _ => ⟨rfl, rfl, rfl, congrArg some ?_⟩⟩
    obtain ⟨k, rfl⟩ := Nat.exists_eq_succ_of_ne_zero hbars
    show k * g.beatsPerBar + (g.beatsPerBar - 1 + 1) = (k + 1) * g.beatsPerBar
    rw [Nat.sub_add_cancel hb, Nat.succ_mul]

/-- R43, R45: the beat that the count-in leads into. -/
theorem Context.returnAt_mainOnset (hg : c.segment = some g) (hb : 1 ≤ g.beatsPerBar) :
    (c.returnAt x bars).mainOnset =
      x + bars * g.beatsPerBar * beatPeriod (g.tempoAt c.beatIndex c.tempo) / 65536 := by
  by_cases hbars : bars = 0
  · rw [returnAt_eq hg, hbars, countInOf_none]
    simp only [mainOnset, nextOnset, onsetOf, Nat.zero_mul, Nat.zero_div, Nat.add_zero]
    exact Nat.mul_div_cancel x (by decide)
  · rw [returnAt_eq hg, countInOf_some hbars hb]
    simp only [mainOnset, onsetOf]
    exact Nat.mul_add_div (m := 65536) (by decide) x _ ▸ by rw [Nat.mul_comm]

/-- R41: a count-in beat reaches no bar. -/
theorem Context.returnAt_barReached (hg : c.segment = some g) (hb : 1 ≤ g.beatsPerBar) (hbars : bars ≠ 0) :
    (c.returnAt x bars).barReached g = none := by
  rw [returnAt_eq hg, countInOf_some hbars hb]
  rfl

/-- R26: the first beat of a returned position is due at once. -/
theorem State.runEngine_returned (hc : s.click.context = some (c.returnAt (s.time.S + 4800) bars)) (hg : c.segment = some g)
    (hk : g.kind = .metered ∨ g.kind = .vamp ∨ (g.kind = .tap ∧ c.tapPlaced = true)) (hm : c.moveDue = false)
    (hheld : s.click.held = false) (hl : s.click.limit = none) (hh : s.click.holdPoint = none) :
    s.runEngine =
      { s.beaten (c.returnAt (s.time.S + 4800) bars) g with
        reports := s.reports ++ (c.returnAt (s.time.S + 4800) bars).barReports g } := by
  have segment : (c.returnAt (s.time.S + 4800) bars).segment = some g := Context.returnAt_segment hg
  have placed : (c.returnAt (s.time.S + 4800) bars).tapPlaced = c.tapPlaced := by rw [Context.returnAt_eq hg]
  have here : (c.returnAt (s.time.S + 4800) bars).moveDue = false := by rw [Context.returnAt_eq hg]; exact hm
  have plays := ClickEngine.produces hheld hc segment (.inr (by rwa [placed]))
  have next := ClickEngine.next_eq hc plays (ClickEngine.blocked_free hl hh _)
  rw [Context.move_beat segment here, Context.returnAt_onset hg] at next
  rw [runEngine_beat next (Nat.le_refl _), produceBeat_reports hc segment]

end

/-! ## CONTINUE (R43, R106) -/

/-- R43, R106: the continue recorded and the engine returned to a beat, in the position `c` of segment `g`. -/
structure State.Continues (s t : State) (c : Context) (g : Segment) (bars : Nat) (source : HoldSource) : Prop where
  ctl : t.ctl = { s.ctl with continuePending := some ⟨s.time.S + 4800, bars, source⟩ }
  held : t.click.held = false
  taps : t.click.taps = []
  reach : t.click.reach =
    some ⟨.continued, s.time.S + 4800 + bars * g.beatsPerBar * beatPeriod (g.tempoAt c.beatIndex c.tempo) / 65536⟩
  kept : t.click.kept =
    s.click.kept.drop (s.click.kept.length - 1) ++ [(c.returnAt (s.time.S + 4800) bars).record g]
  fed : ∀ n, (s.ch n).fedTo (t.ch n)
  patchOf : ∀ n, t.patchOf n = (s.patchOf n).counted (s.time.S + 4800)
  cue : t.cue = { s.cue with barMark := t.cue.barMark }
  stands : bars ≠ 0 → t.cue = s.cue
  port : t.port = s.port
  time : t.time = s.time
  vin : t.vin = s.vin
  vout : t.vout = s.vout
  reports : t.reports = []
  emitted : t.emitted = s.emitted
  pending : t.pending = s.pending

theorem State.takeContinue_beat {bars : Nat} (source : HoldSource) (hs : s.ctl.state = .holding) (hr : s.reports = [])
    (hc : s.click.context = some c) (hg : c.segment = some g)
    (hk : g.kind = .metered ∨ g.kind = .vamp ∨ (g.kind = .tap ∧ c.tapPlaced = true)) (hm : c.moveDue = false)
    (hb : 1 ≤ g.beatsPerBar) (hl : s.click.limit = none) (hh : s.click.holdPoint = none) :
    s.Continues (s.takeContinue bars source) c g bars source := by
  have beat : c.isBeat = true := by
    unfold Context.isBeat
    rw [hg]
    rcases hk with h | h | ⟨h, placed⟩
    · simp [h]
    · simp [h]
    · simp [h, placed]
  let k := c.returnAt (s.time.S + 4800) bars
  let u : State :=
    { s with
      ctl := { s.ctl with continuePending := some ⟨s.time.S + 4800, bars, source⟩ }
      click := { s.click with held := false, taps := [], context := some k, reach := some ⟨.continued, k.mainOnset⟩ } }
  have act : s.takeContinue bars source = settle u.runEngine := by
    unfold takeContinue engineContinue
    have context : State.click (s.mapCtl fun c => { c with continuePending := some ⟨s.horizon, bars, source⟩ }) = s.click := rfl
    rw [context, hc]
    exact congrArg settle (if_pos beat)
  have first := Context.returnAt_first (x := s.time.S + 4800) (bars := bars) hg hb
  have run : u.runEngine = { u.beaten k g with reports := s.reports ++ k.barReports g } :=
    runEngine_returned (s := u) rfl hg hk hm rfl hl hh
  have frame := u.beaten_frame k g
  have ports := u.beaten_ports k g
  have ch := u.beaten_fed k g
  have patch := u.beaten_patchOf k g
  rw [hr] at run
  rw [act, run]
  generalize u.beaten k g = v at *
  obtain ⟨mark, settled, stands⟩ := settle_bar_idle (t := { v with reports := [] ++ k.barReports g }) (List.nil_append _) (by
    show v.ctl.state ≠ .running
    rw [frame.ctl]
    exact hs ▸ nofun)
  rw [settled]
  have cue : v.cue = s.cue := frame.cue
  refine ⟨frame.ctl, ?_, ?_, ?_, ?_, ch, fun n => ?_, ?_, fun h => ?_, ports.1, frame.time, frame.vin, frame.vout, rfl,
    ports.2, frame.pending⟩
  · exact congrArg ClickEngine.held frame.click
  · exact (congrArg ClickEngine.taps frame.click).trans (ite_self _)
  · refine (congrArg ClickEngine.reach frame.click).trans ?_
    show some (Reach.mk .continued k.mainOnset) = _
    rw [Context.returnAt_mainOnset hg hb]
  · exact congrArg ClickEngine.kept frame.click
  · refine (patch n).trans ?_
    rw [first.onset]
    rfl
  · rw [← cue]
  · have none := Context.returnAt_barReached (x := s.time.S + 4800) hg hb h
    rw [stands none]
    exact cue

/-- R106: a continue reached at once. -/
theorem settle_continueReached (hr : s.reports = []) (hs : s.ctl.state = .holding) (x : Sample) :
    settle (s.report (.continueReached x)) =
      ((s.mapClick fun e => { e with reach := none }).mapCtl fun c =>
        { c with continuePending := none }).changeShow .running .continueReached (some x) := by
  have back : { s.report (.continueReached x) with reports := [] } = s := by rw [← hr]; rfl
  refine settle_one (r := .continueReached x) ?_ ?_ ?_
  · rw [State.report, hr, List.nil_append]
  · rw [back]
    exact s.continueReached_eq x hs
  · exact (State.Becomes.changeShow _ _ _ _).reports.trans hr

/-- R43: the engine out of HELD with nothing to return to. -/
def ClickEngine.unheld (e : ClickEngine) : ClickEngine := { e with held := false, taps := [], reach := none }

/-- R43, R106: CONTINUE where no beat is held, before the map's end. -/
theorem State.takeContinue_atOnce {bars : Nat} (source : HoldSource) (hs : s.ctl.state = .holding) (hr : s.reports = [])
    (h : ∀ c, s.click.context = some c →
      ∃ g, c.segment = some g ∧ (g.kind = .free ∨ (g.kind = .tap ∧ c.tapPlaced = false))) :
    Becomes { s with click := s.click.unheld, ctl := { s.ctl with continuePending := none } }
      (s.takeContinue bars source) s.cue { s.ctl with state := .running, continuePending := none }
      (s.port.offer (.showState .holding .running .continueReached s.time.S (some s.time.S)))
      fun n => (s.ch n).stopLampSet .running s.time.S := by
  let u : State :=
    { s with
      ctl := { s.ctl with continuePending := some ⟨s.time.S + 4800, bars, source⟩ }
      click := { s.click with held := false, taps := [] } }
  have act : s.takeContinue bars source = settle (u.report (.continueReached s.time.S)) := by
    unfold takeContinue engineContinue
    have context : State.click (s.mapCtl fun c => { c with continuePending := some ⟨s.horizon, bars, source⟩ }) = s.click := rfl
    rw [context]
    cases hc : s.click.context with
    | none => rfl
    | some c =>
      obtain ⟨g, hg, kind⟩ := h c hc
      have beat : ¬ c.isBeat = true := by
        unfold Context.isBeat
        rw [hg]
        rcases kind with k | ⟨k, placed⟩
        · simp [k]
        · simp [k, placed]
      have last : ¬ c.pastLast = true := by
        have inside := (List.getElem?_eq_some_iff.mp hg).1
        simpa [Context.pastLast] using inside
      refine congrArg settle ((if_neg beat).trans ?_)
      exact congrArg (fun v : State => v.report (.continueReached s.time.S)) (if_neg last)
  rw [act, settle_continueReached (s := u) hr hs]
  refine (Becomes.changeShow _ .running .continueReached (some s.time.S)).congr rfl rfl ?_ fun n => rfl
  exact congrArg (fun x => s.port.offer (.showState x .running .continueReached s.time.S (some s.time.S))) hs

/-- R43, R106: CONTINUE at the map's end. -/
theorem State.takeContinue_mapEnd {bars : Nat} (source : HoldSource) (hs : s.ctl.state = .holding) (hr : s.reports = [])
    (hc : s.click.context = some c) (hg : c.segment = none) :
    Becomes
      { s with
        click := { s.click.unheld with context := none }
        ctl := { s.ctl with continuePending := none }
        port := s.port.offer (.mapEnd c.map (s.time.S + 4800) s.time.S) }
      (s.takeContinue bars source) s.cue { s.ctl with state := .running, continuePending := none }
      ((s.port.offer (.mapEnd c.map (s.time.S + 4800) s.time.S)).offer
        (.showState .holding .running .continueReached s.time.S (some s.time.S)))
      fun n => (s.ch n).stopLampSet .running s.time.S := by
  let u : State :=
    { s with
      ctl := { s.ctl with continuePending := some ⟨s.time.S + 4800, bars, source⟩ }
      click := { s.click with held := false, taps := [], context := none }
      port := s.port.offer (.mapEnd c.map (s.time.S + 4800) s.time.S) }
  have act : s.takeContinue bars source = settle (u.report (.continueReached s.time.S)) := by
    unfold takeContinue engineContinue
    have context : State.click (s.mapCtl fun c => { c with continuePending := some ⟨s.horizon, bars, source⟩ }) = s.click := rfl
    have beat : ¬ c.isBeat = true := by
      unfold Context.isBeat
      rw [hg]
      exact nofun
    have last : c.pastLast = true := decide_eq_true (List.getElem?_eq_none_iff.mp hg)
    rw [context, hc]
    refine congrArg settle ((if_neg beat).trans ?_)
    refine congrArg (fun v : State => v.report (.continueReached s.time.S)) ((if_pos last).trans ?_)
    refine (State.discardMap_eq ?_ _).trans rfl
    exact hc
  rw [act, settle_continueReached (s := u) hr hs]
  refine (Becomes.changeShow _ .running .continueReached (some s.time.S)).congr rfl rfl ?_ fun n => rfl
  exact congrArg (fun x => u.port.offer (.showState x .running .continueReached s.time.S (some s.time.S))) hs

section
variable {tag k : Nat}

theorem State.taken_continuePending (s : State) : s.taken.ctl.continuePending = s.ctl.continuePending := by
  rw [s.taken_ctl]; rfl

theorem actContinue_refused (h : s.ctl.state ≠ .holding) : actContinue k s = refuse s .wrongState := if_pos h

theorem actContinue_pending {p : ContinuePending} (h : s.ctl.state = .holding) (hp : s.ctl.continuePending = some p) :
    actContinue k s = (s, .ok (decide (4 < k)) (.continueStart p.start p.countIn)) := by
  unfold actContinue
  rw [if_neg (not_not.mpr h), hp]

theorem actContinue_taken (h : s.ctl.state = .holding) (hp : s.ctl.continuePending = none) :
    actContinue k s =
      (s.takeContinue (min 4 k) .host, .ok (decide (4 < k)) (.continueStart (s.time.S + 4800) (min 4 k))) := by
  unfold actContinue
  rw [if_neg (not_not.mpr h), hp]
  rfl

/-- R106: a CONTINUE taken. -/
theorem exec_continue (hadm : s.admits tag) (h : s.ctl.state = .holding) (hp : s.ctl.continuePending = none) :
    exec (.continueShow tag k) s =
      .next ((s.taken.takeContinue (min 4 k) .host).replied 0x22 tag
        (.ok (decide (4 < k)) (.continueStart (s.time.S + 4800) (min 4 k)))) := by
  have act := actContinue_taken (s := s.taken) (k := k) (s.taken_ctl_state.trans h) (s.taken_continuePending.trans hp)
  rw [s.taken_time] at act
  exact exec_request_replied (i := .continueShow tag k) rfl rfl hadm act nofun

end

/-- Settles O29: a continue from a beat, at once, and from the map's end. -/
theorem continueRequestsJudged : Obligations.ContinueRequestsJudged := by
  intro s tag k hadm hr s0 bars clamped
  have reports : s.taken.reports = [] := s.taken_reports.trans hr
  refine ⟨fun h => ?_, fun p h hp => ?_, fun c g h hp hc hg hk hm hb hl hh => ?_, fun h hp hc => ?_, fun c h hp hc hg => ?_⟩
  · exact exec_refused (i := .continueShow tag k) rfl rfl hadm (actContinue_refused (by rwa [s.taken_ctl_state]))
  · exact exec_request_replied (i := .continueShow tag k) rfl rfl hadm
      (actContinue_pending (s.taken_ctl_state.trans h) (s.taken_continuePending.trans hp)) nofun
  · have act := exec_continue (k := k) hadm h hp
    have taken := State.takeContinue_beat (s := s.taken) (bars := min 4 k) .host (s.taken_ctl_state.trans h) reports
      (by rwa [s.taken_click]) hg hk hm hb (by rwa [s.taken_click]) (by rwa [s.taken_click])
    generalize s.taken.takeContinue (min 4 k) .host = t at act taken
    have first := Context.returnAt_first (x := s.time.S + 4800) (bars := min 4 k) hg hb
    refine ⟨_, _, act, ?_, taken.held, taken.taps, ?_, ?_, first.onset, first.tempo, first.main, first.countIn,
      fun n => ?_, fun n => ?_, taken.cue, ?_, taken.time.trans s.taken_time, taken.vin.trans s.taken_vin,
      taken.vout.trans s.taken_vout, taken.reports, taken.emitted.trans s.taken_emitted, taken.pending.trans s.taken_pending⟩
    · refine taken.ctl.trans ?_
      rw [s.taken_time]
    · refine taken.reach.trans ?_
      rw [s.taken_time]
    · refine taken.kept.trans ?_
      rw [s.taken_time, s.taken_click]
    · have fed := taken.fed n
      rwa [s.taken_ch] at fed
    · refine (taken.patchOf n).trans ?_
      rw [s.taken_time, s.taken_patchOf]
    · show (t.port.answer _).arbitrate = _
      rw [taken.port]
  · have act := exec_continue (k := k) hadm h hp
    have taken := State.takeContinue_atOnce (s := s.taken) (bars := min 4 k) .host (s.taken_ctl_state.trans h) reports
      (by rwa [s.taken_click])
    generalize s.taken.takeContinue (min 4 k) .host = t at act taken
    refine ⟨_, act, taken.ctl, ?_, fun n => ?_, taken.cue, ?_, taken.time.trans s.taken_time,
      taken.patches.trans s.taken_patches, taken.vin.trans s.taken_vin, taken.vout.trans s.taken_vout,
      taken.reports.trans reports, taken.emitted.trans s.taken_emitted, taken.pending.trans s.taken_pending⟩
    · refine taken.click.trans ?_
      rw [s.taken_click]
      rfl
    · refine (taken.ch n).trans ?_
      rw [s.taken_ch, s.taken_time]
    · show (t.port.answer _).arbitrate = _
      rw [taken.port, s.taken_time]
  · have act := exec_continue (k := k) hadm h hp
    have taken := State.takeContinue_mapEnd (s := s.taken) (bars := min 4 k) .host (s.taken_ctl_state.trans h) reports
      (by rwa [s.taken_click]) hg
    generalize s.taken.takeContinue (min 4 k) .host = t at act taken
    refine ⟨_, act, taken.ctl, ?_, fun n => ?_, taken.cue, ?_, taken.time.trans s.taken_time,
      taken.patches.trans s.taken_patches, taken.vin.trans s.taken_vin, taken.vout.trans s.taken_vout,
      taken.reports.trans reports, taken.emitted.trans s.taken_emitted, taken.pending.trans s.taken_pending⟩
    · refine taken.click.trans ?_
      rw [s.taken_click]
      rfl
    · refine (taken.ch n).trans ?_
      rw [s.taken_ch, s.taken_time]
    · show (t.port.answer _).arbitrate = _
      rw [taken.port, s.taken_time]

end Sys2Proof.Machine
end

section
/-! PROOFS. What production at once, and the reports it hands, leave as they were (R26, R36, R72). -/

namespace Sys2Proof.Machine

section
variable {c d k : Channel}

/-! ## What joins a queue (R97) -/

/-- No PATCH has joined the queue. -/
def Channel.noPatch (c d : Channel) : Prop := ∀ e ∈ d.link.queue, e.isPatch = true → e ∈ c.link.queue

namespace Channel.noPatch

theorem refl (c : Channel) : c.noPatch c := fun _ h _ => h

theorem trans (h : c.noPatch d) (j : d.noPatch k) : c.noPatch k := fun e he hp => h e (j e he hp) hp

theorem of_link {m : Link} {p : Prop} [Decidable p] (h : ∀ e ∈ m.queue, e.isPatch = true → e ∈ c.link.queue) :
    c.noPatch (if p then { c with link := m } else c) := by
  split
  · exact h
  · exact refl c

theorem of_feeds {l m : Link} (h : l.Feeds True m) : ∀ e ∈ m.queue, e.isPatch = true → e ∈ l.queue := by
  intro e he hp
  refine h.quiet trivial e he ?_
  cases e
  case lamp => cases hp
  all_goals rfl

theorem stopLampSet (c : Channel) (st : ShowState) (y : Sample) : c.noPatch (c.stopLampSet st y) :=
  of_link (of_feeds (.setLamp ..))

theorem cueLampSet (c : Channel) (p : LampPattern) (y : Sample) : c.noPatch (c.cueLampSet p y) :=
  of_link (of_feeds (.setLamp ..))

theorem warnSet (c : Channel) (old new : List Station) (n : Station) (y : Sample) :
    c.noPatch (c.warnSet old new n y) := by
  unfold Channel.warnSet
  split
  · exact cueLampSet _ _ _
  · split
    · exact cueLampSet _ _ _
    · exact refl c

theorem ran (c : Channel) (b : BeatRecord) : c.noPatch (c.ran b) :=
  of_link (of_feeds ((Link.Feeds.runLamp b .cue).trans (.runLamp b .stop)))

theorem mem_handAll {l : Link} {es : List Event} {x : Event} (h : x ∈ (l.handAll es).queue) : x ∈ es ∨ x ∈ l.queue := by
  induction es generalizing l with
  | nil => exact .inr h
  | cons e es ih =>
    rcases ih h with h | h
    · exact .inl (List.mem_cons_of_mem _ h)
    · replace h : x ∈ (l.hand e).1.queue := h
      unfold Link.hand at h
      split at h
      · rcases Link.mem_place h with rfl | h
        · exact .inl List.mem_cons_self
        · exact .inr h
      · exact .inr h

theorem clicked (c : Channel) (b : BeatRecord) : c.noPatch (c.clicked b) := by
  refine of_link fun e he hp => (mem_handAll he).resolve_left fun h => ?_
  rcases List.mem_cons.mp h with rfl | h
  · cases hp
  · obtain ⟨x, -, rfl⟩ := List.mem_map.mp h
    cases hp

end Channel.noPatch

theorem State.beaten_noPatch (s : State) (c : Context) (g : Segment) (n : Station) :
    (s.ch n).noPatch ((s.beaten c g).ch n) := by
  rw [beaten_ch]
  split
  · exact .ran _ _
  · exact (Channel.noPatch.clicked _ _).trans (.ran _ _)

end

theorem Context.leave_map (c : Context) : c.leave.map = c.map ∧ c.leave.segments = c.segments := by
  unfold leave
  split
  · exact ⟨rfl, rfl⟩
  · split <;> exact ⟨rfl, rfl⟩

/-- R28: a beat produced stays in its map. -/
theorem Context.advance_map (c : Context) (rel : Bool) :
    (c.advance rel).1.map = c.map ∧ (c.advance rel).1.segments = c.segments := by
  unfold advance
  dsimp only
  split
  · exact ⟨rfl, rfl⟩
  · split
    · exact ⟨rfl, rfl⟩
    · rw [advanceIn_eq]
      split
      · split
        · exact leave_map _
        · exact ⟨rfl, rfl⟩
      · split
        · exact leave_map _
        · exact ⟨rfl, rfl⟩
      · exact ⟨rfl, rfl⟩
      · split
        · exact leave_map _
        · split <;> exact ⟨rfl, rfl⟩


variable {s t u : State}

/-! ## Production at once (R26) -/

/-- The reports that playing on can hand: a bar, or the map's end. -/
def Report.ofBeat (r : Report) : Prop := r = .mapEnd ∨ ∃ bar pass, r = .barReached bar pass

/-- The engine has played on from `s` to `t`: what the rest of the part may see of it. -/
structure State.Plays (s t : State) : Prop where
  time : t.time = s.time
  cue : t.cue = s.cue
  ctl : ∃ h, t.ctl = { s.ctl with holdPending := h }
  vin : t.vin = s.vin
  vout : t.vout = s.vout
  port : t.port = s.port
  emitted : t.emitted = s.emitted
  pending : t.pending = s.pending
  limit : t.click.limit = none
  held : t.click.held = s.click.held
  fed : ∀ n, (s.ch n).fedTo (t.ch n)
  noPatch : ∀ n, (s.ch n).noPatch (t.ch n)
  patchOf : ∀ n, t.patchOf n = s.patchOf n ∨ ∃ x, t.patchOf n = (s.patchOf n).counted x
  reports : t.reports = s.reports ∨ ∃ r : Report, r.ofBeat ∧ t.reports = s.reports ++ [r]

namespace State.Plays

theorem refl (h : s.click.limit = none) : s.Plays s :=
  ⟨rfl, rfl, ⟨_, rfl⟩, rfl, rfl, rfl, rfl, rfl, h, rfl, fun _ => .refl _, fun _ => .refl _, fun _ => .inl rfl, .inl rfl⟩

theorem produceBeat (h : s.click.limit = none) : s.Plays s.produceBeat := by
  cases hc : s.click.context with
  | none =>
    have same : s.produceBeat = s := by
      unfold State.produceBeat
      rw [hc]
    rw [same]
    exact refl h
  | some c =>
    cases hg : c.segment with
    | none =>
      have same : s.produceBeat = s := by
        unfold State.produceBeat
        rw [hc]
        dsimp only
        rw [hg]
      rw [same]
      exact refl h
    | some g =>
      rw [produceBeat_reports hc hg]
      have frame := s.beaten_frame c g
      have ports := s.beaten_ports c g
      have fed := s.beaten_fed c g
      have quiet := s.beaten_noPatch c g
      have patch := s.beaten_patchOf c g
      generalize s.beaten c g = v at *
      have limit : v.click.limit = none := (congrArg ClickEngine.limit frame.click).trans h
      have held : v.click.held = s.click.held := by
        rw [frame.click]
        rfl
      refine ⟨frame.time, frame.cue, ⟨_, frame.ctl⟩, frame.vin, frame.vout, ports.1, ports.2, frame.pending,
        limit, held, fed, quiet,
        fun n => .inr ⟨_, patch n⟩, ?_⟩
      unfold Context.barReports
      cases c.barReached g with
      | none => exact .inl (List.append_nil _)
      | some r => exact .inr ⟨_, .inr ⟨_, _, rfl⟩, rfl⟩

theorem placeTap_click (s : State) :
    ∃ e, s.placeTap = { s with click := e } ∧ e.limit = s.click.limit ∧ e.held = s.click.held := by
  unfold State.placeTap
  split
  · exact ⟨_, rfl, rfl, rfl⟩
  · split
    · exact ⟨_, rfl, rfl, rfl⟩
    · exact ⟨_, rfl, rfl, rfl⟩

theorem startSegment (h : s.click.limit = none) : s.Plays s.startSegment := by
  have entered : (s.mapClick ClickEngine.startSegment).click.limit = none ∧
      (s.mapClick ClickEngine.startSegment).click.held = s.click.held := by
    show s.click.startSegment.limit = none ∧ s.click.startSegment.held = s.click.held
    unfold ClickEngine.startSegment
    split
    · exact ⟨h, rfl⟩
    · exact ⟨h, rfl⟩
  have held : ∃ e x, (s.mapClick ClickEngine.startSegment).pullHold =
      { s with click := e, ctl := { s.ctl with holdPending := x } } ∧ e.limit = none ∧ e.held = s.click.held := by
    unfold State.pullHold
    split
    · exact ⟨_, s.ctl.holdPending, rfl, entered.1, entered.2⟩
    · exact ⟨_, _, rfl, entered.1, entered.2⟩
  obtain ⟨e, x, pulled, limit, heldE⟩ := held
  have free : (s.mapClick ClickEngine.startSegment).pullHold.pullLimit = { s with click := e, ctl := { s.ctl with holdPending := x } } := by
    rw [pulled]
    unfold State.pullLimit
    rw [show State.click { s with click := e, ctl := { s.ctl with holdPending := x } } = e from rfl, limit]
  unfold State.startSegment
  rw [free]
  obtain ⟨e', placed, limit', held'⟩ := placeTap_click { s with click := e, ctl := { s.ctl with holdPending := x } }
  rw [placed]
  exact ⟨rfl, rfl, ⟨_, rfl⟩, rfl, rfl, rfl, rfl, rfl, limit'.trans limit, held'.trans heldE, fun _ => .refl _,
    fun _ => .refl _, fun _ => .inl rfl, .inl rfl⟩

theorem runEngine (h : s.click.limit = none) : s.Plays s.runEngine := by
  unfold State.runEngine
  split
  · exact refl h
  · split
    · split
      · exact produceBeat h
      · exact { refl h with reports := .inr ⟨_, .inl rfl, rfl⟩ }
      · exact startSegment h
    · exact refl h

end State.Plays

/-! ## The reports of a beat taken (R36, R72) -/

/-- The report of a bar or of the map's end has been taken from `t` to `u`, and fires no cue. -/
structure State.Spends (t u : State) : Prop where
  time : u.time = t.time
  cue : u.cue = { t.cue with barMark := u.cue.barMark }
  ctl : u.ctl = t.ctl
  vin : u.vin = t.vin
  vout : u.vout = t.vout
  chan : u.chan = t.chan
  patches : u.patches = t.patches
  emitted : u.emitted = t.emitted
  pending : u.pending = t.pending
  limit : u.click.limit = t.click.limit
  held : u.click.held = t.click.held
  port : u.port = t.port ∨ ∃ x, u.port = t.port.offer x
  reports : u.reports = []
  stands : (∀ bar, t.cue.barCue bar = none) → u.cue = t.cue

theorem State.Spends.discardMap {e : Sample} (hr : s.reports = []) : s.Spends (s.discardMap e) := by
  cases hc : s.click.context with
  | none =>
    have same : s.discardMap e = s := by
      unfold State.discardMap
      rw [hc]
    rw [same]
    exact ⟨rfl, rfl, rfl, rfl, rfl, rfl, rfl, rfl, rfl, rfl, rfl, .inl rfl, hr, fun _ => rfl⟩
  | some c =>
    rw [State.discardMap_eq hc]
    exact ⟨rfl, rfl, rfl, rfl, rfl, rfl, rfl, rfl, rfl, rfl, rfl, .inr ⟨_, rfl⟩, hr, fun _ => rfl⟩

theorem State.Spends.takeReport {r : Report} (h : r.ofBeat) (hr : s.reports = [])
    (idle : s.ctl.state ≠ .running ∨ (s.cue.followCue = none ∧ ∀ bar, s.cue.barCue bar = none)) :
    s.Spends (s.takeReport r) := by
  have stands : s.Spends s := ⟨rfl, rfl, rfl, rfl, rfl, rfl, rfl, rfl, rfl, rfl, rfl, .inl rfl, hr, fun _ => rfl⟩
  rcases h with rfl | ⟨bar, pass, rfl⟩
  · unfold State.takeReport
    dsimp only
    split
    · rw [State.takeMapEnd_discards (idle.symm.imp And.left id)]
      exact .discardMap hr
    · exact stands
  · show s.Spends (s.takeBarReached bar)
    unfold State.takeBarReached
    split
    · exact stands
    next d hd =>
      dsimp only
      refine idle.elim (fun off => ?_) fun manual => ?_
      · rw [if_neg fun k => off k.1]
        refine ⟨rfl, rfl, rfl, rfl, rfl, rfl, rfl, rfl, rfl, rfl, rfl, .inl rfl, hr, fun none => ?_⟩
        rw [none bar] at hd
        cases hd
      · rw [manual.2 bar] at hd
        cases hd

/-- R73: the report of a beat settled. -/
theorem State.Spends.settleN {m : Nat} (h : t.reports = [] ∨ ∃ r : Report, r.ofBeat ∧ t.reports = [r])
    (idle : t.ctl.state ≠ .running ∨ (t.cue.followCue = none ∧ ∀ bar, t.cue.barCue bar = none)) :
    t.Spends (Machine.settleN (m + 1) t) := by
  rcases h with h | ⟨r, hr, h⟩
  · rw [settleN_nil h]
    exact ⟨rfl, rfl, rfl, rfl, rfl, rfl, rfl, rfl, rfl, rfl, rfl, .inl rfl, h, fun _ => rfl⟩
  · rw [settleN_cons h]
    have spends := takeReport (s := { t with reports := [] }) hr rfl idle
    generalize State.takeReport { t with reports := [] } r = u at spends
    rw [settleN_nil spends.reports]
    exact ⟨spends.time, spends.cue, spends.ctl, spends.vin, spends.vout, spends.chan, spends.patches, spends.emitted,
      spends.pending, spends.limit, spends.held, spends.port, spends.reports, spends.stands⟩

end Sys2Proof.Machine
end

section
/-! PROOFS. RESUME (O32). -/

namespace Sys2Proof.Machine

variable {s t v : State}

/-! ## The first static bar of a number (R45) -/

theorem staticBefore_succ {gs : List Segment} {i : Nat} {g : Segment} (h : gs[i]? = some g) :
    staticBefore gs (i + 1) = staticBefore gs i + g.staticBars := by
  unfold staticBefore
  obtain ⟨hi, rfl⟩ := List.getElem?_eq_some_iff.mp h
  rw [List.take_add_one, h, List.map_append, List.sum_append]
  simp

theorem findBar_found {target : Nat} {gs : List Segment} {i before : Nat} (hb : before < target)
    (ht : target ≤ before + (gs.map Segment.staticBars).sum) (hmax : target ≤ 9999) :
    ∃ j g, findBar target gs i before = some (i + j, target - 1 - (before + staticBefore gs j)) ∧ gs[j]? = some g ∧
      before + staticBefore gs j < target ∧ target ≤ before + staticBefore gs j + g.staticBars := by
  induction gs generalizing i before with
  | nil => exact absurd (Nat.lt_of_lt_of_le hb ht) (Nat.lt_irrefl _)
  | cons g gs ih =>
    unfold findBar
    by_cases here : target ≤ before + g.staticBars
    · have found : ((List.range g.staticBars).find? fun b => decide (min Config.barNumberMax (before + b + 1) = target)) =
          some (target - 1 - before) := by
        rw [List.find?_range_eq_some]
        simp only [Config.barNumberMax, decide_eq_true_eq, List.mem_range, Bool.not_eq_true', decide_eq_false_iff_not]
        refine ⟨by omega, by omega, fun j hj => by omega⟩
      rw [found]
      exact ⟨0, g, rfl, rfl, hb, here⟩
    · have none : ((List.range g.staticBars).find? fun b => decide (min Config.barNumberMax (before + b + 1) = target)) =
          none := by
        rw [List.find?_range_eq_none]
        simp only [Config.barNumberMax, Bool.not_eq_true', decide_eq_false_iff_not]
        intro j hj
        omega
      rw [none]
      rw [List.map_cons, List.sum_cons] at ht
      obtain ⟨j, h, e, hj, low, high⟩ := ih (i := i + 1) (before := before + g.staticBars) (by omega) (by omega)
      have next : staticBefore (g :: gs) (j + 1) = g.staticBars + staticBefore gs j := by
        simp [staticBefore]
      refine ⟨j + 1, h, ?_, hj, by omega, by omega⟩
      rw [next, ← Nat.add_assoc before]
      refine e.trans ?_
      rw [Nat.add_right_comm i 1 j]
      rfl

/-! ## The position of a target bar (R45) -/

section
variable {gs : List Segment} {n b l : Nat} {y : Sample}

theorem lastBar_eq (gs : List Segment) :
    lastBar gs =
      if (gs.take (reachableCount gs)).any Segment.isStatic then
        some (min 9999 (((gs.take (reachableCount gs)).map Segment.staticBars).sum))
      else none := rfl

/-- R22: a map that starts with a FREE segment has no last bar. -/
theorem lastBar_free {g : Segment} (h : gs.head? = some g) (hk : g.kind = .free) : lastBar gs = none := by
  obtain ⟨rest, rfl⟩ : ∃ rest, gs = g :: rest := List.head?_eq_some_iff.mp h
  have one : reachableCount (g :: rest) = 1 := if_pos (.inl hk)
  rw [lastBar_eq, one, if_neg]
  simp [Segment.isStatic, hk]

theorem lastBar_nil : lastBar [] = none := rfl

/-- R22: where every static segment has a bar, the last bar is at least 1 and within the static bars. -/
theorem lastBar_bounds (h : lastBar gs = some l) (hbars : ∀ g ∈ gs, g.isStatic = true → ∃ m, g.bars = some (m + 1)) :
    1 ≤ l ∧ l ≤ 9999 ∧ l ≤ (gs.map Segment.staticBars).sum := by
  rw [lastBar_eq] at h
  split at h
  next any =>
    obtain ⟨g, hg, static⟩ := List.any_eq_true.mp any
    obtain ⟨m, hm⟩ := hbars g (List.mem_of_mem_take hg) static
    have bar : 1 ≤ g.staticBars := by
      unfold Segment.staticBars
      unfold Segment.isStatic at static
      cases hk : g.kind <;> simp [hk, hm] at static ⊢
    have one : g.staticBars ≤ (((gs.take (reachableCount gs)).map Segment.staticBars).sum) :=
      List.le_sum_of_mem (List.mem_map_of_mem hg)
    have all : (((gs.take (reachableCount gs)).map Segment.staticBars).sum) ≤ (gs.map Segment.staticBars).sum := by
      conv_rhs => rw [← List.take_append_drop (reachableCount gs) gs, List.map_append, List.sum_append]
      exact Nat.le_add_right _ _
    obtain rfl := Option.some.inj h
    omega
  next => cases h

/-- R45: the context of a RESUME at a bar the map has. -/
theorem Context.atBar_found (hb : 1 ≤ b) (hmax : b ≤ 9999) (ht : b ≤ (gs.map Segment.staticBars).sum) :
    ∃ i g, gs[i]? = some g ∧ g.isStatic = true ∧ min 9999 (staticBefore gs i) < b ∧
      b ≤ min 9999 (staticBefore gs (i + 1)) ∧
      Context.atBar n gs b y =
        { Context.start n gs i y with
          beatIndex := (b - 1 - staticBefore gs i) * g.beatsPerBar, bar := b
          tempo := g.tempoAt ((b - 1 - staticBefore gs i) * g.beatsPerBar) g.startTempo } := by
  obtain ⟨i, g, found, hi, low, high⟩ := findBar_found (target := b) (gs := gs) (i := 0) (before := 0) hb
    (by rwa [Nat.zero_add]) hmax
  rw [Nat.zero_add] at found low high
  rw [Nat.zero_add] at found
  have static : g.isStatic = true := by
    have some_ : g.staticBars ≠ 0 := by omega
    unfold Segment.staticBars at some_
    unfold Segment.isStatic
    cases hk : g.kind <;> simp [hk] at some_ ⊢
  have succ := staticBefore_succ hi
  refine ⟨i, g, hi, static, by omega, by omega, ?_⟩
  unfold atBar
  rw [found]
  dsimp only
  rw [hi]

end

/-! ## The patches of a RESUME (R97) -/

section
variable {n : Station} {target : Nat} {r : Sample}

/-- R97: the expected patch of a station rebuilt. -/
def State.called (s : State) (target : Nat) (n : Station) : Option Patch :=
  (patchUpTo s.cue.book.cues target n).or (s.patchOf n).expected

/-- R97: a RESUME sends a station its patch. -/
def State.recalls (s : State) (target : Nat) (n : Station) : Prop :=
  ((s.ch n).assigned.kind = .rig ∧ (s.ch n).assigned.role ≠ .unused) ∧ (s.ch n).link.state = .up ∧
    s.called target n ≠ none ∧ (s.patchOf n).confirmed ≠ s.called target n

/-- R97: the record of a station that a RESUME sends no patch. -/
def State.unrecalled (s : State) (target : Nat) (n : Station) : PatchRecord :=
  if (s.ch n).assigned.kind = .rig ∧ (s.ch n).assigned.role ≠ .unused then
    { s.patchOf n with
      expected := s.called target n
      entry := (s.patchOf n).entry.filter fun e =>
        decide ((s.ch n).link.state = .up ∧ s.called target n = some e.patch) }
  else s.patchOf n

theorem Channel.isRig_used {c : Channel} : c.isRig = true ↔ c.assigned.kind = .rig ∧ c.assigned.role ≠ .unused := by
  rw [Channel.isRig_iff, and_comm]
  refine and_congr_right fun _ => ?_
  cases c.assigned.role <;> simp

theorem patchResume_rig (rig : (s.ch n).isRig = true) :
    State.patchResume target r n s =
      match (s.called target n).filter fun x => (s.ch n).isUp && decide ((s.patchOf n).confirmed ≠ some x) with
      | some x => (s.setPatch n { s.patchOf n with expected := s.called target n }).sendPatch n x r false r
      | none => s.setPatch n (PatchRecord.settled { s.patchOf n with expected := s.called target n } (s.ch n).isUp) := by
  unfold State.patchResume
  rw [rig]
  rfl

theorem patchResume_sends {x : Patch} (hx : s.called target n = some x) (h : s.recalls target n) :
    State.patchResume target r n s =
      s.written n ((s.ch n).handed (.patch r x false (((s.patchOf n).serial + 1) % 256)))
        ((s.patchOf n).sent x r false r ((s.ch n).link.delay.getD 0 + 96)) s.port s.emitted := by
  obtain ⟨rig, up, -, known⟩ := h
  have isUp : (s.ch n).isUp = true := Channel.isUp_iff.mpr up
  rw [hx] at known
  have filter : (s.called target n).filter (fun x => (s.ch n).isUp && decide ((s.patchOf n).confirmed ≠ some x)) = some x := by
    rw [hx]
    simp [isUp, known]
  rw [patchResume_rig (Channel.isRig_used.mpr rig), filter]
  dsimp only
  rw [State.setPatch_written, State.written_sendPatch]
  rfl

theorem patchResume_stands (h : ¬ s.recalls target n) :
    State.patchResume target r n s = s.written n (s.ch n) (s.unrecalled target n) s.port s.emitted := by
  by_cases rig : (s.ch n).isRig = true
  · have filter : (s.called target n).filter (fun x => (s.ch n).isUp && decide ((s.patchOf n).confirmed ≠ some x)) = none := by
      rw [Option.filter_eq_none_iff]
      intro x hx sends
      rw [Bool.and_eq_true, Channel.isUp_iff, decide_eq_true_eq] at sends
      exact h ⟨Channel.isRig_used.mp rig, sends.1, by rw [hx]; exact nofun, by rw [hx]; exact sends.2⟩
    rw [patchResume_rig rig, filter, State.unrecalled, if_pos (Channel.isRig_used.mp rig)]
    dsimp only
    rw [State.setPatch_written]
    unfold PatchRecord.settled
    simp only [Channel.isUp, Bool.decide_and]
  · rw [State.unrecalled, if_neg (mt Channel.isRig_used.mpr rig), State.written_self]
    unfold State.patchResume
    rw [Bool.eq_false_iff.mpr rig]
    rfl

end

/-- R97: the parts a RESUME leaves of a station, before the engine plays on. -/
structure State.Recalled (s v : State) (target : Nat) (r : Sample) : Prop where
  fed : ∀ n, (s.ch n).fedTo (v.ch n)
  sent : ∀ n x, s.called target n = some x → s.recalls target n →
    v.patchOf n = (s.patchOf n).sent x r false r ((s.ch n).link.delay.getD 0 + 96)
  stands : ∀ n, ¬ s.recalls target n → (s.ch n).noPatch (v.ch n) ∧ v.patchOf n = s.unrecalled target n

theorem State.patchesResumed (s : State) (target : Nat) (r : Sample) :
    s.Recalled (forAll (State.patchResume target r) s) target r where
  fed n := by
    rw [forAll_ch fun m => ActsOn.patchResume (n := m) target r]
    by_cases h : s.recalls target n
    · obtain ⟨x, hx⟩ := Option.ne_none_iff_exists'.mp h.2.2.1
      rw [patchResume_sends hx h, written_ch]
      exact .handed _ _
    · rw [patchResume_stands h, written_ch]
      exact .refl _
  sent n x hx h := by
    rw [forAll_patchOf fun m => ActsOn.patchResume (n := m) target r, patchResume_sends hx h, written_patchOf]
  stands n h := by
    rw [forAll_ch fun m => ActsOn.patchResume (n := m) target r, forAll_patchOf fun m => ActsOn.patchResume (n := m) target r,
      patchResume_stands h, written_ch, written_patchOf]
    exact ⟨.refl _, rfl⟩

/-- R97: what the lamps change of a station is not what a RESUME reads. -/
theorem State.Recalled.of_fed {u v : State} {target : Nat} {r : Sample} (book : u.cue.book = s.cue.book)
    (patches : ∀ n, u.patchOf n = s.patchOf n) (fed : ∀ n, (s.ch n).fedTo (u.ch n)) (quiet : ∀ n, (s.ch n).noPatch (u.ch n))
    (h : u.Recalled v target r) : s.Recalled v target r := by
  have assigned (n : Station) : (u.ch n).assigned = (s.ch n).assigned := by rw [(fed n).1]
  have state (n : Station) : (u.ch n).link.state = (s.ch n).link.state := by rw [(fed n).1]
  have delay (n : Station) : (u.ch n).link.delay = (s.ch n).link.delay := by rw [(fed n).1]
  have called (n : Station) : u.called target n = s.called target n := by
    unfold called
    rw [book, patches]
  have recalls (n : Station) : u.recalls target n ↔ s.recalls target n := by
    unfold recalls
    rw [assigned, state, called, patches]
  have unrecalled (n : Station) : u.unrecalled target n = s.unrecalled target n := by
    unfold unrecalled
    rw [assigned, state, called, patches]
  refine ⟨fun n => (fed n).trans (h.fed n), fun n x hx hs => ?_, fun n hs => ?_⟩
  · rw [h.sent n x ((called n).trans hx) ((recalls n).mpr hs), patches, delay]
  · obtain ⟨noPatch, record⟩ := h.stands n (mt (recalls n).mp hs)
    exact ⟨(quiet n).trans noPatch, record.trans (unrecalled n)⟩

/-! ## RESUME taken (R116) -/

/-- R116: everything of a RESUME before the engine's part. -/
def State.resumed (s : State) (c : Cue) (map : Option Nat) (bar : Nat) : State :=
  let u := s.mapCtl fun x =>
    { x with
      stopRecord := x.stopRecord.map fun r => r.resumed ⟨s.time.S, c.number, bar, map⟩
      state := .resuming }
  forAll (State.patchResume c.number s.horizon) (u.stopLamps.resumeCues c)

structure State.ResumedTo (s v : State) (c : Cue) (map : Option Nat) (bar : Nat) : Prop where
  time : v.time = s.time
  click : v.click = s.click
  vin : v.vin = s.vin
  vout : v.vout = s.vout
  reports : v.reports = s.reports
  emitted : v.emitted = s.emitted
  pending : v.pending = s.pending
  port : v.port = s.port
  ctl : v.ctl =
    { s.ctl with
      stopRecord := s.ctl.stopRecord.map fun r => r.resumed ⟨s.time.S, c.number, bar, map⟩
      state := .resuming }
  cue : v.cue =
    { s.cue with
      running := some ⟨c.number, c.label, c.text, s.time.S + 4800⟩
      standby := s.cue.book.numberAfter c.number, warned := s.cue.book.numberAfter c.number
      barMark := s.cue.book.isAtBar (s.cue.book.numberAfter c.number) }
  recalled : s.Recalled v c.number (s.time.S + 4800)

/-- R78: the Cue Engine's part of a RESUME. -/
theorem State.resumeCues_becomes (s : State) (c : Cue) :
    s.Becomes (s.resumeCues c)
      { s.cue with
        running := some ⟨c.number, c.label, c.text, s.time.S + 4800⟩
        standby := s.cue.book.numberAfter c.number, warned := s.cue.book.numberAfter c.number
        barMark := s.cue.book.isAtBar (s.cue.book.numberAfter c.number) }
      s.ctl s.port fun n =>
        (s.ch n).warnSet (s.cue.book.warnList s.cue.warned) (s.cue.book.warnList (s.cue.book.numberAfter c.number)) n
          s.time.S :=
  ((Becomes.mapCue s _).trans (.setStandby _ _)).trans (.setWarned _ _ _)

theorem State.resumed_to (s : State) (c : Cue) (map : Option Nat) (bar : Nat) :
    s.ResumedTo (s.resumed c map bar) c map bar := by
  unfold resumed
  dsimp only
  have lamps := Becomes.stopLamps (s.mapCtl fun x =>
    { x with
      stopRecord := x.stopRecord.map fun r => r.resumed ⟨s.time.S, c.number, bar, map⟩
      state := .resuming })
  generalize State.stopLamps _ = w at lamps ⊢
  have cues := w.resumeCues_becomes c
  generalize w.resumeCues c = u at cues ⊢
  have patches := u.patchesResumed c.number s.horizon
  have frame := forAll_frame (fun n => ActsOn.patchResume (n := n) c.number s.horizon) u
  have ports := forAll_ports (patchResume_ports c.number s.horizon) u
  generalize forAll (State.patchResume c.number s.horizon) u = v at patches frame ports ⊢
  have wcue : w.cue = s.cue := lamps.cue
  have wtime : w.time = s.time := lamps.time
  have feeds (n : Station) : (s.ch n).fedTo (u.ch n) := by
    rw [cues.ch, lamps.ch]
    exact (Channel.fedTo.stopLampSet _ _ _).trans (.warnSet _ _ _ _ _)
  have quiet (n : Station) : (s.ch n).noPatch (u.ch n) := by
    rw [cues.ch, lamps.ch]
    exact (Channel.noPatch.stopLampSet _ _ _).trans (.warnSet _ _ _ _ _)
  refine ⟨frame.time.trans (cues.time.trans lamps.time), frame.click.trans (cues.click.trans lamps.click),
    frame.vin.trans (cues.vin.trans lamps.vin), frame.vout.trans (cues.vout.trans lamps.vout),
    frame.reports.trans (cues.reports.trans lamps.reports), ports.2.trans (cues.emitted.trans lamps.emitted),
    frame.pending.trans (cues.pending.trans lamps.pending), ports.1.trans (cues.port.trans lamps.port),
    frame.ctl.trans (cues.ctl.trans lamps.ctl), ?_, ?_⟩
  · refine (frame.cue.trans cues.cue).trans ?_
    rw [wcue, wtime]
  · refine patches.of_fed ?_ (fun n => ?_) feeds quiet
    · rw [cues.cue, wcue]
    · exact State.patchOf_congr (cues.patches.trans lamps.patches) n

/-! ## The engine's part (R45) -/

section
variable {n bar bars : Nat} {map : Option Nat}

theorem State.takeResume_eq (s : State) (c : Cue) (map : Option Nat) (bar bars : Nat) :
    s.takeResume c map bar bars =
      settle (((s.resumed c map bar).engineResume map bar bars).showNotice s.ctl.state .resume none) := rfl

/-- R45: without a last bar the engine returns at once. -/
theorem State.engineResume_atOnce (h : map.bind (fun n => lastBar (s.cue.book.segments n)) = none) :
    ∃ e : ClickEngine, s.engineResume map bar bars = State.report { s with click := e } (.resumeReached s.time.S) ∧
      e.limit = s.click.limit := by
  unfold engineResume
  cases map with
  | none => exact ⟨_, rfl, rfl⟩
  | some n =>
    have last : lastBar (s.cue.book.segments n) = none := h
    dsimp only [Option.map_some, Option.getD_some]
    cases (s.cue.book.segments n).head? with
    | none => exact ⟨_, rfl, rfl⟩
    | some g =>
      dsimp only
      split
      · exact ⟨_, rfl, rfl⟩
      · rw [last]
        exact ⟨_, rfl, rfl⟩

/-- R45: with a last bar the engine returns to the target bar. -/
theorem State.engineResume_returns {l : Nat} (h : lastBar (s.cue.book.segments n) = some l) :
    s.engineResume (some n) bar bars =
      (let k := (Context.atBar n (s.cue.book.segments n) bar (s.time.S + 4800)).returnAt (s.time.S + 4800) bars
       State.runEngine { s with click := s.click.forResume (some k) (some ⟨.resumed, k.mainOnset⟩) }) := by
  unfold engineResume
  dsimp only [Option.map_some, Option.getD_some]
  cases hg : (s.cue.book.segments n).head? with
  | none =>
    rw [List.head?_eq_none_iff.mp hg, lastBar_nil] at h
    cases h
  | some g =>
    dsimp only
    have free : g.kind ≠ .free := fun hk => by
      rw [lastBar_free hg hk] at h
      cases h
    rw [if_neg free, h]
    rfl

/-- R116: a resumption reached at once, with the notice of the RESUME before its own. -/
theorem settle_resumeReached (hr : s.reports = []) (hs : s.ctl.state = .resuming) (x : Sample) (w : Notice) :
    settle ((s.report (.resumeReached x)).offer w) =
      ((s.offer w).mapClick fun e => { e with reach := none }).changeShow .running .resumeReached (some x) := by
  have back : { (s.report (.resumeReached x)).offer w with reports := [] } = s.offer w := by
    rw [← hr]
    rfl
  refine settle_one (r := .resumeReached x) ?_ ?_ ?_
  · show s.reports ++ [Report.resumeReached x] = _
    rw [hr, List.nil_append]
  · rw [back]
    exact (s.offer w).resumeReached_eq x hs
  · exact (State.Becomes.changeShow _ _ _ _).reports.trans hr

/-- R116: what a RESUME leaves of the part whatever its map. -/
structure State.ResumeTaken (v t : State) : Prop where
  time : t.time = v.time
  cue : t.cue = { v.cue with barMark := t.cue.barMark }
  vin : t.vin = v.vin
  vout : t.vout = v.vout
  emitted : t.emitted = v.emitted
  pending : t.pending = v.pending
  fed : ∀ n, (v.ch n).fedTo (t.ch n)
  noPatch : ∀ n, (v.ch n).noPatch (t.ch n)
  patchOf : ∀ n, t.patchOf n = v.patchOf n ∨ ∃ x, t.patchOf n = (v.patchOf n).counted x
  reports : t.reports = []

theorem State.engineResume_cases (s : State) (map : Option Nat) (bar bars : Nat) :
    ∃ e : ClickEngine, e.limit = s.click.limit ∧
      (s.engineResume map bar bars = State.report { s with click := e } (.resumeReached s.time.S) ∨
        s.engineResume map bar bars = State.runEngine { s with click := e }) := by
  cases h : map.bind (fun n => lastBar (s.cue.book.segments n)) with
  | none =>
    obtain ⟨e, he, limit⟩ := engineResume_atOnce (bar := bar) (bars := bars) h
    exact ⟨e, limit, .inl he⟩
  | some l =>
    obtain ⟨n, rfl, last⟩ := Option.bind_eq_some_iff.mp h
    let k := (Context.atBar n (s.cue.book.segments n) bar (s.time.S + 4800)).returnAt (s.time.S + 4800) bars
    exact ⟨s.click.forResume (some k) (some ⟨.resumed, k.mainOnset⟩), rfl, .inr (engineResume_returns last)⟩

theorem State.resumeTaken (hr : s.reports = []) (hs : s.ctl.state = .resuming) (hl : s.click.limit = none)
    (before : ShowState) :
    s.ResumeTaken (settle ((s.engineResume map bar bars).showNotice before .resume none)) := by
  obtain ⟨e, limit, he | he⟩ := s.engineResume_cases map bar bars
  · rw [he]
    have reached := settle_resumeReached (s := { s with click := e }) hr hs s.time.S
      (.showState before .resuming .resume s.time.S none)
    have notice : State.showNotice (State.report { s with click := e } (.resumeReached s.time.S)) before .resume none =
        State.offer (State.report { s with click := e } (.resumeReached s.time.S))
          (.showState before .resuming .resume s.time.S none) :=
      congrArg (fun x => State.offer (State.report { s with click := e } (.resumeReached s.time.S))
        (.showState before x .resume s.time.S none)) hs
    rw [notice, reached]
    have changed := State.Becomes.changeShow
      ((State.offer { s with click := e } (.showState before .resuming .resume s.time.S none)).mapClick fun e =>
        { e with reach := none }) .running .resumeReached (some s.time.S)
    generalize State.changeShow _ .running .resumeReached (some s.time.S) = t at changed ⊢
    refine ⟨changed.time, ?_, changed.vin, changed.vout, changed.emitted, changed.pending, fun n => ?_, fun n => ?_,
      fun n => .inl (State.patchOf_congr changed.patches n), changed.reports.trans hr⟩
    · rw [changed.cue]
      rfl
    · rw [changed.ch]
      exact .stopLampSet _ _ _
    · rw [changed.ch]
      exact .stopLampSet _ _ _
  · rw [he]
    have plays := State.Plays.runEngine (s := { s with click := e }) (limit.trans hl)
    generalize State.runEngine { s with click := e } = w at plays ⊢
    obtain ⟨x, ctl⟩ := plays.ctl
    have state : w.ctl.state = .resuming := by
      rw [ctl]
      exact hs
    have reports : (w.showNotice before .resume none).reports = [] ∨
        ∃ r : Report, r.ofBeat ∧ (w.showNotice before .resume none).reports = [r] := by
      rcases plays.reports with h | ⟨r, of, h⟩
      · exact .inl (h.trans hr)
      · exact .inr ⟨r, of, h.trans (by show s.reports ++ [r] = [r]; rw [hr]; rfl)⟩
    have spends := State.Spends.settleN (m := 8191) reports (.inl (by
      show w.ctl.state ≠ .running
      rw [state]
      exact nofun))
    unfold settle settleLimit
    generalize Machine.settleN 8192 (w.showNotice before .resume none) = t at spends ⊢
    have ch (n : Station) : t.ch n = w.ch n := State.ch_congr spends.chan n
    have patch (n : Station) : t.patchOf n = w.patchOf n := State.patchOf_congr spends.patches n
    refine ⟨spends.time.trans plays.time, ?_, spends.vin.trans plays.vin, spends.vout.trans plays.vout,
      spends.emitted.trans plays.emitted, spends.pending.trans plays.pending, fun n => ?_, fun n => ?_, fun n => ?_,
      spends.reports⟩
    · refine spends.cue.trans ?_
      show ({ w.cue with barMark := t.cue.barMark } : CueEngine) = _
      rw [plays.cue]
    · rw [ch]
      exact plays.fed n
    · rw [ch]
      exact plays.noPatch n
    · rw [patch]
      exact plays.patchOf n

/-- R89: a patch sent counts no beats. -/
theorem PatchRecord.sent_counted (p : PatchRecord) (x : Patch) (due : Sample) (force : Bool) (cp : Sample) (lead : Nat)
    (y : Sample) : (p.sent x due force cp lead).counted y = p.sent x due force cp lead := rfl

theorem Segment.tempoAt_static {g : Segment} (h : g.isStatic = true) (i t u : Nat) : g.tempoAt i t = g.tempoAt i u := by
  unfold Segment.tempoAt
  unfold Segment.isStatic at h
  cases hk : g.kind <;> simp [hk] at h ⊢

/-- R116: a RESUME without a last bar. -/
theorem State.resumeTaken_atOnce (hr : s.reports = []) (hs : s.ctl.state = .resuming)
    (h : map.bind (fun n => lastBar (s.cue.book.segments n)) = none) (before : ShowState) :
    (settle ((s.engineResume map bar bars).showNotice before .resume none)).ctl = { s.ctl with state := .running } ∧
      (settle ((s.engineResume map bar bars).showNotice before .resume none)).port =
        (s.port.offer (.showState before .resuming .resume s.time.S none)).offer
          (.showState .resuming .running .resumeReached s.time.S (some s.time.S)) ∧
      (settle ((s.engineResume map bar bars).showNotice before .resume none)).patches = s.patches := by
  obtain ⟨e, he, -⟩ := engineResume_atOnce (bar := bar) (bars := bars) h
  have reached := settle_resumeReached (s := { s with click := e }) hr hs s.time.S
    (.showState before .resuming .resume s.time.S none)
  have notice : State.showNotice (State.report { s with click := e } (.resumeReached s.time.S)) before .resume none =
      State.offer (State.report { s with click := e } (.resumeReached s.time.S))
        (.showState before .resuming .resume s.time.S none) :=
    congrArg (fun x => State.offer (State.report { s with click := e } (.resumeReached s.time.S))
      (.showState before x .resume s.time.S none)) hs
  rw [he, notice, reached]
  have changed := State.Becomes.changeShow
    ((State.offer { s with click := e } (.showState before .resuming .resume s.time.S none)).mapClick fun e =>
      { e with reach := none }) .running .resumeReached (some s.time.S)
  refine ⟨changed.ctl, changed.port.trans ?_, changed.patches⟩
  exact congrArg (fun x => (s.port.offer (.showState before .resuming .resume s.time.S none)).offer
    (.showState x .running .resumeReached s.time.S (some s.time.S))) hs

/-- R45, R116: the engine resumed at bar `b` of a map with count-in `bars`. -/
structure State.ResumedAt (s t : State) (n b bars : Nat) (i : Nat) (g : Segment) (first : BeatRecord) (c : Context) :
    Prop where
  held : t.click.held = false
  release : t.click.release = false
  taps : t.click.taps = []
  kept : t.click.kept = [first]
  context : t.click.context = some c
  map : c.map = n
  segments : c.segments = s.cue.book.segments n
  reach : t.click.reach =
    some ⟨.resumed, s.time.S + 4800 + bars * g.beatsPerBar * beatPeriod first.tempo / 65536⟩
  onset : first.onset = s.time.S + 4800
  tempo : first.tempo = g.tempoAt ((b - 1 - staticBefore (s.cue.book.segments n) i) * g.beatsPerBar) g.startTempo
  main : bars = 0 → first.bar = (b : Int) ∧ first.beatInBar = 1 ∧ first.countdown = none
  countIn : bars ≠ 0 → first.bar = -(bars : Int) ∧ first.beatInBar = 1 ∧
    first.countdown = some (bars * g.beatsPerBar) ∧ c.segmentIndex = i ∧
    c.beatIndex = (b - 1 - staticBefore (s.cue.book.segments n) i) * g.beatsPerBar ∧ c.bar = b ∧ c.beatInBar = 1
  patchOf : ∀ m, t.patchOf m = (s.patchOf m).counted (s.time.S + 4800)
  ctl : t.ctl = s.ctl
  port : t.port = s.port.offer (.showState .stopped .resuming .resume s.time.S none)

theorem State.resumedAt {l : Nat} {b : Nat} (hr : s.reports = []) (hs : s.ctl.state = .resuming)
    (hl : s.click.limit = none) (hh : s.click.holdPoint = none) (last : lastBar (s.cue.book.segments n) = some l)
    (hb : 1 ≤ b) (hmax : b ≤ 9999) (ht : b ≤ ((s.cue.book.segments n).map Segment.staticBars).sum)
    (hbeats : ∀ g ∈ s.cue.book.segments n, 1 ≤ g.beatsPerBar) :
    ∃ i g first c, (s.cue.book.segments n)[i]? = some g ∧ g.isStatic = true ∧
      min 9999 (staticBefore (s.cue.book.segments n) i) < b ∧
      b ≤ min 9999 (staticBefore (s.cue.book.segments n) (i + 1)) ∧
      s.ResumedAt (settle ((s.engineResume (some n) b bars).showNotice .stopped .resume none)) n b bars i g first c := by
  obtain ⟨i, g, hi, static, low, high, at_⟩ := Context.atBar_found (n := n) (y := s.time.S + 4800) hb hmax ht
  refine ⟨i, g, ?_⟩
  let beat := (b - 1 - staticBefore (s.cue.book.segments n) i) * g.beatsPerBar
  let p : Context :=
    { Context.start n (s.cue.book.segments n) i (s.time.S + 4800) with
      beatIndex := beat, bar := b, tempo := g.tempoAt beat g.startTempo }
  have hg : p.segment = some g := hi
  have hbeat : 1 ≤ g.beatsPerBar := hbeats g (List.mem_of_getElem? hi)
  have kind : g.kind = .metered ∨ g.kind = .vamp ∨ (g.kind = .tap ∧ p.tapPlaced = true) := by
    unfold Segment.isStatic at static
    cases hk : g.kind <;> simp [hk] at static ⊢
  have returns := engineResume_returns (bar := b) (bars := bars) last
  rw [at_] at returns
  let k := p.returnAt (s.time.S + 4800) bars
  let u : State := { s with click := s.click.forResume (some k) (some ⟨.resumed, k.mainOnset⟩) }
  have run : s.engineResume (some n) b bars = { u.beaten k g with reports := s.reports ++ k.barReports g } :=
    returns.trans (runEngine_returned (s := u) rfl hg kind rfl rfl hl hh)
  have first := Context.returnAt_first (x := s.time.S + 4800) (bars := bars) hg hbeat
  have frame := u.beaten_frame k g
  have ports := u.beaten_ports k g
  have patch := u.beaten_patchOf k g
  rw [hr] at run
  rw [run]
  generalize u.beaten k g = v at *
  have state : v.ctl.state = .resuming := (congrArg ShowControl.state frame.ctl).trans hs
  obtain ⟨mark, settled, -⟩ := settle_bar_idle (c := k) (g := g)
    (t := State.showNotice { v with reports := [] ++ k.barReports g } .stopped .resume none) (List.nil_append _) (by
      show v.ctl.state ≠ .running
      rw [state]
      exact nofun)
  rw [settled]
  have tempo : (k.record g).tempo = g.tempoAt beat g.startTempo := first.tempo.trans (Segment.tempoAt_static static _ _ _)
  obtain ⟨mapped, segments⟩ := k.advance_map false
  have same : k.map = n ∧ k.segments = s.cue.book.segments n := by
    show (p.returnAt (s.time.S + 4800) bars).map = n ∧ (p.returnAt (s.time.S + 4800) bars).segments = _
    rw [Context.returnAt_eq hg]
    exact ⟨rfl, rfl⟩
  have click : v.click = u.click.afterBeat k g := frame.click
  refine ⟨k.record g, { (k.advance false).1 with lastOnset := some (k.record g).onset, muteFirst := false }, hi, static,
    low, high, ?_⟩
  constructor
  case held => exact congrArg ClickEngine.held click
  case release => exact congrArg ClickEngine.release click
  case taps => exact (congrArg ClickEngine.taps click).trans (ite_self _)
  case kept => exact congrArg ClickEngine.kept click
  case context => exact congrArg ClickEngine.context click
  case map => exact mapped.trans same.1
  case segments => exact segments.trans same.2
  case reach =>
    refine (congrArg ClickEngine.reach click).trans ?_
    show some (Reach.mk .resumed k.mainOnset) = _
    rw [first.tempo, Context.returnAt_mainOnset hg hbeat]
  case onset => exact first.onset
  case tempo => exact tempo
  case main => exact first.main
  case countIn =>
    intro h
    obtain ⟨bar, one, -, countdown⟩ := first.countIn h
    have move : k.advance false =
        ({ k with acc := k.acc + beatPeriod (g.tempoAt p.beatIndex p.tempo), tempo := g.tempoAt p.beatIndex p.tempo
                  countIn := CountIn.next ⟨bars * g.beatsPerBar, bars, 1, g.tempoAt p.beatIndex p.tempo⟩ g.beatsPerBar },
          false) := by
      refine Context.advance_countIn (Context.returnAt_segment hg) ?_
      show (p.returnAt (s.time.S + 4800) bars).countIn = _
      rw [Context.returnAt_eq hg]
      exact countInOf_some h hbeat
    have position : k.segmentIndex = i ∧ k.beatIndex = beat ∧ k.bar = b ∧ k.beatInBar = 1 := by
      show (p.returnAt (s.time.S + 4800) bars).segmentIndex = i ∧ (p.returnAt (s.time.S + 4800) bars).beatIndex = beat ∧
        (p.returnAt (s.time.S + 4800) bars).bar = b ∧ (p.returnAt (s.time.S + 4800) bars).beatInBar = 1
      rw [Context.returnAt_eq hg]
      exact ⟨rfl, rfl, rfl, rfl⟩
    rw [move]
    exact ⟨bar, one, countdown, position⟩
  case patchOf =>
    intro m
    refine (patch m).trans ?_
    rw [first.onset]
    rfl
  case ctl => exact frame.ctl
  case port =>
    show v.port.offer (.showState .stopped v.ctl.state .resume v.time.S none) = _
    rw [ports.1, state, frame.time]
    rfl

end

/-! ## The request (R115) -/

section
variable {tag cue bar k : Nat} {c : Cue}

theorem actResume_refused (h : s.ctl.state ≠ .stopped) : actResume cue bar k s = refuse s .wrongState := if_pos h

theorem actResume_stopped (h : s.ctl.state = .stopped) :
    actResume cue bar k s =
      if s.ctl.holdsBack then refuse s .stopAsserted
      else
        match s.cue.book.cue? cue with
        | none => refuse s .notFound
        | some c =>
          (s.takeResume c (s.cue.book.mapUsed c)
              (clampBar ((s.cue.book.mapUsed c).bind fun n => lastBar (s.cue.book.segments n)) bar) (min 4 k),
            .ok (decide (4 < k) || decide
                (clampBar ((s.cue.book.mapUsed c).bind fun n => lastBar (s.cue.book.segments n)) bar ≠ bar))
              (.resume (s.time.S + 4800) (s.cue.book.mapUsed c)
                (clampBar ((s.cue.book.mapUsed c).bind fun n => lastBar (s.cue.book.segments n)) bar) (min 4 k))) :=
  if_neg (not_not.mpr h)

theorem exec_resume (hadm : s.admits tag) (h : s.ctl.state = .stopped)
    (hb : ¬ (s.ctl.lineMode = .level ∧ (s.ctl.qualifier = .qualified ∨ s.ctl.qualifier = .releasing)))
    (hc : s.cue.book.cue? cue = some c) {map : Option Nat} (hmap : map = s.cue.book.mapUsed c) {b : Nat}
    (hbar : b = clampBar (map.bind fun n => lastBar (s.cue.book.segments n)) bar) :
    exec (.resume tag cue bar k) s =
      .next ((s.taken.takeResume c map b (min 4 k)).replied 0x24 tag
        (.ok (decide (4 < k) || decide (b ≠ bar)) (.resume (s.time.S + 4800) map b (min 4 k)))) := by
  have act := actResume_stopped (cue := cue) (bar := bar) (k := k) (s.taken_ctl_state.trans h)
  rw [s.taken_holdsBack, if_neg (mt ShowControl.holdsBack_iff.mp hb), s.taken_book, hc] at act
  dsimp only at act
  rw [← hmap, ← hbar, s.taken_time] at act
  exact exec_request_replied (i := .resume tag cue bar k) rfl rfl hadm act nofun

end

/-- Settles O32: what comes before the engine's part by `resumed_to`; then a return at once, or the first beat of the
target bar or of the count-in into it. -/
theorem resumeRequestsJudged : Obligations.ResumeRequestsJudged := by
  intro s tag cue bar k hadm hr holdsBack call
  refine ⟨fun h => ?_, fun h hb => ?_, fun h hb hc => ?_, fun c record h hb hc hrec hl hh => ?_⟩
  · exact exec_refused (i := .resume tag cue bar k) rfl rfl hadm (actResume_refused (by rwa [s.taken_ctl_state]))
  · refine exec_refused (i := .resume tag cue bar k) rfl rfl hadm
      ((actResume_stopped (s.taken_ctl_state.trans h)).trans (if_pos ?_))
    rw [s.taken_holdsBack]
    exact ShowControl.holdsBack_iff.mpr hb
  · refine exec_refused (i := .resume tag cue bar k) rfl rfl hadm
      ((actResume_stopped (s.taken_ctl_state.trans h)).trans ((if_neg ?_).trans ?_))
    · rw [s.taken_holdsBack]
      exact mt ShowControl.holdsBack_iff.mp hb
    · rw [s.taken_book, hc]
  · intro r bars map last b next filled reply notice rig called sends unsent
    refine ⟨fun n hm => ?_, fun hm => ?_, ?_⟩
    · show s.cue.book.mapUsed c = some n
      unfold Book.mapUsed
      rw [hm]
    · show s.cue.book.mapUsed c = none
      unfold Book.mapUsed
      rw [hm]
    have bar_ : b = clampBar last bar := by
      show (match last with | some l => min l (max 1 bar) | none => bar) = _
      cases last <;> rfl
    have run := exec_resume (bar := bar) (k := k) hadm h hb hc (map := map) rfl bar_
    have before := s.taken.resumed_to c map b
    have eq := s.taken.takeResume_eq c map b bars
    generalize s.taken.resumed c map b = v at before eq
    have recalled : s.Recalled v c.number (s.time.S + 4800) := by
      rw [← s.taken_time]
      refine before.recalled.of_fed s.taken_book s.taken_patchOf (fun n => ?_) fun n => ?_
      · rw [s.taken_ch]
        exact .refl _
      · rw [s.taken_ch]
        exact .refl _
    have reports : v.reports = [] := before.reports.trans (s.taken_reports.trans hr)
    have state : v.ctl.state = .resuming := by rw [before.ctl]
    have click : v.click = s.click := before.click.trans s.taken_click
    have taken := State.resumeTaken (s := v) (map := map) (bar := b) (bars := bars) reports state (by rwa [click])
      s.taken.ctl.state
    have book : v.cue.book = s.cue.book := by
      rw [before.cue]
      exact s.taken_book
    have atOnce (h : last = none) := State.resumeTaken_atOnce (s := v) (map := map) (bar := b) (bars := bars) reports state
      (by rwa [book]) s.taken.ctl.state
    rw [← eq] at taken atOnce
    have ctl : v.ctl = { s.taken.ctl with state := .resuming, stopRecord := some filled } := by
      rw [before.ctl, s.taken_stopRecord, hrec, s.taken_time]
      rfl
    have stopped : s.taken.ctl.state = .stopped := s.taken_ctl_state.trans h
    refine ⟨_, run, ?_, fun n x hx hs => ?_, fun n hs => ⟨?_, fun hlast => ?_⟩, fun n => ?_, fun hlast => ⟨?_, ?_⟩,
      fun l n hlast hmap hgs => ?_, taken.time.trans (before.time.trans s.taken_time),
      taken.vin.trans (before.vin.trans s.taken_vin), taken.vout.trans (before.vout.trans s.taken_vout), taken.reports,
      taken.emitted.trans (before.emitted.trans s.taken_emitted),
      taken.pending.trans (before.pending.trans s.taken_pending)⟩
    · refine taken.cue.trans ?_
      rw [before.cue, s.taken_book, s.taken_time]
      rfl
    · have sent := recalled.sent n x hx hs
      rcases taken.patchOf n with same | ⟨y, same⟩
      · exact same.trans sent
      · refine same.trans ?_
        rw [sent]
        rfl
    · exact (recalled.stands n hs).1.trans (taken.noPatch n)
    · exact (State.patchOf_congr (atOnce hlast).2.2 n).trans (recalled.stands n hs).2
    · exact (recalled.fed n).trans (taken.fed n)
    · refine (atOnce hlast).1.trans ?_
      rw [ctl]
    · have port := (atOnce hlast).2.1
      rw [before.port, before.time, s.taken_time, stopped] at port
      exact congrArg (fun q : ControlPort => (q.answer reply).arbitrate) port
    · have bar_l : b = min l (max 1 bar) := by
        rw [bar_, hlast]
        rfl
      have last_ : lastBar (s.cue.book.segments n) = some l := by
        have := hlast
        simpa only [last, hmap, Option.bind_some] using this
      obtain ⟨one, most, sum⟩ := lastBar_bounds last_ fun g hg => (hgs g hg).2
      have at_ := State.resumedAt (s := v) (n := n) (bars := bars) (b := b) reports state (by rwa [click]) (by rwa [click])
        (by rwa [book]) (by omega) (by omega) (by rw [book]; omega) (by rw [book]; exact fun g hg => (hgs g hg).1)
      rw [← hmap, ← stopped, ← eq, book] at at_
      obtain ⟨i, g, first, c2, hi, static, low, high, resumed⟩ := at_
      have time : v.time = s.time := before.time.trans s.taken_time
      refine ⟨?_, ?_, resumed.held, resumed.release, resumed.taps, fun m hs => ?_, first, i, g, c2, hi, static, low, high,
        resumed.kept, ?_, ?_, resumed.context, resumed.map, ?_, ?_, resumed.main, ?_⟩
      · exact resumed.ctl.trans ctl
      · have port := resumed.port
        rw [before.port, before.time, s.taken_time] at port
        exact congrArg (fun q : ControlPort => (q.answer reply).arbitrate) port
      · refine (resumed.patchOf m).trans ?_
        rw [(recalled.stands m hs).2, time]
        rfl
      · rw [resumed.onset, time]
      · rw [resumed.tempo, book]
      · rw [resumed.segments, book]
      · refine resumed.reach.trans ?_
        rw [time]
      · have countIn := resumed.countIn
        rwa [book] at countIn

end Sys2Proof.Machine
end

section
/-! PROOFS. What firing a cue does before the reports of the act are taken (R68, R70, R103, R142). -/

namespace Sys2Proof.Machine

variable {s t u : State} {c : Cue}

/-! ## Notices (R173) -/

theorem ControlPort.offer_with_replies (p : ControlPort) (rs : List Reply) (x : Notice) :
    ControlPort.offer { p with replies := rs } x = { p.offer x with replies := rs } := by
  unfold offer
  dsimp only
  split
  · rfl
  · split <;> rfl

/-- R173: a notice whose kind is enabled and that finds room is placed last. -/
theorem ControlPort.offer_placed {p : ControlPort} {x : Notice} (hm : p.mask.getLsbD x.kind = true)
    (hn : p.notices.length < 32) : (p.offer x).notices = p.notices ++ [x] := by
  rcases p.offer_cases x with ⟨k, -⟩ | ⟨-, -, k⟩ | ⟨-, k, -⟩
  · rw [hm] at k
    cases k
  · rw [k]
  · exact absurd hn (Nat.not_lt.mpr k)

theorem ControlPort.offer_appends (p : ControlPort) (x : Notice) : ∃ rest, (p.offer x).notices = p.notices ++ rest := by
  rcases p.offer_cases x with ⟨-, k⟩ | ⟨-, -, k⟩ | ⟨-, -, k⟩ <;> rw [k]
  · exact ⟨[], (List.append_nil _).symm⟩
  · exact ⟨[x], rfl⟩
  · exact ⟨[], (List.append_nil _).symm⟩

theorem ControlPort.offer_length_le (p : ControlPort) (x : Notice) : (p.offer x).notices.length ≤ p.notices.length + 1 := by
  rcases p.offer_cases x with ⟨-, k⟩ | ⟨-, -, k⟩ | ⟨-, -, k⟩ <;> rw [k] <;> simp

/-! ## A cue fired (R70, R142) -/

/-- From `s` to `t` a cue has been fired: the cue engine, the click engine and the reports become these, every link test
is aborted, and of the rest only the replies change. -/
structure State.Fired (s t : State) (cue : CueEngine) (e : ClickEngine) (rs : List Report) : Prop where
  time : t.time = s.time
  click : t.click = e
  cue : t.cue = cue
  patches : t.patches = s.patches
  ctl : t.ctl = s.ctl
  ch : ∀ n, t.ch n = { s.ch n with link := { (s.ch n).link with test := none } }
  vin : t.vin = s.vin
  vout : t.vout = s.vout
  port : ∃ rs, t.port = { s.port with replies := rs }
  reports : t.reports = rs
  emitted : t.emitted = s.emitted
  pending : t.pending = s.pending

theorem State.Fired.mapCue {cue : CueEngine} {e : ClickEngine} {rs : List Report} (h : s.Fired t cue e rs)
    (f : CueEngine → CueEngine) : s.Fired (t.mapCue f) (f cue) e rs :=
  { h with cue := congrArg f h.cue }

theorem State.abortTests_fired (s : State) : s.Fired (forAll State.abortTest s) s.cue s.click s.reports := by
  have frame := forAll_frame (fun n => ActsOn.abortTest (n := n)) s
  have patches : (forAll State.abortTest s).patches = s.patches :=
    forAll_rel (fun a b => b.patches = a.patches) (fun _ => rfl) (fun _ _ _ h k => k.trans h) _
      (fun n a => by
        rw [abortTest_written]
        unfold written
        rw [State.setPatch_stands]
        rfl) s
  obtain ⟨rs, port⟩ := abortTests_port s
  exact ⟨frame.time, frame.click, frame.cue, patches, frame.ctl, abortTests_ch s, frame.vin, frame.vout, ⟨_, port⟩,
    frame.reports, abortTests_emitted s, frame.pending⟩

/-- R70: the standby after a firing. -/
def CueEngine.fired (k : CueEngine) (c : Cue) : CueEngine :=
  { k with standby := k.book.numberAfter c.number, barMark := k.book.isAtBar (k.book.numberAfter c.number) }

theorem State.fire_queued (source : GoSource) (bar : Option Nat) (h : s.cue.inFlight ≠ none) :
    s.Fired (s.fire c source bar) ({ s.cue with queued := some ⟨c.number, source, s.time.S, bar⟩ }.fired c) s.click
      s.reports := by
  have aborted := s.abortTests_fired
  unfold fire
  dsimp only
  generalize forAll State.abortTest s = v at aborted ⊢
  have held : ¬ v.cue.inFlight.isNone = true := by
    rw [aborted.cue]
    simpa using h
  rw [if_neg held]
  have queued := (aborted.mapCue fun x => { x with queued := some ⟨c.number, source, s.time.S, bar⟩ })
  have book : State.cue (v.mapCue fun x => { x with queued := some ⟨c.number, source, s.time.S, bar⟩ }) =
      { s.cue with queued := some ⟨c.number, source, s.time.S, bar⟩ } := queued.cue
  rw [book]
  exact queued.mapCue _

theorem State.fire_flies (source : GoSource) (bar : Option Nat) (h : s.cue.inFlight = none) :
    let x := s.click.changePoint (s.time.S + 4800) c.changeKind
    s.Fired (s.fire c source bar) ({ s.cue with inFlight := some ⟨⟨c.number, source, s.time.S, bar⟩, x⟩ }.fired c)
      (if s.time.S + 4800 < x then { s.click with limit := some x } else s.click)
      (if s.time.S + 4800 < x then s.reports else s.reports ++ [.changeDue]) := by
  intro x
  have aborted := s.abortTests_fired
  unfold fire
  dsimp only
  generalize forAll State.abortTest s = v at aborted ⊢
  have free : v.cue.inFlight.isNone = true := by
    rw [aborted.cue, h]
    rfl
  rw [if_pos free]
  unfold fly
  dsimp only
  have horizon : v.horizon = s.time.S + 4800 := by
    unfold State.horizon
    rw [aborted.time]
  have point : v.click.changePoint v.horizon c.changeKind = x := by
    rw [aborted.click, horizon]
  rw [point]
  have placed := aborted.mapCue fun k => { k with inFlight := some ⟨⟨c.number, source, s.time.S, bar⟩, x⟩ }
  unfold placeFlight
  have flown : s.Fired
      ((v.mapCue fun k => { k with inFlight := some ⟨⟨c.number, source, s.time.S, bar⟩, x⟩ }).setChangePoint x)
      { s.cue with inFlight := some ⟨⟨c.number, source, s.time.S, bar⟩, x⟩ }
      (if s.time.S + 4800 < x then { s.click with limit := some x } else s.click)
      (if s.time.S + 4800 < x then s.reports else s.reports ++ [.changeDue]) := by
    generalize v.mapCue (fun k => { k with inFlight := some ⟨⟨c.number, source, s.time.S, bar⟩, x⟩ }) = w at placed ⊢
    have horizon : w.horizon = s.time.S + 4800 := by
      unfold State.horizon
      rw [placed.time]
    unfold setChangePoint
    rw [horizon]
    split
    · exact { placed with click := congrArg (fun e : ClickEngine => { e with limit := some x }) placed.click }
    · exact { placed with reports := congrArg (· ++ [Report.changeDue]) placed.reports }
  rw [flown.cue]
  exact flown.mapCue _

/-! ## A call taken (R68, R70, R103) -/

/-- R103: the port after a call taken, before its replies: the first call of a show brings SHOW_STATE. -/
def State.begun (s : State) : ControlPort :=
  if s.ctl.state = .preshow then s.port.offer (.showState .preshow .running .firstGo s.time.S none) else s.port

/-- From `s` to `t` a call has been taken. -/
structure State.Called (s t : State) (cue : CueEngine) (e : ClickEngine) (rs : List Report) : Prop where
  time : t.time = s.time
  click : t.click = e
  cue : t.cue = cue
  patches : t.patches = s.patches
  state : t.ctl.state = .running
  tests : ∀ n, (t.ch n).link.test = none
  vin : t.vin = s.vin
  vout : t.vout = s.vout
  port : ∃ rs, t.port = { s.begun with replies := rs }
  reports : t.reports = rs
  emitted : t.emitted = s.emitted
  pending : t.pending = s.pending

theorem Channel.fedTo.test {c d : Channel} (h : c.fedTo d) : d.link.test = c.link.test := by rw [h.1]

theorem State.takeCall_called {source : GoSource} {cue : CueEngine} {e : ClickEngine} {rs : List Report} (h : s.callsOpen)
    (fired : s.Fired (s.fire c source none) cue e rs) :
    s.Called (s.takeCall c source) { cue with lockoutEnd := some (s.time.S + 48 * cue.lockoutMs) } e rs := by
  unfold takeCall
  generalize s.fire c source none = v at fired ⊢
  have locked : s.Fired v.setLockout { cue with lockoutEnd := some (s.time.S + 48 * cue.lockoutMs) } e rs := by
    have set := fired.mapCue fun k => { k with lockoutEnd := some (v.time.S + 48 * k.lockoutMs) }
    rw [fired.time] at set
    rw [← fired.time] at set ⊢
    exact set
  generalize v.setLockout = w at locked ⊢
  obtain ⟨rs', port⟩ := locked.port
  unfold firstGo
  rcases h with pre | run
  · have state : w.ctl.state = .preshow := by rw [locked.ctl, pre]
    rw [if_pos state]
    have changed := Becomes.changeShow w .running .firstGo none
    generalize w.changeShow .running .firstGo none = x at changed ⊢
    refine ⟨changed.time.trans locked.time, changed.click.trans locked.click, changed.cue.trans locked.cue,
      changed.patches.trans locked.patches, ?_, fun n => ?_, changed.vin.trans locked.vin, changed.vout.trans locked.vout,
      ⟨rs', ?_⟩, changed.reports.trans locked.reports, changed.emitted.trans locked.emitted,
      changed.pending.trans locked.pending⟩
    · rw [changed.ctl]
    · rw [changed.ch, (Channel.fedTo.stopLampSet _ _ _).test, locked.ch]
    · rw [changed.port, port, state, locked.time, ControlPort.offer_with_replies, begun, if_pos pre]
  · have state : ¬ w.ctl.state = .preshow := by
      rw [locked.ctl, run]
      exact nofun
    rw [if_neg state]
    refine ⟨locked.time, locked.click, locked.cue, locked.patches, (congrArg ShowControl.state locked.ctl).trans run,
      fun n => ?_, locked.vin, locked.vout, ⟨rs', ?_⟩, locked.reports, locked.emitted, locked.pending⟩
    · rw [locked.ch]
    · rw [port, begun, if_neg (by rw [run]; exact nofun)]

end Sys2Proof.Machine
end

section
/-! PROOFS. The hand-over of the cue in flight, step by step (R73, R75). -/

namespace Sys2Proof.Machine

variable {s t u v : State} {c : Cue} {f : Flight}

/-! ## A standby that no report fires (R71, R72) -/

theorem CueEngine.idle_of_manual {k : CueEngine} (h : ∀ d, k.standby.bind k.book.cue? = some d → d.goMode = .manual) :
    k.followCue = none ∧ ∀ bar, k.barCue bar = none := by
  unfold followCue barCue
  cases hd : k.standby.bind k.book.cue? with
  | none => exact ⟨rfl, fun bar => ite_self _⟩
  | some d =>
    have manual := h d hd
    refine ⟨?_, fun bar => ?_⟩
    · simp [manual]
    · split
      · simp [manual]
      · rfl

/-! ## The engine's part (R35, R41) -/

/-- R35, R41: a pending hold point found again, with the record of it. -/
theorem State.rehold_eq (s : State) (c0 : Sample) :
    let x := ClickEngine.holdPointAt { s.click with limit := none, holdPoint := none } c0
    s.rehold c0 =
      { s with
        click := { s.click with holdPoint := s.click.holdPoint.map fun _ => x }
        ctl := { s.ctl with
          holdPending :=
            if s.click.holdPoint.isSome then s.ctl.holdPending.map fun h => { h with point := x }
            else s.ctl.holdPending } } := by
  intro x
  unfold rehold
  cases h : s.click.holdPoint with
  | none =>
    have same : { s.click with holdPoint := none } = s.click := by rw [← h]
    simp only [Option.map_none, same]
    rfl
  | some y => rfl

/-- The engine changed, the recorded hold point found again, and what is due played. -/
theorem State.Plays.after {e : ClickEngine} {h : Option HoldPending}
    (k : State.Plays { s with click := e, ctl := { s.ctl with holdPending := h } } t) (held : e.held = s.click.held) :
    s.Plays t :=
  ⟨k.time, k.cue, k.ctl, k.vin, k.vout, k.port, k.emitted, k.pending, k.limit, k.held.trans held, k.fed, k.noPatch,
    k.patchOf, k.reports⟩

theorem State.engineHandOver_plays (s : State) (c0 : Sample) (ref : MapRef) (bars : Nat) :
    s.Plays (s.engineHandOver c0 ref bars) := by
  unfold engineHandOver
  cases ref with
  | map n =>
    dsimp only
    rw [State.rehold_eq]
    exact Plays.after (Plays.runEngine rfl) rfl
  | silence =>
    dsimp only
    rw [State.rehold_eq]
    exact Plays.after (Plays.refl rfl) rfl
  | keep => exact Plays.after (h := s.ctl.holdPending) (Plays.runEngine rfl) rfl

/-! ## The patch entries (R86 to R88) -/

section
variable {c0 : Sample} {e : PatchEntry} {es : List PatchEntry} {n : Station}

theorem Channel.fedTo.withdrawPatch {c : Channel} (h : c.isUp = true) :
    c.fedTo { c with link := c.link.withdrawPatch } :=
  ⟨rfl, fun k => absurd (Channel.isUp_iff.mp h) k⟩

theorem takeEntry_fed (c0 : Sample) (e : PatchEntry) (s : State) (n : Station) :
    (s.ch n).fedTo ((s.takeEntry c0 e).ch n) := by
  by_cases hn : n = e.station
  · subst hn
    by_cases hr : (s.ch e.station).isRig = true
    · by_cases hu : (s.ch e.station).isUp = true
      · rw [State.takeEntry_up hr hu]
        split
        · exact .refl _
        · split
          · rw [State.sendPatch_written, State.written_ch]
            exact .handed _ _
          · rw [State.ch_mapLink_self]
            exact .withdrawPatch hu
      · rw [State.takeEntry_down hr hu]
        exact .refl _
    · rw [State.takeEntry_passed hr]
      exact .refl _
  · rw [(ActsOn.takeEntry c0 e).otherCh s n hn]
    exact .refl _

theorem takeEntry_expected (hr : (s.ch e.station).isRig = true) :
    ((s.takeEntry c0 e).patchOf e.station).expected = some e.patch := by
  by_cases hu : (s.ch e.station).isUp = true
  · rw [State.takeEntry_up hr hu]
    split
    · rw [State.patchOf_setPatch_self]
    · split
      · rw [State.sendPatch_written, State.written_patchOf]
        rfl
      · rw [State.patchOf_mapLink, State.patchOf_setPatch_self]
  · rw [State.takeEntry_down hr hu, State.patchOf_setPatch_self]

theorem takeEntries_cons (c0 : Sample) (e : PatchEntry) (es : List PatchEntry) (s : State) :
    State.takeEntries c0 (e :: es) s = State.takeEntries c0 es (s.takeEntry c0 e) := rfl

theorem takeEntries_fed (c0 : Sample) (es : List PatchEntry) (s : State) (n : Station) :
    (s.ch n).fedTo ((State.takeEntries c0 es s).ch n) := by
  induction es generalizing s with
  | nil => exact .refl _
  | cons e es ih => exact (takeEntry_fed c0 e s n).trans (ih _)

theorem takeEntries_other (h : ∀ e ∈ es, n ≠ e.station) (s : State) :
    (State.takeEntries c0 es s).patchOf n = s.patchOf n := by
  induction es generalizing s with
  | nil => rfl
  | cons e es ih =>
    rw [takeEntries_cons, ih fun x hx => h x (List.mem_cons_of_mem _ hx)]
    exact (ActsOn.takeEntry c0 e).otherPatch s n (h e List.mem_cons_self)

theorem Channel.fedTo.isRig {c d : Channel} (h : c.fedTo d) : d.isRig = c.isRig := by
  unfold Channel.isRig Channel.inUse
  rw [h.1]

/-- R86: each entry for a RIG in use sets its station's expected patch. -/
theorem takeEntries_expected (apart : es.Pairwise fun a b => a.station < b.station) (he : e ∈ es)
    (hr : (s.ch e.station).isRig = true) :
    ((State.takeEntries c0 es s).patchOf e.station).expected = some e.patch := by
  induction es generalizing s with
  | nil => cases he
  | cons x es ih =>
    obtain ⟨before, apart⟩ := List.pairwise_cons.mp apart
    rw [takeEntries_cons]
    rcases List.mem_cons.mp he with rfl | he
    · rw [takeEntries_other fun y hy => Fin.ne_of_lt (before y hy)]
      exact takeEntry_expected hr
    · exact ih apart he ((takeEntry_fed c0 x s _).isRig.trans hr)

end

/-! ## The hand-over (R73, R75) -/

/-- R73: the Cue Engine once the cue `c` in flight as `f` has been handed over. -/
def CueEngine.handed (k : CueEngine) (f : Flight) (c : Cue) : CueEngine :=
  { k with running := some ⟨c.number, c.label, c.text, f.changePoint⟩, warned := k.standby, inFlight := none }

/-- R75: the notice of a hand-over with no cue queued behind it. -/
def CueEngine.firedNotice (k : CueEngine) (f : Flight) (c : Cue) (y : Sample) : Notice :=
  .cueFired y f.fired f.changePoint c.mapRef k.standby k.queued.isSome

/-- From `v`, with the engine's part done, to `t` the hand-over of `c` has been completed. -/
structure State.Hands (v t : State) (f : Flight) (c : Cue) : Prop where
  time : t.time = v.time
  click : t.click = v.click
  cue : t.cue = v.cue.handed f c
  ctl : t.ctl = v.ctl
  vin : t.vin = v.vin
  vout : t.vout = v.vout
  port : t.port = v.port.offer (v.cue.firedNotice f c v.time.S)
  emitted : t.emitted = v.emitted
  pending : t.pending = v.pending
  reports : t.reports = v.reports
  fed : ∀ n, (v.ch n).fedTo (t.ch n)
  expected : c.entries.Pairwise (fun a b => a.station < b.station) → ∀ e ∈ c.entries, (v.ch e.station).isRig = true →
    (t.patchOf e.station).expected = some e.patch
  plain : c.entries = [] → ∀ n, t.patchOf n = v.patchOf n ∧
    t.ch n = (v.ch n).warnSet (v.cue.book.warnList v.cue.warned) (v.cue.book.warnList v.cue.standby) n f.changePoint

theorem State.handCue_hands (s : State) (atEnd : Bool) (f : Flight) (c : Cue) :
    (s.handToEngine atEnd f.changePoint c).Hands (s.handCue atEnd f c) f c := by
  unfold handCue
  generalize s.handToEngine atEnd f.changePoint c = v
  have frame := State.takeEntries_frame f.changePoint c.entries v
  have ports := State.takeEntries_ports f.changePoint c.entries v
  have fed := takeEntries_fed f.changePoint c.entries v
  have expected (apart : c.entries.Pairwise fun a b => a.station < b.station) (e : PatchEntry) (he : e ∈ c.entries)
      (hr : (v.ch e.station).isRig = true) :=
    takeEntries_expected (c0 := f.changePoint) apart he hr
  have plain (h : c.entries = []) : State.takeEntries f.changePoint c.entries v = v := by rw [h]; rfl
  dsimp only
  generalize State.takeEntries f.changePoint c.entries v = w at *
  have running := Becomes.mapCue w fun x => { x with running := some ⟨c.number, c.label, c.text, f.changePoint⟩ }
  generalize w.mapCue (fun x => { x with running := some ⟨c.number, c.label, c.text, f.changePoint⟩ }) = w1 at *
  have warned := Becomes.setWarned w1 w1.cue.standby f.changePoint
  generalize w1.setWarned w1.cue.standby f.changePoint = w2 at *
  have fired := running.trans warned
  have cue : w2.cue = { w.cue with
      running := some ⟨c.number, c.label, c.text, f.changePoint⟩, warned := w.cue.standby } := by
    rw [fired.cue, running.cue]
  have ch (n : Station) : w2.ch n =
      (w.ch n).warnSet (w.cue.book.warnList w.cue.warned) (w.cue.book.warnList w.cue.standby) n f.changePoint := by
    rw [fired.ch, running.cue, running.ch]
  refine ⟨fired.time.trans frame.time, fired.click.trans frame.click, ?_, ?_, fired.vin.trans frame.vin,
    fired.vout.trans frame.vout, ?_, fired.emitted.trans ports.2, fired.pending.trans frame.pending,
    fired.reports.trans frame.reports, fun n => ?_, fun apart e he hr => ?_, fun h n => ?_⟩
  · show { w2.cue with inFlight := none } = _
    rw [cue, frame.cue]
    rfl
  · show w2.ctl = _
    rw [fired.ctl, running.ctl, frame.ctl]
  · show w2.port.offer (.cueFired w2.time.S f.fired f.changePoint c.mapRef w2.cue.standby w2.cue.queued.isSome) = _
    rw [fired.port, running.port, cue, fired.time, ports.1, frame.time, frame.cue]
    rfl
  · have last := (fed n).trans (.warnSet _ (w.cue.book.warnList w.cue.warned) (w.cue.book.warnList w.cue.standby) n f.changePoint)
    rw [← ch] at last
    exact last
  · rw [← expected apart e he hr]
    exact congrArg PatchRecord.expected (State.patchOf_congr fired.patches _)
  · have same : w = v := plain h
    subst same
    exact ⟨State.patchOf_congr fired.patches n, ch n⟩

theorem State.promote_none (h : s.cue.queued = none) : s.promote = s := by
  unfold promote
  rw [h]

theorem State.applyPending_none (h : s.cue.edit ≠ .pendingApply) : s.applyPending = s := if_neg fun k => h k.1

/-- R73: the hand-over of the cue in flight, up to the promotion. -/
theorem State.handOver_some (atEnd : Bool) (hf : s.cue.inFlight = some f) (hc : s.cue.book.cue? f.fired.cue = some c) :
    s.handOver atEnd = (s.handCue atEnd f c).promote.applyPending := by
  unfold handOver
  rw [hf]
  dsimp only
  rw [hc]

/-- R73: a hand-over with no cue queued and no edit pending. -/
theorem State.handOver_hands (atEnd : Bool) (hf : s.cue.inFlight = some f) (hc : s.cue.book.cue? f.fired.cue = some c)
    (same : (s.handToEngine atEnd f.changePoint c).cue = s.cue) (hq : s.cue.queued = none)
    (he : s.cue.edit ≠ .pendingApply) :
    (s.handToEngine atEnd f.changePoint c).Hands (s.handOver atEnd) f c := by
  have hands := s.handCue_hands atEnd f c
  rw [State.handOver_some atEnd hf hc]
  have cue := hands.cue
  rw [same] at cue
  rw [State.promote_none (by rw [cue]; exact hq), State.applyPending_none (by rw [cue]; exact he)]
  exact hands

/-- R73: the engine's part of a hand-over that no map end brought. -/
theorem State.handToEngine_plays (s : State) (f : Flight) (c : Cue) :
    s.Plays (s.handToEngine false f.changePoint c) := by
  unfold handToEngine
  rw [if_neg fun k => Bool.false_ne_true k.1]
  exact s.engineHandOver_plays _ _ _

/-! ## The hand-over with the reports of its engine taken -/

/-- From `s` to `u` the cue `c` in flight as `f` has been handed over, and the reports of the beat taken. -/
structure State.HandsOver (s u : State) (f : Flight) (c : Cue) : Prop where
  time : u.time = s.time
  cue : u.cue = s.cue.handed f c
  ctl : u.ctl.state = s.ctl.state
  vin : u.vin = s.vin
  vout : u.vout = s.vout
  limit : u.click.limit = none
  held : u.click.held = s.click.held
  port : ∃ xs : List Notice, xs.length ≤ 1 ∧ u.port = xs.foldl ControlPort.offer (s.port.offer (s.cue.firedNotice f c s.time.S))
  emitted : u.emitted = s.emitted
  pending : u.pending = s.pending
  reports : u.reports = []
  test : ∀ n, (u.ch n).link.test = (s.ch n).link.test
  expected : c.entries.Pairwise (fun a b => a.station < b.station) → ∀ e ∈ c.entries, (s.ch e.station).isRig = true →
    (u.patchOf e.station).expected = some e.patch

/-- R73: the hand-over settled, where the new standby is fired by no report. -/
theorem State.handOver_settled {m : Nat} (hf : s.cue.inFlight = some f) (hc : s.cue.book.cue? f.fired.cue = some c)
    (hq : s.cue.queued = none) (he : s.cue.edit ≠ .pendingApply) (hr : s.reports = [])
    (manual : ∀ d, s.cue.standby.bind s.cue.book.cue? = some d → d.goMode = .manual) :
    s.HandsOver (settleN (m + 1) (s.handOver false)) f c := by
  have plays := s.handToEngine_plays f c
  have hands := State.handOver_hands false hf hc plays.cue hq he
  generalize s.handToEngine false f.changePoint c = v at plays hands
  generalize s.handOver false = t at hands
  have cue : t.cue = s.cue.handed f c := by rw [hands.cue, plays.cue]
  have idle : t.cue.followCue = none ∧ ∀ bar, t.cue.barCue bar = none := by
    rw [cue]
    exact CueEngine.idle_of_manual manual
  have spends : t.Spends (settleN (m + 1) t) := State.Spends.settleN (by
    rw [hands.reports]
    rcases plays.reports with h | ⟨r, ofBeat, h⟩ <;> rw [h, hr]
    · exact .inl rfl
    · exact .inr ⟨r, ofBeat, rfl⟩) (.inr idle)
  generalize settleN (m + 1) t = u at spends
  obtain ⟨hold, ctl⟩ := plays.ctl
  have port : t.port = s.port.offer (s.cue.firedNotice f c s.time.S) := by
    rw [hands.port, plays.port, plays.cue, plays.time]
  refine ⟨spends.time.trans (hands.time.trans plays.time), (spends.stands idle.2).trans cue, ?_,
    spends.vin.trans (hands.vin.trans plays.vin), spends.vout.trans (hands.vout.trans plays.vout),
    spends.limit.trans ((congrArg ClickEngine.limit hands.click).trans plays.limit),
    spends.held.trans ((congrArg ClickEngine.held hands.click).trans plays.held), ?_,
    spends.emitted.trans (hands.emitted.trans plays.emitted), spends.pending.trans (hands.pending.trans plays.pending),
    spends.reports, fun n => ?_, fun apart e he hr => ?_⟩
  · rw [spends.ctl, hands.ctl, ctl]
  · rcases spends.port with h | ⟨x, h⟩
    · exact ⟨[], Nat.zero_le 1, h.trans port⟩
    · exact ⟨[x], Nat.le_refl 1, h.trans (congrArg (ControlPort.offer · x) port)⟩
  · rw [State.ch_congr spends.chan, (hands.fed n).test, (plays.fed n).test]
  · rw [State.patchOf_congr spends.patches]
    exact hands.expected apart e he ((plays.fed _).isRig.trans hr)

end Sys2Proof.Machine
end

section
/-! PROOFS. A GO or GOTO that passes fires its cue into the right slot (O20). -/

namespace Sys2Proof.Machine

variable {s t u : State} {c : Cue} {tag n kind : Nat} {call : Instr} {source : GoSource}

/-! ## The state a call is judged in (R66) -/

theorem callOf_of {target : Cue}
    (h : (call = .go tag n ∧ kind = 0x18 ∧ n ≤ 99999 ∧ s.cue.standby.bind s.cue.book.cue? = some target ∧
        (n = 0 ∨ target.number = n)) ∨
      (call = .goto tag n ∧ kind = 0x19 ∧ 1 ≤ n ∧ n ≤ 99999 ∧ s.cue.book.cue? n = some target)) :
    callOf s tag n call kind (some target) := by
  rcases h with ⟨hc, hk, hn, hs, ht⟩ | ⟨hc, hk, h1, hn, ht⟩
  · refine .inl ⟨hc, hk, hn, ?_⟩
    unfold CueEngine.goTarget
    rw [hs, Option.filter_some, if_pos (decide_eq_true ht)]
  · exact .inr ⟨hc, hk, h1, hn, ht.symm⟩

/-- R24: every cue that a book holds is found under its number. -/
theorem Book.cue?_number {b : Book} {m : Nat} (h : b.cue? m = some c) : c.number = m := by
  simpa using List.find?_some h

theorem Book.cue?_self {b : Book} {m : Nat} (h : b.cue? m = some c) : b.cue? c.number = some c := by
  rw [Book.cue?_number h]
  exact h

theorem CueEngine.cue?_of_bind {k : CueEngine} (h : k.standby.bind k.book.cue? = some c) : k.book.cue? c.number = some c := by
  obtain ⟨m, -, hm⟩ := Option.bind_eq_some_iff.mp h
  exact Book.cue?_self hm

theorem cue?_of_call
    (h : (call = .go tag n ∧ kind = 0x18 ∧ n ≤ 99999 ∧ s.cue.standby.bind s.cue.book.cue? = some c ∧
        (n = 0 ∨ c.number = n)) ∨
      (call = .goto tag n ∧ kind = 0x19 ∧ 1 ≤ n ∧ n ≤ 99999 ∧ s.cue.book.cue? n = some c)) :
    s.cue.book.cue? c.number = some c := by
  rcases h with ⟨-, -, -, h, -⟩ | ⟨-, -, -, -, h⟩
  · exact CueEngine.cue?_of_bind h
  · exact Book.cue?_self h

theorem State.not_locked (h : ∀ x, s.cue.lockoutEnd = some x → x ≤ s.time.S) : ¬ s.locked := fun ⟨x, hx, hlt⟩ =>
  Nat.not_lt.mpr (h x hx) hlt

/-! ## A call taken and settled (R68, R70, R73, R103) -/

/-- R68, R70: the Cue Engine after the call of a cue. -/
def State.calledCue (s : State) (c : Cue) : CueEngine :=
  { s.cue with
    standby := s.cue.book.numberAfter c.number, barMark := s.cue.book.isAtBar (s.cue.book.numberAfter c.number)
    lockoutEnd := some (s.time.S + 48 * s.cue.lockoutMs) }

/-- What a call leaves as it was, whichever slot its cue went to. -/
structure State.CallFrame (s t : State) : Prop where
  time : t.time = s.time
  vin : t.vin = s.vin
  vout : t.vout = s.vout
  state : t.ctl.state = .running
  tests : ∀ n, (t.ch n).link.test = none
  reports : t.reports = []
  pending : t.pending = s.pending

theorem State.Called.frame {cue : CueEngine} {e : ClickEngine} (h : s.Called t cue e []) : s.CallFrame t :=
  ⟨h.time, h.vin, h.vout, h.state, h.tests, h.reports, h.pending⟩

theorem State.takeCall_queued (hopen : s.callsOpen) (hf : s.cue.inFlight ≠ none) :
    s.Called (s.takeCall c source) { s.calledCue c with queued := some ⟨c.number, source, s.time.S, none⟩ } s.click
      s.reports :=
  State.takeCall_called hopen (State.fire_queued source none hf)

theorem State.takeCall_flies (hopen : s.callsOpen) (hf : s.cue.inFlight = none) :
    let x := s.click.changePoint (s.time.S + 4800) c.changeKind
    s.Called (s.takeCall c source)
      { s.calledCue c with inFlight := some ⟨⟨c.number, source, s.time.S, none⟩, x⟩ }
      (if s.time.S + 4800 < x then { s.click with limit := some x } else s.click)
      (if s.time.S + 4800 < x then s.reports else s.reports ++ [.changeDue]) :=
  State.takeCall_called hopen (State.fire_flies source none hf)

/-- R33, R34: a cue whose change point lies behind S + HORIZON holds production back. -/
theorem State.takeCall_late (hopen : s.callsOpen) (hf : s.cue.inFlight = none)
    (h : s.time.S + 4800 < s.click.changePoint (s.time.S + 4800) c.changeKind) :
    let x := s.click.changePoint (s.time.S + 4800) c.changeKind
    s.Called (s.takeCall c source) { s.calledCue c with inFlight := some ⟨⟨c.number, source, s.time.S, none⟩, x⟩ }
      { s.click with limit := some x } s.reports := by
  have called := State.takeCall_flies (c := c) (source := source) hopen hf
  dsimp only at called
  rw [if_pos h, if_pos h] at called
  exact called

/-- R33, R73: a cue whose change point has come brings its hand-over. -/
theorem State.takeCall_due (hopen : s.callsOpen) (hf : s.cue.inFlight = none)
    (h : s.click.changePoint (s.time.S + 4800) c.changeKind ≤ s.time.S + 4800) :
    let x := s.click.changePoint (s.time.S + 4800) c.changeKind
    s.Called (s.takeCall c source) { s.calledCue c with inFlight := some ⟨⟨c.number, source, s.time.S, none⟩, x⟩ }
      s.click (s.reports ++ [.changeDue]) := by
  have called := State.takeCall_flies (c := c) (source := source) hopen hf
  dsimp only at called
  rw [if_neg (Nat.not_lt.mpr h), if_neg (Nat.not_lt.mpr h)] at called
  exact called

/-- R70, R73: a cue in flight whose change point has come, handed over at once where the standby after it is fired by
no report. -/
theorem settleN_hands {k : CueEngine} {f : Flight} {m : Nat} (hcue : t.cue = { k with inFlight := some f })
    (hc : k.book.cue? f.fired.cue = some c) (hq : k.queued = none) (he : k.edit ≠ .pendingApply)
    (manual : ∀ d, k.standby.bind k.book.cue? = some d → d.goMode = .manual) (hr : t.reports = [.changeDue]) :
    State.HandsOver { t with reports := [] } (settleN (m + 2) t) f c := by
  rw [settleN_cons hr]
  exact State.handOver_settled (s := { t with reports := [] }) (f := f) (c := c) (by rw [hcue]) (by rwa [hcue])
    (by rwa [hcue]) (by rwa [hcue]) rfl (by rwa [hcue])

theorem firedReply_queued (h : s.cue.inFlight ≠ none) (t : State) :
    firedReply s t c = .fired c.number .queued none t.cue.standby := by
  unfold firedReply CueEngine.freeSlot
  rw [if_neg (by simpa using h)]

theorem firedReply_flies (h : s.cue.inFlight = none) (t : State) :
    firedReply s t c = .fired c.number .inFlight (t.cue.inFlight.map Flight.changePoint) t.cue.standby := by
  unfold firedReply CueEngine.freeSlot
  rw [if_pos (by simp [h])]

theorem State.CallFrame.replied (h : s.CallFrame t) (k g : Nat) (a : Answer) : s.CallFrame (t.replied k g a) :=
  ⟨h.time, h.vin, h.vout, h.state, h.tests, h.reports, h.pending⟩

theorem State.CallFrame.of_taken (h : s.taken.CallFrame t) : s.CallFrame t :=
  ⟨h.time.trans s.taken_time, h.vin.trans s.taken_vin, h.vout.trans s.taken_vout, h.state, h.tests, h.reports,
    h.pending.trans s.taken_pending⟩

/-- Settles O20: the call passes R66's tests, and its cue is queued, in flight, or handed over at once. -/
theorem callsFire : Obligations.CallsFire := by
  intro s tag n call kind c hadm hr hcall hopen hlock next fired point after frame
  have known := cue?_of_call hcall
  have passes (free : s.cue.inFlight = none ∨ s.cue.queued = none) : s.taken.callRefusal true = none := by
    rw [s.taken_callRefusal]
    exact State.callRefusal_taken hopen (State.not_locked hlock) free
  have openT : s.taken.callsOpen := by
    unfold State.callsOpen
    rw [s.taken_ctl_state]
    exact hopen
  have reportsT : s.taken.reports = [] := s.taken_reports.trans hr
  have cueT : s.taken.calledCue c = after := by
    unfold State.calledCue
    rw [s.taken_book, s.taken_time, s.taken_lockoutMs]
  have run (free : s.cue.inFlight = none ∨ s.cue.queued = none) :
      exec call s = .next ((settle (s.taken.takeCall c .host)).replied kind tag
        (.ok false (firedReply s.taken (s.taken.takeCall c .host) c))) :=
    exec_call hadm (callOf_of hcall) (actCall_taken (passes free)) nofun
  have ofFrame {t : State} (h : s.taken.CallFrame t) (a : Answer) : frame (t.replied kind tag a) := by
    obtain ⟨htime, hvin, hvout, hstate, htests, hreports, hpending⟩ := h.of_taken.replied kind tag a
    exact ⟨htime, hvin, hvout, hstate, htests, hreports, hpending⟩
  refine ⟨fun hf hq => ?_, fun hf hlate => ?_, fun hf hq hdue hedit manual => ?_⟩
  · have held : s.taken.cue.inFlight ≠ none := by rwa [s.taken_inFlight]
    have called := State.takeCall_queued (c := c) (source := .host) openT held
    have exec := run (.inr hq)
    generalize s.taken.takeCall c .host = t at called exec
    rw [reportsT] at called
    rw [settle_nil t called.reports, firedReply_queued held, called.cue, cueT] at exec
    refine ⟨_, exec, ofFrame called.frame _, ?_, called.click.trans s.taken_click, called.patches.trans s.taken_patches,
      State.replied_replies ..⟩
    show t.cue = _
    rw [called.cue, cueT, s.taken_time]
  · have free : s.taken.cue.inFlight = none := by rwa [s.taken_inFlight]
    have called := State.takeCall_late (c := c) (source := .host) openT free (by rw [s.taken_click, s.taken_time]; exact hlate)
    have exec := run (.inl hf)
    rw [s.taken_click, s.taken_time, reportsT] at called
    generalize s.taken.takeCall c .host = t at called exec
    rw [settle_nil t called.reports, firedReply_flies free, called.cue, cueT] at exec
    exact ⟨_, exec, ofFrame called.frame _, called.cue.trans (by rw [cueT]), called.click,
      called.patches.trans s.taken_patches, State.replied_replies ..⟩
  · have free : s.taken.cue.inFlight = none := by rwa [s.taken_inFlight]
    have called := State.takeCall_due (c := c) (source := .host) openT free (by rw [s.taken_click, s.taken_time]; exact hdue)
    have exec := run (.inl hf)
    rw [s.taken_click, s.taken_time, reportsT] at called
    generalize s.taken.takeCall c .host = t at called exec
    have hands := settleN_hands (m := 8190) (k := after) (c := c) (called.cue.trans (by rw [cueT]))
      (by show s.taken.cue.book.cue? c.number = _; rw [s.taken_book]; exact known)
      (by show s.taken.cue.queued = none; rw [s.taken_queued]; exact hq)
      (by show s.taken.cue.edit ≠ _; rw [s.taken_edit]; exact hedit)
      (by show ∀ d, next.bind s.taken.cue.book.cue? = some d → _; rw [s.taken_book]; exact manual) called.reports
    rw [firedReply_flies free, called.cue, cueT] at exec
    generalize hu : settle t = u at exec
    rw [show settleN (8190 + 2) t = u from hu] at hands
    have framed : s.taken.CallFrame u :=
      ⟨hands.time.trans called.time, hands.vin.trans called.vin, hands.vout.trans called.vout,
        hands.ctl.trans called.state, fun m => (hands.test m).trans (called.tests m), hands.reports,
        hands.pending.trans called.pending⟩
    refine ⟨_, exec, ofFrame framed _, ?_, State.replied_replies ..⟩
    show u.cue = _
    rw [hands.cue]
    show CueEngine.handed t.cue _ c = _
    rw [called.cue, cueT]
    have empty : after.inFlight = none := free
    unfold CueEngine.handed
    dsimp only
    rw [← empty]

end Sys2Proof.Machine
end

section
/-! PROOFS. FOLLOW at a map end and AT_BAR at a downbeat fire the standby (O22). -/

namespace Sys2Proof.Machine

variable {s t u v : State} {c : Context} {d : Cue} {g : Segment}

/-! ## Notices in their order (R173) -/

theorem ControlPort.foldl_offer_appends (xs : List Notice) (p : ControlPort) :
    ∃ rest, (xs.foldl ControlPort.offer p).notices = p.notices ++ rest := by
  induction xs generalizing p with
  | nil => exact ⟨[], (List.append_nil _).symm⟩
  | cons x xs ih =>
    obtain ⟨rest, h⟩ := ih (p.offer x)
    obtain ⟨first, k⟩ := p.offer_appends x
    exact ⟨first ++ rest, h.trans (by rw [k, List.append_assoc])⟩

/-- R75: the notice of a hand-over, with those of its reports behind it. -/
theorem State.HandsOver.notices {f : Flight} {k : Cue} (h : s.HandsOver t f k) (hm : s.port.mask.getLsbD 0 = true)
    (hn : s.port.notices.length < 32) :
    ∃ rest, t.port.notices = s.port.notices ++ s.cue.firedNotice f k s.time.S :: rest := by
  obtain ⟨xs, -, port⟩ := h.port
  obtain ⟨rest, notices⟩ := ControlPort.foldl_offer_appends xs (s.port.offer (s.cue.firedNotice f k s.time.S))
  exact ⟨rest, by rw [port, notices, ControlPort.offer_placed hm hn, List.append_assoc]; rfl⟩

/-- R173: with room, a notice is placed where its kind is enabled. -/
theorem ControlPort.offer_notices {p : ControlPort} (x : Notice)
    (hn : p.mask.getLsbD x.kind = true → p.notices.length < 32) :
    (p.offer x).notices = p.notices ++ if p.mask.getLsbD x.kind = true then [x] else [] := by
  by_cases hm : p.mask.getLsbD x.kind = true
  · rw [if_pos hm, ControlPort.offer_placed hm (hn hm)]
  · rw [if_neg hm, List.append_nil]
    rcases p.offer_cases x with ⟨-, h⟩ | ⟨k, -⟩ | ⟨k, -⟩
    · rw [h]
    · exact absurd k hm
    · exact absurd k hm

/-! ## A context in which a beat is next (R26) -/

/-- A report of a bar, or none. -/
def Report.ofBar (rs : List Report) : Prop := rs = [] ∨ ∃ bar pass, rs = [.barReached bar pass]

theorem Context.barReports_ofBar (c : Context) (g : Segment) : Report.ofBar (c.barReports g) := by
  unfold barReports
  cases c.barReached g with
  | none => exact .inl rfl
  | some r => exact .inr ⟨_, _, rfl⟩

/-- R26: playing on at a beat stays in the map, and hands the report of a bar at most. -/
theorem State.runEngine_map (hc : s.click.context = some c) (hg : c.segment = some g) (hm : c.moveDue = false)
    (hr : s.reports = []) :
    (∃ k, s.runEngine.click.context = some k ∧ k.map = c.map ∧ k.segments = c.segments) ∧
      Report.ofBar s.runEngine.reports := by
  have stays : (∃ k, s.click.context = some k ∧ k.map = c.map ∧ k.segments = c.segments) ∧ Report.ofBar s.reports :=
    ⟨⟨c, hc, rfl, rfl⟩, .inl hr⟩
  have beat : (∃ k, s.produceBeat.click.context = some k ∧ k.map = c.map ∧ k.segments = c.segments) ∧
      Report.ofBar s.produceBeat.reports := by
    have frame := s.beaten_frame c g
    rw [State.produceBeat_reports hc hg, hr]
    generalize s.beaten c g = v at frame
    refine ⟨⟨_, (congrArg ClickEngine.context frame.click).trans rfl, (c.advance_map _).1, (c.advance_map _).2⟩, ?_⟩
    exact c.barReports_ofBar g
  unfold State.runEngine
  split
  · exact stays
  next m y hn =>
    have move : m = .beat := by
      unfold ClickEngine.next at hn
      rw [hc] at hn
      dsimp only at hn
      split at hn
      · rw [← Context.move_beat hg hm]
        exact (congrArg Prod.fst (Option.some.inj hn)).symm
      · cases hn
    subst move
    split
    · exact beat
    · exact stays

theorem Context.build_eq (n : Nat) {gs : List Segment} (hg : gs.head? = some g) (c0 : Sample) (bars : Nat) :
    Context.build n gs c0 bars =
      { Context.start n gs 0 c0 with
        countIn := if g.isStatic = true then countInOf bars g.beatsPerBar g.startTempo else none } := by
  unfold build
  dsimp only
  rw [hg]
  dsimp only
  split <;> rfl

/-- R35: the engine in the context that a map number builds. -/
theorem State.engineHandOver_map {n : Nat} (hs : s.cue.book.segments n ≠ []) (hr : s.reports = []) (c0 : Sample) (bars : Nat) :
    (∃ k, (s.engineHandOver c0 (.map n) bars).click.context = some k ∧ k.map = n ∧ k.segments = s.cue.book.segments n) ∧
      Report.ofBar (s.engineHandOver c0 (.map n) bars).reports := by
  obtain ⟨g, gs, hgs⟩ := List.exists_cons_of_ne_nil hs
  have head : (s.cue.book.segments n).head? = some g := by rw [hgs]; rfl
  unfold engineHandOver
  dsimp only
  rw [State.rehold_eq]
  have built := Context.build_eq n head c0 bars
  generalize hu : ({ (s.mapClick fun e => e.build n (s.cue.book.segments n) c0 bars) with
      click := _, ctl := _ } : State) = u
  have context : u.click.context = some { Context.build n (s.cue.book.segments n) c0 bars with
      muteFirst := decide (s.click.context.bind Context.lastOnset = some c0) } := by rw [← hu]; rfl
  rw [built] at context
  have reports : u.reports = [] := by rw [← hu]; exact hr
  exact State.runEngine_map (g := g) context (by
    show (s.cue.book.segments n)[0]? = some g
    rw [hgs]
    rfl) rfl reports

theorem settleN_ofBar {m : Nat} (h : Report.ofBar t.reports) (hb : ∀ bar, t.cue.barCue bar = none) :
    settleN (m + 1) t = { t with reports := [] } := by
  rcases h with h | ⟨bar, pass, h⟩
  · rw [settleN_nil h, ← h]
  · rw [settleN_cons h]
    have idle : State.takeReport { t with reports := [] } (.barReached bar pass) = { t with reports := [] } :=
      State.takeBarReached_none (s := { t with reports := [] }) (hb bar)
    rw [idle, settleN_nil rfl]

/-! ## FOLLOW (R36, R71) -/

theorem CueEngine.followCue_some {k : CueEngine} (h : k.standby.bind k.book.cue? = some d) (hm : d.goMode = .follow) :
    k.followCue = some d := by
  unfold followCue
  rw [h, Option.filter_some, if_pos (decide_eq_true hm)]

theorem CueEngine.fired_notice {k : CueEngine} (hq : k.queued = none) (d : Cue) (f : Flight) (y : Sample) :
    ({ k with inFlight := some f }.fired d).firedNotice f d y =
      .cueFired y f.fired f.changePoint d.mapRef (k.book.numberAfter d.number) false := by
  unfold firedNotice fired
  dsimp only
  rw [hq]
  rfl

/-- R71: the state in which an AUTO call is handed over. -/
theorem State.autoCall_fired (s : State) (d : Cue) (e : Sample) :
    let f : Flight := ⟨⟨d.number, .auto, s.time.S, none⟩, e⟩
    ∃ w, s.autoCall d e = w.handOver true ∧ s.Fired w ({ s.cue with inFlight := some f }.fired d) s.click s.reports := by
  intro f
  have aborted := s.abortTests_fired
  unfold autoCall placeFlight
  generalize forAll State.abortTest s = v at aborted
  have placed := aborted.mapCue fun k => { k with inFlight := some f }
  dsimp only at placed ⊢
  generalize v.mapCue (fun k => { k with inFlight := some f }) = w at placed
  refine ⟨_, rfl, ?_⟩
  rw [placed.cue]
  exact placed.mapCue _

/-- R36, R73: what the hand-over of a FOLLOW cue at the map end does to the engine and the port. -/
structure State.EndsIn (s v : State) (d : Cue) (c : Context) (e : Sample) : Prop where
  time : v.time = s.time
  cue : v.cue = s.cue
  state : v.ctl.state = s.ctl.state
  vin : v.vin = s.vin
  vout : v.vout = s.vout
  port : v.port = if d.mapRef = .keep then s.port.offer (.mapEnd c.map e s.time.S) else s.port
  map : ∀ n, d.mapRef = .map n → ∃ k, v.click.context = some k ∧ k.map = n
  silent : (∀ n, d.mapRef ≠ .map n) → v.click.context = none
  reports : Report.ofBar v.reports

theorem State.handToEngine_atEnd {e : Sample} (hc : s.click.context = some c) (hr : s.reports = [])
    (hs : ∀ n, d.mapRef = .map n → s.cue.book.segments n ≠ []) : s.EndsIn (s.handToEngine true e d) d c e := by
  unfold handToEngine
  cases href : d.mapRef with
  | keep =>
    rw [if_pos ⟨rfl, rfl⟩, State.discardMap_eq hc]
    exact ⟨rfl, rfl, rfl, rfl, rfl, by rw [if_pos href], fun n h => (by rw [href] at h; cases h), fun _ => rfl, .inl hr⟩
  | silence =>
    rw [if_neg fun h => by cases h.2]
    have plays := s.engineHandOver_plays e .silence d.countIn
    obtain ⟨h, ctl⟩ := plays.ctl
    have engine : (s.engineHandOver e .silence d.countIn).click.context = none ∧
        (s.engineHandOver e .silence d.countIn).reports = s.reports := by
      unfold engineHandOver
      dsimp only
      rw [State.rehold_eq]
      exact ⟨rfl, rfl⟩
    exact ⟨plays.time, plays.cue, by rw [ctl], plays.vin, plays.vout,
      by rw [if_neg (by rw [href]; exact nofun)]; exact plays.port, fun n h => (by rw [href] at h; cases h),
      fun _ => engine.1, .inl (engine.2.trans hr)⟩
  | map n =>
    rw [if_neg fun h => by cases h.2]
    have plays := s.engineHandOver_plays e (.map n) d.countIn
    obtain ⟨h, ctl⟩ := plays.ctl
    obtain ⟨⟨k, hk, hmap, -⟩, reports⟩ := State.engineHandOver_map (hs n href) hr e d.countIn
    refine ⟨plays.time, plays.cue, by rw [ctl], plays.vin, plays.vout,
      by rw [if_neg (by rw [href]; exact nofun)]; exact plays.port, fun m hm => ⟨k, hk, ?_⟩,
      fun other => absurd href (other n), reports⟩
    rw [href] at hm
    cases hm
    exact hmap

/-- From `s` to `u` the FOLLOW standby `d` has been fired at the map end `e` and handed over. -/
structure State.Follows (s u : State) (d : Cue) (c : Context) (e : Sample) : Prop where
  time : u.time = s.time
  cue : u.cue =
    { s.cue with
      standby := s.cue.book.numberAfter d.number, barMark := false, warned := s.cue.book.numberAfter d.number
      running := some ⟨d.number, d.label, d.text, e⟩ }
  state : u.ctl.state = s.ctl.state
  vin : u.vin = s.vin
  vout : u.vout = s.vout
  map : ∀ n, d.mapRef = .map n → ∃ k, u.click.context = some k ∧ k.map = n
  silent : (∀ n, d.mapRef ≠ .map n) → u.click.context = none
  port : ∃ rs, u.port =
    { (if d.mapRef = .keep then s.port.offer (.mapEnd c.map e s.time.S) else s.port).offer
        (.cueFired s.time.S ⟨d.number, .auto, s.time.S, none⟩ e d.mapRef (s.cue.book.numberAfter d.number) false) with
      replies := rs }

/-- R36, R71, R73: a FOLLOW standby fired by the map end, and handed over at once. -/
theorem State.takeMapEnd_follows {m : Nat} {e : Sample} (hc : s.click.context = some c) (hr : s.reports = [])
    (hrun : s.ctl.state = .running) (hf : s.cue.inFlight = none) (hq : s.cue.queued = none)
    (he : s.cue.edit ≠ .pendingApply) (hd : s.cue.standby.bind s.cue.book.cue? = some d) (hm : d.goMode = .follow)
    (hbar : s.cue.book.isAtBar (s.cue.book.numberAfter d.number) = false)
    (hs : ∀ n, d.mapRef = .map n → s.cue.book.segments n ≠ []) :
    s.Follows (settleN (m + 1) (s.takeMapEnd e)) d c e := by
  obtain ⟨a, call, fired⟩ := s.autoCall_fired d e
  have taken : s.takeMapEnd e = a.handOver true := by
    rw [← call]
    unfold takeMapEnd
    rw [CueEngine.followCue_some hd hm]
    dsimp only
    rw [if_neg (not_not.mpr hrun), if_pos (by rw [hf]; rfl)]
  have known := CueEngine.cue?_of_bind hd
  have book : a.cue.book = s.cue.book := by rw [fired.cue]; rfl
  have ends := State.handToEngine_atEnd (s := a) (d := d) (c := c) (e := e) (by rw [fired.click]; exact hc)
    (fired.reports.trans hr) (by rw [book]; exact hs)
  have hands := State.handOver_hands (s := a) (f := ⟨⟨d.number, .auto, s.time.S, none⟩, e⟩) (c := d) true
    (by rw [fired.cue]; rfl) (by rw [book]; exact known) ends.cue (by rw [fired.cue]; exact hq) (by rw [fired.cue]; exact he)
  rw [taken]
  generalize a.handOver true = w at hands
  generalize a.handToEngine true e d = v at ends hands
  have cue := hands.cue
  rw [ends.cue, fired.cue] at cue
  have mark : w.cue.barMark = false := by
    rw [cue]
    exact hbar
  rw [settleN_ofBar (hands.reports ▸ ends.reports) fun bar => by
    unfold CueEngine.barCue
    rw [mark]
    rfl]
  obtain ⟨rs, port⟩ := fired.port
  refine ⟨hands.time.trans (ends.time.trans fired.time), ?_,
    (congrArg ShowControl.state hands.ctl).trans (ends.state.trans (congrArg ShowControl.state fired.ctl)),
    hands.vin.trans (ends.vin.trans fired.vin), hands.vout.trans (ends.vout.trans fired.vout), fun n hn => ?_,
    fun none => ?_, rs, ?_⟩
  · show w.cue = _
    rw [cue]
    unfold CueEngine.fired CueEngine.handed
    dsimp only
    rw [hbar, hf]
  · rw [show w.click = v.click from hands.click]
    exact ends.map n hn
  · rw [show w.click = v.click from hands.click]
    exact ends.silent none
  · show w.port = _
    rw [hands.port, ends.port, ends.cue, ends.time, fired.cue, fired.time, port, CueEngine.fired_notice hq]
    split
    · exact (congrArg (ControlPort.offer · _) (ControlPort.offer_with_replies _ _ _)).trans
        (ControlPort.offer_with_replies _ _ _)
    · exact ControlPort.offer_with_replies _ _ _

/-! ## AT_BAR (R72) -/

/-- R72: a downbeat that the armed AT_BAR standby waits for, in RUNNING with a slot free. -/
theorem State.takeBarReached_fires {bar : Nat} (hd : s.cue.barCue bar = some d) (hrun : s.ctl.state = .running)
    (free : s.cue.inFlight = none ∨ s.cue.queued = none) :
    s.takeBarReached bar = (s.mapCue fun x => { x with barMark := false }).fire d .bar (some bar) := by
  unfold takeBarReached
  rw [hd]
  exact if_pos ⟨hrun, free.imp Option.isNone_iff_eq_none.mpr Option.isNone_iff_eq_none.mpr⟩

theorem State.takeBarReached_spends {bar : Nat} (hd : s.cue.barCue bar = some d)
    (h : s.ctl.state ≠ .running ∨ (s.cue.inFlight ≠ none ∧ s.cue.queued ≠ none)) :
    s.takeBarReached bar = s.mapCue fun x => { x with barMark := false } := by
  unfold takeBarReached
  rw [hd]
  refine if_neg fun ⟨hrun, free⟩ => h.elim (· hrun) fun ⟨hf, hq⟩ => ?_
  exact free.elim (hf <| Option.isNone_iff_eq_none.mp ·) (hq <| Option.isNone_iff_eq_none.mp ·)

/-- R26, R72: a downbeat produced, and its report the first to be taken. -/
theorem settle_downbeat {bar pass : Nat} (hc : s.click.context = some c) (hg : c.segment = some g)
    (hb : c.barReached g = some (bar, pass)) (hr : s.reports = []) :
    settle s.produceBeat = settleN 8191 (s.beaten c g |>.takeBarReached bar) := by
  have frame := s.beaten_frame c g
  rw [State.produceBeat_eq hc hg, hb]
  generalize s.beaten c g = v at frame
  have none : v.reports = [] := frame.reports.trans hr
  have handed : (v.report (.barReached bar pass)).reports = [.barReached bar pass] := by rw [State.report, none]; rfl
  have same : { v.report (.barReached bar pass) with reports := [] } = v := by rw [← none]; rfl
  rw [settle, settleLimit, settleN_cons handed, same]
  rfl

/-- R39: a bar is reached in a METERED or VAMP segment, so no tap list is left behind. -/
theorem ClickEngine.afterBeat_bar {e : ClickEngine} {bar pass : Nat} (hb : c.barReached g = some (bar, pass)) :
    e.afterBeat c g =
      { e with
        context := some { (c.advance e.release).1 with lastOnset := some (c.record g).onset, muteFirst := false }
        release := e.release && !(c.advance e.release).2
        kept := e.kept.drop (e.kept.length - 1) ++ [c.record g] } := by
  have static : ¬ g.kind = .tap := by
    intro tap
    unfold Context.barReached Segment.isStatic at hb
    rw [tap] at hb
    simp at hb
  unfold afterBeat
  dsimp only
  rw [if_neg fun k => static k.1]
  rfl

/-- R36: the notices of a map end and of the hand-over behind it. -/
theorem ControlPort.follow_notices {p : ControlPort} {k : Prop} [Decidable k] {x y : Notice} (hx : p.mask.getLsbD x.kind = true)
    (hn : p.notices.length + (if k ∧ p.mask.getLsbD y.kind = true then [y] else []).length < 32) :
    ((if k then p.offer y else p).offer x).notices =
      p.notices ++ (if k ∧ p.mask.getLsbD y.kind = true then [y] else []) ++ [x] := by
  by_cases hk : k
  · simp only [hk, true_and, if_true] at hn ⊢
    have room : p.mask.getLsbD y.kind = true → p.notices.length < 32 := fun _ => by omega
    have first := ControlPort.offer_notices y room
    rw [ControlPort.offer_placed (by rw [ControlPort.offer_mask]; exact hx) (by rw [first, List.length_append]; exact hn), first]
  · simp only [hk, false_and, if_false, List.length_nil, Nat.add_zero] at hn ⊢
    rw [ControlPort.offer_placed hx hn, List.append_nil]

/-- R36, R71: the report of the map's end, taken. -/
theorem settle_follow {e : Sample} (hn : s.click.next = some (.mapEnd, e)) (hf : s.cue.inFlight = none) (hr : s.reports = []) :
    settle (s.report .mapEnd) = settleN (8190 + 1) (s.takeMapEnd e) := by
  have handed : (s.report .mapEnd).reports = [.mapEnd] := by rw [State.report, hr]; rfl
  have same : { s.report .mapEnd with reports := [] } = s := by rw [← hr]; rfl
  rw [settle, settleLimit, settleN_cons handed, same]
  unfold State.takeReport
  rw [State.mapEnded_eq hn fun f h => absurd (hf.symm.trans h) nofun]

/-- From `s` to `b` a downbeat has been produced at `y`, and its report is still to be taken. -/
structure State.Sounded (s b : State) (y : Sample) (e : ClickEngine) : Prop where
  time : b.time = (s.quiet.atS y).time
  click : b.click = e
  cue : b.cue = s.cue
  ctl : b.ctl = s.ctl
  vin : b.vin = s.vin
  vout : b.vout = s.vout
  port : b.port = s.port
  pending : b.pending = s.pending
  reports : b.reports = []

/-- R26, R72: BEAT_PRODUCTION at a downbeat, up to its report. -/
theorem exec_downbeat {x : Sample} {bar pass : Nat} (hm : s.click.moveAt .beat = some x) (hx : x ≤ s.time.S)
    (hc : s.click.context = some c) (hg : c.segment = some g) (hb : c.barReached g = some (bar, pass)) (hr : s.reports = []) :
    ∃ b, exec .beatProduction s = .next ((settleN (8189 + 2) (b.takeBarReached bar)).atS s.time.S).done ∧
      s.Sounded b (s.takenAt x)
        { s.click with
          context := some { (c.advance s.click.release).1 with lastOnset := some (c.record g).onset, muteFirst := false }
          release := s.click.release && !(c.advance s.click.release).2
          kept := s.click.kept.drop (s.click.kept.length - 1) ++ [c.record g] } := by
  have run := command_reached (v := fun s => s.click.moveAt .beat) (act := fun x => settle x.produceBeat) hm hx
  have settled := settle_downbeat (s := s.quiet.atS (s.takenAt x)) hc hg hb hr
  have frame := State.beaten_frame (s.quiet.atS (s.takenAt x)) c g
  have ports := State.beaten_ports (s.quiet.atS (s.takenAt x)) c g
  rw [settled] at run
  generalize State.beaten (s.quiet.atS (s.takenAt x)) c g = b at run frame ports
  exact ⟨b, run, frame.time, frame.click.trans (ClickEngine.afterBeat_bar hb), frame.cue, frame.ctl, frame.vin, frame.vout,
    ports.1, frame.pending, frame.reports.trans hr⟩

theorem CueEngine.cue?_of_barCue {k : CueEngine} {bar : Nat} (h : k.barCue bar = some d) : k.book.cue? d.number = some d := by
  unfold barCue at h
  split at h
  · exact CueEngine.cue?_of_bind (Option.filter_eq_some_iff.mp h).1
  · cases h

/-- R70: from `b` to `w` the AT_BAR standby `d` has been fired into a slot, with the engine and the reports as given. -/
structure State.FiredAtBar (b w : State) (d : Cue) (slots : CueEngine → CueEngine) (e : ClickEngine) (rs : List Report) : Prop where
  time : w.time = b.time
  click : w.click = e
  cue : w.cue =
    { slots b.cue with
      standby := b.cue.book.numberAfter d.number, barMark := b.cue.book.isAtBar (b.cue.book.numberAfter d.number) }
  ctl : w.ctl = b.ctl
  tests : ∀ n, (w.ch n).link.test = none
  vin : w.vin = b.vin
  vout : w.vout = b.vout
  port : ∃ rs, w.port = { b.port with replies := rs }
  pending : w.pending = b.pending
  reports : w.reports = rs

theorem State.takeBarReached_queued {bar : Nat} (hd : s.cue.barCue bar = some d) (hrun : s.ctl.state = .running)
    (hf : s.cue.inFlight ≠ none) (hq : s.cue.queued = none) :
    s.FiredAtBar (s.takeBarReached bar) d (fun k => { k with queued := some ⟨d.number, .bar, s.time.S, some bar⟩ }) s.click
      s.reports := by
  rw [State.takeBarReached_fires hd hrun (.inr hq)]
  have fired := State.fire_queued (s := s.mapCue fun x => { x with barMark := false }) (c := d) .bar (some bar) hf
  generalize State.fire (s.mapCue fun x => { x with barMark := false }) d .bar (some bar) = w at fired
  exact ⟨fired.time, fired.click, fired.cue, fired.ctl, fun n => by rw [fired.ch], fired.vin, fired.vout, fired.port,
    fired.pending, fired.reports⟩

theorem State.takeBarReached_flies {bar : Nat} (hd : s.cue.barCue bar = some d) (hrun : s.ctl.state = .running)
    (hf : s.cue.inFlight = none) :
    let x := s.click.changePoint (s.time.S + 4800) d.changeKind
    s.FiredAtBar (s.takeBarReached bar) d (fun k => { k with inFlight := some ⟨⟨d.number, .bar, s.time.S, some bar⟩, x⟩ })
      (if s.time.S + 4800 < x then { s.click with limit := some x } else s.click)
      (if s.time.S + 4800 < x then s.reports else s.reports ++ [.changeDue]) := by
  intro x
  rw [State.takeBarReached_fires hd hrun (.inl hf)]
  have fired := State.fire_flies (s := s.mapCue fun x => { x with barMark := false }) (c := d) .bar (some bar) hf
  generalize State.fire (s.mapCue fun x => { x with barMark := false }) d .bar (some bar) = w at fired
  exact ⟨fired.time, fired.click, fired.cue, fired.ctl, fun n => by rw [fired.ch], fired.vin, fired.vout, fired.port,
    fired.pending, fired.reports⟩

/-- Settles O22: FOLLOW by the report of the map's end, AT_BAR by that of the downbeat produced. -/
theorem automaticCalls : Obligations.AutomaticCalls := by
  intro s c x d hc hx hr next
  refine ⟨fun hm hrun hf hq he hd hfollow hbar hs => ?_, fun g bar pass hm hg hb hd => ?_⟩
  · have move := ClickEngine.next_of_moveAt hc hm
    have run := command_reached (v := fun s => s.click.moveAt .mapEnd) (act := fun x => settle (x.report .mapEnd)) hm hx
    have taken := settle_follow (s := s.quiet.atS (s.takenAt x)) move hf hr
    have follows := State.takeMapEnd_follows (m := 8190) (s := s.quiet.atS (s.takenAt x)) (e := c.nextOnset) hc hr hrun hf hq he hd
      hfollow hbar hs
    rw [taken] at run
    generalize settleN (8190 + 1) (State.takeMapEnd _ _) = w at run follows
    obtain ⟨rs, port⟩ := follows.port
    refine ⟨_, run, follows.cue, follows.map, follows.silent, fun hcue hroom => ⟨[], ?_⟩,
      State.atS_time_back (s := s.quiet) follows.time, follows.state, follows.vin, follows.vout⟩
    refine (ControlPort.arbitrate_notices _).trans ?_
    show w.port.notices = _
    rw [port]
    exact ControlPort.follow_notices hcue hroom
  · obtain ⟨b, run, sounded⟩ := exec_downbeat hm hx hc hg hb hr
    have time : b.time.S = s.takenAt x := congrArg Timebase.S sounded.time
    have mark : b.cue.barCue bar = some d := by rw [sounded.cue]; exact hd
    refine ⟨fun hrun hf hq => ?_, ?_, fun h => ?_⟩
    · have fired := State.takeBarReached_queued mark (by rw [sounded.ctl]; exact hrun) (by rw [sounded.cue]; exact hf)
        (by rw [sounded.cue]; exact hq)
      generalize b.takeBarReached bar = w at run fired
      rw [settleN_nil (fired.reports.trans sounded.reports)] at run
      refine ⟨_, run, fired.cue.trans ?_, State.atS_time_back (s := s.quiet) (fired.time.trans sounded.time),
        fired.ctl.trans sounded.ctl, fired.vin.trans sounded.vin, fired.vout.trans sounded.vout⟩
      rw [sounded.cue, time]
    · intro hrun hf y fired moved e point after same
      have flies := State.takeBarReached_flies mark (by rw [sounded.ctl]; exact hrun) (by rw [sounded.cue]; exact hf)
      dsimp only at flies
      rw [sounded.click, time, sounded.reports] at flies
      generalize b.takeBarReached bar = w at run flies
      have cue : w.cue = { after with inFlight := some ⟨fired, point⟩ } := flies.cue.trans (by rw [sounded.cue])
      have timeW : w.time = (s.quiet.atS (s.takenAt x)).time := flies.time.trans sounded.time
      have state : w.ctl.state = .running := (congrArg ShowControl.state (flies.ctl.trans sounded.ctl)).trans hrun
      refine ⟨fun hlate => ?_, fun hdue hq he manual => ?_⟩
      · rw [if_pos hlate, if_pos hlate] at flies
        rw [settleN_nil flies.reports] at run
        exact ⟨_, run, ⟨flies.tests, State.atS_time_back (s := s.quiet) timeW, state, flies.vin.trans sounded.vin,
          flies.vout.trans sounded.vout, flies.reports, flies.pending.trans sounded.pending⟩, cue, flies.click⟩
      · rw [if_neg (Nat.not_lt.mpr hdue), if_neg (Nat.not_lt.mpr hdue)] at flies
        have known : s.cue.book.cue? d.number = some d := CueEngine.cue?_of_barCue hd
        have hands := settleN_hands (m := 8189) cue known hq he manual flies.reports
        generalize settleN (8189 + 2) w = u at run hands
        obtain ⟨rs, port⟩ := flies.port
        rw [sounded.port] at port
        refine ⟨_, run, ⟨fun n => (hands.test n).trans (flies.tests n),
          State.atS_time_back (s := s.quiet) (hands.time.trans timeW), hands.ctl.trans state,
          hands.vin.trans (flies.vin.trans sounded.vin), hands.vout.trans (flies.vout.trans sounded.vout), hands.reports,
          hands.pending.trans (flies.pending.trans sounded.pending)⟩, hands.cue.trans ?_, fun hmask hroom => ?_⟩
        · show CueEngine.handed w.cue _ d = _
          rw [cue]
          unfold CueEngine.handed
          dsimp only
          rw [← hf]
        · obtain ⟨rest, notices⟩ := hands.notices (by show w.port.mask.getLsbD 0 = true; rw [port]; exact hmask)
            (by show w.port.notices.length < 32; rw [port]; exact hroom)
          refine ⟨rest, (ControlPort.arbitrate_notices _).trans (notices.trans ?_)⟩
          show w.port.notices ++ CueEngine.firedNotice w.cue _ d w.time.S :: rest = _
          rw [port, cue, timeW]
          unfold CueEngine.firedNotice
          rw [show CueEngine.queued { after with inFlight := some ⟨fired, point⟩ } = none from hq]
          rfl
    · rw [State.takeBarReached_spends mark (by rw [sounded.ctl, sounded.cue]; exact h),
        settleN_nil (show (b.mapCue fun x => { x with barMark := false }).reports = [] from sounded.reports)] at run
      refine ⟨_, run, ?_, State.atS_time_back (s := s.quiet) sounded.time, sounded.ctl, sounded.vin, sounded.vout⟩
      show { b.cue with barMark := false } = _
      rw [sounded.cue]

end Sys2Proof.Machine
end

section
/-! PROOFS. A hand-over that keeps the context plays on through the former limit (R34, R35, R73). -/

namespace Sys2Proof.Machine

variable {s t u v : State} {c : Cue} {k : Context} {g : Segment} {f : Flight} {m : Nat}

/-! ## The report of a change due, settled (R73) -/

theorem settle_changeDue (hr : s.reports = []) : settle (s.report .changeDue) = settleN (8190 + 1) (s.handOver false) := by
  have handed : (s.report .changeDue).reports = [.changeDue] := by rw [State.report, hr]; rfl
  have same : { s.report .changeDue with reports := [] } = s := by rw [← hr]; rfl
  rw [settle, settleLimit, settleN_cons handed, same]
  rfl

/-- The hand-over of a cue in flight with no cue queued, no edit pending, and a standby that no report fires. -/
structure State.Hand (s : State) (f : Flight) (c : Cue) : Prop where
  flight : s.cue.inFlight = some f
  known : s.cue.book.cue? f.fired.cue = some c
  alone : s.cue.queued = none
  clean : s.cue.edit ≠ .pendingApply
  settled : s.reports = []
  manual : ∀ d, s.cue.standby.bind s.cue.book.cue? = some d → d.goMode = .manual

namespace State.Hand

/-- R73: the hand-over up to the reports of its engine. -/
theorem hands (h : s.Hand f c) : (s.engineHandOver f.changePoint c.mapRef c.countIn).Hands (s.handOver false) f c := by
  have plays := s.handToEngine_plays f c
  have hands := State.handOver_hands false h.flight h.known plays.cue h.alone h.clean
  unfold handToEngine at hands
  rw [if_neg fun k => Bool.false_ne_true k.1] at hands
  exact hands

theorem handsOver (h : s.Hand f c) : s.HandsOver (settleN (m + 1) (s.handOver false)) f c := by
  exact State.handOver_settled h.flight h.known h.alone h.clean h.settled h.manual

theorem idle (h : s.Hand f c) :
    (s.handOver false).cue.followCue = none ∧ ∀ bar, (s.handOver false).cue.barCue bar = none := by
  rw [h.hands.cue, (s.engineHandOver_plays _ _ _).cue]
  exact CueEngine.idle_of_manual h.manual

/-- R72, R73: where the engine hands the report of a bar at most, the hand-over is complete. -/
theorem settle_ofBar (h : s.Hand f c) (hr : Report.ofBar (s.engineHandOver f.changePoint c.mapRef c.countIn).reports) :
    settleN (m + 1) (s.handOver false) = { s.handOver false with reports := [] } := by
  exact settleN_ofBar (h.hands.reports ▸ hr) h.idle.2

theorem settle_ofBar_click (h : s.Hand f c)
    (hr : Report.ofBar (s.engineHandOver f.changePoint c.mapRef c.countIn).reports) :
    (settleN (m + 1) (s.handOver false)).click = (s.engineHandOver f.changePoint c.mapRef c.countIn).click := by
  rw [h.settle_ofBar hr]
  exact h.hands.click

/-! ## No map (R35) -/

theorem silenced (h : s.Hand f c) (href : c.mapRef = .silence) :
    (settleN (m + 1) (s.handOver false)).click.context = none ∧ (settleN (m + 1) (s.handOver false)).click.release = false ∧
      (settleN (m + 1) (s.handOver false)).click.taps = [] := by
  have engine : Report.ofBar (s.engineHandOver f.changePoint .silence c.countIn).reports ∧
      (s.engineHandOver f.changePoint .silence c.countIn).click.context = none ∧
      (s.engineHandOver f.changePoint .silence c.countIn).click.release = false ∧
      (s.engineHandOver f.changePoint .silence c.countIn).click.taps = [] := by
    unfold engineHandOver
    dsimp only
    rw [State.rehold_eq]
    exact ⟨.inl h.settled, rfl, rfl, rfl⟩
  rw [← href] at engine
  rw [h.settle_ofBar_click engine.1]
  exact engine.2

end State.Hand

/-! ## The context kept (R34, R35) -/

/-- R35: the engine of a CONTINUE, freed from its limit. -/
def State.freed (s : State) : State := { s with click := { s.click with limit := none } }

theorem State.runEngine_waits (h : ∀ m y, s.click.next = some (m, y) → s.time.S + 4800 < y) : s.runEngine = s := by
  unfold runEngine
  split
  · rfl
  next m y hn => exact if_neg (Nat.not_le.mpr (h m y hn))

/-- R26, R36: the engine's next move made. -/
def State.made (s : State) : Move → State
  | .beat => s.produceBeat
  | .mapEnd => s.report .mapEnd
  | .start => s.startSegment

theorem State.runEngine_due {m : Move} {y : Sample} (hn : s.click.next = some (m, y)) (hy : y ≤ s.time.S + 4800) :
    s.runEngine = s.made m := by
  unfold runEngine made
  rw [hn]
  exact if_pos hy

namespace State.Hand

theorem keeps (href : c.mapRef = .keep) :
    s.engineHandOver f.changePoint c.mapRef c.countIn = s.freed.runEngine := by
  rw [href]
  rfl

theorem kept_waits (h : s.Hand f c) (href : c.mapRef = .keep)
    (hw : ∀ m y, s.freed.click.next = some (m, y) → s.time.S + 4800 < y) :
    (settleN (m + 1) (s.handOver false)).click = s.freed.click := by
  have engine : s.engineHandOver f.changePoint c.mapRef c.countIn = s.freed := (keeps href).trans (runEngine_waits hw)
  rw [h.settle_ofBar_click (by rw [engine]; exact .inl h.settled), engine]

theorem kept_beat (h : s.Hand f c) (href : c.mapRef = .keep) (hk : s.click.context = some k) (hg : k.segment = some g)
    (hn : s.freed.click.next = some (.beat, k.nextOnset)) (hd : k.nextOnset ≤ s.time.S + 4800) :
    (settleN (m + 1) (s.handOver false)).click = s.freed.click.afterBeat k g ∧
      (c.entries = [] → ∀ n,
        (settleN (m + 1) (s.handOver false)).patchOf n = (s.patchOf n).counted (k.record g).onset ∧
        (settleN (m + 1) (s.handOver false)).ch n =
          (if k.muteFirst = true then (s.ch n).ran (k.record g) else ((s.ch n).clicked (k.record g)).ran (k.record g)).warnSet
            (s.cue.book.warnList s.cue.warned) (s.cue.book.warnList s.cue.standby) n f.changePoint) := by
  have engine : s.engineHandOver f.changePoint c.mapRef c.countIn =
      { s.freed.beaten k g with reports := s.reports ++ k.barReports g } :=
    (keeps href).trans ((runEngine_due hn hd).trans (produceBeat_reports (s := s.freed) hk hg))
  have frame := s.freed.beaten_frame k g
  have patch := s.freed.beaten_patchOf k g
  have ch := s.freed.beaten_ch k g
  have hands := h.hands
  have bar : Report.ofBar (s.engineHandOver f.changePoint c.mapRef c.countIn).reports := by
    rw [engine]
    show Report.ofBar (s.reports ++ k.barReports g)
    rw [h.settled]
    exact k.barReports_ofBar g
  rw [h.settle_ofBar bar]
  rw [engine] at hands
  generalize s.freed.beaten k g = b at *
  refine ⟨hands.click.trans frame.click, fun he n => ?_⟩
  obtain ⟨hpatch, hch⟩ := hands.plain he n
  refine ⟨hpatch.trans (patch n), hch.trans ?_⟩
  show Channel.warnSet (b.ch n) (b.cue.book.warnList b.cue.warned) (b.cue.book.warnList b.cue.standby) n f.changePoint = _
  rw [ch, frame.cue]
  rfl

theorem kept_ends (h : s.Hand f c) (href : c.mapRef = .keep) (hk : s.click.context = some k)
    (hn : s.freed.click.next = some (.mapEnd, k.nextOnset)) (hd : k.nextOnset ≤ s.time.S + 4800) :
    (settleN (m + 1) (s.handOver false)).click = { s.freed.click with context := none } ∧
      (settleN (m + 1) (s.handOver false)).port =
        (s.port.offer (s.cue.firedNotice f c s.time.S)).offer (.mapEnd k.map k.nextOnset s.time.S) := by
  have engine : s.engineHandOver f.changePoint c.mapRef c.countIn = s.freed.report .mapEnd :=
    (keeps href).trans (runEngine_due hn hd)
  have hands := h.hands
  have idle := h.idle
  rw [engine] at hands
  generalize s.handOver false = w at hands idle
  have handed : w.reports = [.mapEnd] := by
    rw [hands.reports]
    show s.reports ++ _ = _
    rw [h.settled]
    rfl
  have click : w.click = s.freed.click := hands.click
  have ended : State.mapEnded { w with reports := [] } = some k.nextOnset :=
    mapEnded_eq (s := { w with reports := [] }) (by show w.click.next = _; rw [click]; exact hn) fun f' hf' => by
      rw [show State.cue { w with reports := [] } = _ from hands.cue] at hf'
      cases hf'
  have context : w.click.context = some k := by rw [click]; exact hk
  have taken : State.takeReport { w with reports := [] } .mapEnd = State.discardMap { w with reports := [] } k.nextOnset := by
    unfold takeReport
    rw [ended]
    exact takeMapEnd_discards (s := { w with reports := [] }) (.inl idle.1) _
  rw [settleN_cons handed, taken, State.discardMap_eq (s := { w with reports := [] }) context, settleN_nil rfl]
  refine ⟨congrArg (fun e : ClickEngine => { e with context := none }) click, ?_⟩
  show w.port.offer (.mapEnd k.map k.nextOnset w.time.S) = _
  rw [hands.port, hands.time]
  rfl

end State.Hand

/-! ## A TAP or FREE segment entered (R23, R28, R41) -/

/-- R28, R41: the engine in the segment that follows, with a pending hold point found again at `z`. -/
def ClickEngine.enteredAt (e : ClickEngine) (k : Context) (g : Segment) (z : Sample) : ClickEngine :=
  { e.entered k g with holdPoint := e.holdPoint.map fun _ => z }

theorem State.startSegment_held (hk : s.click.context = some k) (hg : k.segment = some g) (hl : s.click.limit = none) :
    ∃ x, s.startSegment =
      State.placeTap { s with
        click := s.click.enteredAt k g (s.time.S + 4800), ctl := { s.ctl with holdPending := x } } := by
  have moved : s.mapClick ClickEngine.startSegment = { s with click := s.click.entered k g } := by
    rw [mapClick, ClickEngine.startSegment_eq hk hg]
  have pulled : ∃ x, State.pullHold { s with click := s.click.entered k g } =
      { s with click := s.click.enteredAt k g (s.time.S + 4800), ctl := { s.ctl with holdPending := x } } := by
    unfold pullHold ClickEngine.enteredAt
    cases hh : s.click.holdPoint with
    | none =>
      refine ⟨s.ctl.holdPending, ?_⟩
      rw [show ({ s with click := s.click.entered k g } : State).click.holdPoint = none from hh]
      show ({ s with click := s.click.entered k g } : State) =
        { s with click := { s.click.entered k g with holdPoint := none } }
      rw [← hh]
      rfl
    | some y =>
      rw [show ({ s with click := s.click.entered k g } : State).click.holdPoint = some y from hh]
      exact ⟨_, rfl⟩
  obtain ⟨x, pulled⟩ := pulled
  refine ⟨x, ?_⟩
  unfold startSegment
  rw [moved, pulled]
  congr 1
  unfold pullLimit
  rw [show ({ s with click := s.click.enteredAt k g (s.time.S + 4800), ctl := { s.ctl with holdPending := x } } : State).click.limit =
    none from hl]

theorem ClickEngine.held_of_next {e : ClickEngine} {r : Move × Sample} (h : e.next = some r) : e.held = false := by
  by_contra held
  have none : e.next = none := by
    unfold next state
    rw [Bool.not_eq_false] at held
    rw [held]
    split <;> rfl
  rw [none] at h
  cases h

theorem ClickEngine.enteredAt_state {e : ClickEngine} {h : Segment} (hn : k.segments[k.segmentIndex + 1]? = some h)
    (hc : k.countIn = none) (held : e.held = false) (z : Sample) (hk : h.kind = .tap ∨ h.kind = .free) :
    (e.enteredAt k g z).state = .waitTap ↔ h.kind = .tap := by
  have state : (e.enteredAt k g z).state = (e.entered k g).state := rfl
  rw [state, ClickEngine.entered_state hn hc held]
  rcases hk with hk | hk <;> rw [hk] <;> simp

namespace State.Hand

theorem kept_starts {h : Segment} (hand : s.Hand f c) (href : c.mapRef = .keep) (hk : s.click.context = some k)
    (hg : k.segment = some g) (hnext : k.segments[k.segmentIndex + 1]? = some h) (hkind : h.kind = .tap ∨ h.kind = .free)
    (hcount : k.countIn = none) (hn : s.freed.click.next = some (.start, k.nextOnset))
    (hd : k.nextOnset ≤ s.time.S + 4800) :
    let e := s.freed.click.enteredAt k g (s.time.S + 4800)
    (h.kind = .free ∨ e.taps.length < 2 → (settleN (m + 1) (s.handOver false)).click = e) ∧
      (h.kind = .tap → 2 ≤ e.taps.length →
        (settleN (m + 1) (s.handOver false)).click =
          { e with
            context := some
              { k.enter (k.segmentIndex + 1) with
                acc := tapFirstOnset (e.taps.getLastD 0) (tapInterval e.taps) (s.time.S + 4800) * 65536
                tempo := tapTempo e.taps, tapPlaced := true, lastOnset := none, muteFirst := false } }) := by
  intro e
  obtain ⟨x, start⟩ := State.startSegment_held (s := s.freed) hk hg rfl
  have engine : s.engineHandOver f.changePoint c.mapRef c.countIn =
      State.placeTap { s with click := e, ctl := { s.ctl with holdPending := x } } :=
    (keeps href).trans ((runEngine_due hn hd).trans start)
  have state := ClickEngine.enteredAt_state (g := g) hnext hcount (ClickEngine.held_of_next hn) (s.time.S + 4800) hkind
  have silent : Report.ofBar (s.engineHandOver f.changePoint c.mapRef c.countIn).reports := by
    rw [engine]
    obtain ⟨e', placed, -, -⟩ := State.Plays.placeTap_click { s with click := e, ctl := { s.ctl with holdPending := x } }
    rw [placed]
    exact .inl hand.settled
  rw [hand.settle_ofBar_click silent, engine]
  refine ⟨fun hwait => ?_, fun htap htwo => ?_⟩
  · rw [placeTap_waits]
    rintro ⟨waits, two⟩
    have tap := state.mp waits
    rcases hwait with hfree | hfew
    · rw [hfree] at tap
      cases tap
    · exact absurd two (Nat.not_le.mpr hfew)
  · rw [placeTap_places (s := { s with click := e, ctl := { s.ctl with holdPending := x } }) rfl (state.mpr htap) htwo]

end State.Hand

end Sys2Proof.Machine
end

section
/-! PROOFS. A hand-over to a map: its context, count-in, hold point and first beat (R32, R35, R41). -/

namespace Sys2Proof.Machine

variable {s t u : State} {c : Cue} {f : Flight} {g : Segment} {gs : List Segment} {n bars : Nat} {c0 : Sample} {m : Bool}
  {fuel : Nat}

/-! ## The context built (R32, R35) -/

/-- R32, R35: the context at the start of the map `n`, whose first segment is `g`, with a count-in to come. -/
def Context.opening (n : Nat) (gs : List Segment) (g : Segment) (c0 : Sample) (m : Bool) (k : Option CountIn) : Context :=
  { map := n, segments := gs, segmentIndex := 0, beatIndex := 0, bar := 1, beatInBar := 1, pass := 1, countIn := k
    acc := c0 * 65536, tempo := g.startTempo, lastOnset := none, tapPlaced := false, moveDue := false, muteFirst := m }

/-- R32: the count-in bars of a cue, none before a TAP or FREE segment. -/
def Segment.countInBars (g : Segment) (bars : Nat) : Nat := if g.kind = .metered ∨ g.kind = .vamp then bars else 0

theorem Segment.isStatic_iff : g.isStatic = true ↔ g.kind = .metered ∨ g.kind = .vamp := by
  unfold isStatic
  cases g.kind <;> simp

theorem Context.build_opening (hg : gs.head? = some g) (n bars : Nat) (c0 : Sample) (m : Bool) :
    { Context.build n gs c0 bars with muteFirst := m } =
      Context.opening n gs g c0 m (countInOf (g.countInBars bars) g.beatsPerBar g.startTempo) := by
  have first : gs[0]? = some g := by
    rw [← List.head?_eq_getElem?]
    exact hg
  have bar : firstBar gs 0 = 1 := rfl
  rw [Context.build_eq n hg]
  unfold Context.start Context.opening Segment.countInBars
  rw [first, bar]
  by_cases hs : g.isStatic = true
  · rw [if_pos hs, if_pos (Segment.isStatic_iff.mp hs)]
    rfl
  · rw [if_neg hs, if_neg (mt Segment.isStatic_iff.mpr hs), countInOf_none]
    rfl

/-! ## The walk through a count-in (R41) -/

theorem Context.walk_countIn {c : Context} (hg : c.segment = some g) (hm : c.moveDue = false) (hb : c.beatInBar = 1)
    {k : CountIn} (hk : c.countIn = some k) (hr : 1 ≤ k.remaining) (fuel : Nat) (hf : k.remaining ≤ fuel) (rel : Bool) :
    walk Context.atMainDownbeat none fuel c rel = (c.acc + k.remaining * beatPeriod k.tempo) / 65536 := by
  have inside : c.pastLast = false := by
    have := List.getElem?_eq_some_iff.mp hg
    simp [Context.pastLast, this.1]
  induction fuel generalizing c k rel with
  | zero => omega
  | succ fuel ih =>
    have go : (c.moveDue || c.pastLast || c.atMainDownbeat) = false := by simp [hm, inside, Context.atMainDownbeat, hk]
    rw [walk_of_go go, Context.advance_countIn hg hk]
    dsimp only
    by_cases hone : k.remaining = 1
    · have none : k.next g.beatsPerBar = none := if_pos (Nat.le_of_eq hone)
      rw [walk_of_stop (by simp [Context.atMainDownbeat, none, hb]), hone, Nat.one_mul]
      rfl
    · obtain ⟨k', next, remaining, tempo⟩ : ∃ k', k.next g.beatsPerBar = some k' ∧ k'.remaining = k.remaining - 1 ∧
          k'.tempo = k.tempo := by
        unfold CountIn.next
        rw [if_neg (by omega)]
        split <;> exact ⟨_, rfl, rfl, rfl⟩
      rw [next]
      refine (ih (c := { c with acc := c.acc + beatPeriod k.tempo, tempo := k.tempo, countIn := some k' }) (k := k') hg hm hb rfl
        (by omega) (by omega) _ inside).trans ?_
      rw [remaining, tempo]
      congr 1
      obtain ⟨r, hr⟩ := Nat.exists_eq_add_of_le hr
      rw [hr, Nat.add_sub_cancel_left, Nat.add_mul, Nat.one_mul]
      dsimp only
      omega

theorem Context.opening_segment (hg : gs.head? = some g) (k : Option CountIn) :
    (Context.opening n gs g c0 m k).segment = some g := by
  show gs[0]? = some g
  rw [← List.head?_eq_getElem?]
  exact hg

theorem onset_rebased (x : Sample) : x * 65536 / 65536 = x := Nat.mul_div_cancel x (by decide)

/-- R25: a map plays on from its start where its first segment is METERED or VAMP, and waits in any other. -/
theorem ClickEngine.opening_produces {e : ClickEngine} (hc : e.context =
      some (Context.opening n gs g c0 m (countInOf (g.countInBars bars) g.beatsPerBar g.startTempo)))
    (hg : gs.head? = some g) (hheld : e.held = false) :
    e.state.produces = true ↔ g.kind = .metered ∨ g.kind = .vamp := by
  refine ⟨fun h => ?_, fun hs => ClickEngine.produces hheld hc (Context.opening_segment hg _) (.inr (hs.imp_right .inl))⟩
  by_contra hs
  have bars' : g.countInBars bars = 0 := if_neg hs
  have segment : (Context.opening n gs g c0 m none).segment = some g := Context.opening_segment hg none
  have main : (Context.opening n gs g c0 m none).countIn = none := rfl
  have unplaced : (Context.opening n gs g c0 m none).tapPlaced = false := rfl
  unfold state at h
  rw [hheld, hc, bars', countInOf_none] at h
  obtain ⟨hm, hv⟩ := not_or.mp hs
  cases hk : g.kind <;> simp_all [EngineState.produces]

/-- R41: the hold point found in a context just built: the first beat that no count-in makes. -/
theorem ClickEngine.holdPointAt_opening {e : ClickEngine} (hc : e.context =
      some (Context.opening n gs g c0 m (countInOf (g.countInBars bars) g.beatsPerBar g.startTempo)))
    (hg : gs.head? = some g) (hheld : e.held = false) (hl : e.limit = none) (hbars : bars ≤ 4) (h1 : 1 ≤ g.beatsPerBar)
    (h15 : g.beatsPerBar ≤ 15) :
    e.holdPointAt c0 = (c0 * 65536 + g.countInBars bars * g.beatsPerBar * beatPeriod g.startTempo) / 65536 := by
  have plays := ClickEngine.opening_produces hc hg hheld
  by_cases hs : g.kind = .metered ∨ g.kind = .vamp
  · rw [ClickEngine.holdPointAt_producing c0 hc (plays.mpr hs), hl]
    have bars' : g.countInBars bars = bars := if_pos hs
    rw [bars']
    by_cases hb : bars = 0
    · subst hb
      rw [countInOf_none, walk_of_stop (by simp [Context.opening, Context.atMainDownbeat]), Nat.zero_mul, Nat.zero_mul,
        Nat.add_zero]
      show c0 * 65536 / 65536 = _
      rfl
    · rw [countInOf_some hb h1]
      have positive : 1 ≤ bars * g.beatsPerBar := Nat.mul_pos (by omega) h1
      have most : bars * g.beatsPerBar ≤ 4 * 15 := Nat.mul_le_mul hbars h15
      exact Context.walk_countIn (Context.opening_segment hg _) rfl rfl (k := ⟨bars * g.beatsPerBar, bars, 1, g.startTempo⟩)
        rfl positive walkLimit (by unfold walkLimit; dsimp only; omega) _
  · have bars' : g.countInBars bars = 0 := if_neg hs
    rw [bars', Nat.zero_mul, Nat.zero_mul, Nat.add_zero, onset_rebased]
    exact ClickEngine.holdPointAt_idle c0 (Bool.eq_false_iff.mpr (mt plays.mp hs))

/-! ## The first beat (R26, R29, R32) -/

/-- R29, R32: the record of the first beat of a map handed over, and the position after it. -/
structure BeatRecord.Opens (b : BeatRecord) (k : Context) (n : Nat) (gs : List Segment) (g : Segment) (c0 : Sample) (bars : Nat) :
    Prop where
  onset : b.onset = c0
  tempo : b.tempo = g.startTempo
  beat : b.beatInBar = 1
  level : b.level = .down
  bar : b.bar = if bars = 0 then 1 else -(bars : Int)
  countdown : b.countdown = if bars = 0 then none else some (bars * g.beatsPerBar)
  map : k.map = n
  segments : k.segments = gs
  acc : k.acc = c0 * 65536 + beatPeriod g.startTempo
  countIn : bars ≠ 0 → k =
    { Context.opening n gs g c0 false (
        if bars * g.beatsPerBar = 1 then none
        else if g.beatsPerBar = 1 then some ⟨bars * g.beatsPerBar - 1, bars - 1, 1, g.startTempo⟩
        else some ⟨bars * g.beatsPerBar - 1, bars, 2, g.startTempo⟩) with
      acc := c0 * 65536 + beatPeriod g.startTempo, lastOnset := some c0 }

theorem CountIn.next_first (h1 : 1 ≤ g.beatsPerBar) (hb : bars ≠ 0) (T : Nat) :
    CountIn.next ⟨bars * g.beatsPerBar, bars, 1, T⟩ g.beatsPerBar =
      if bars * g.beatsPerBar = 1 then none
      else if g.beatsPerBar = 1 then some ⟨bars * g.beatsPerBar - 1, bars - 1, 1, T⟩
      else some ⟨bars * g.beatsPerBar - 1, bars, 2, T⟩ := by
  have positive : 1 ≤ bars * g.beatsPerBar := Nat.mul_pos (Nat.pos_of_ne_zero hb) h1
  unfold CountIn.next
  by_cases hone : bars * g.beatsPerBar = 1
  · rw [if_pos (Nat.le_of_eq hone), if_pos hone]
  · rw [if_neg (by dsimp only; omega), if_neg hone]
    by_cases h : g.beatsPerBar = 1
    · rw [if_pos (Nat.le_of_eq h), if_pos h]
    · rw [if_neg (by dsimp only; omega), if_neg h]

theorem Segment.tempoAt_first (hs : g.kind = .metered ∨ g.kind = .vamp) (T : Nat) : g.tempoAt 0 T = g.startTempo := by
  have ramp (k : Nat) : rampTempo g.startTempo g.target k 0 = g.startTempo := by
    unfold rampTempo
    cases g.target <;> simp
  unfold tempoAt
  rcases hs with hs | hs <;> rw [hs] <;> exact ramp _

theorem Context.opening_opens (hg : gs.head? = some g) (hs : g.kind = .metered ∨ g.kind = .vamp) (h1 : 1 ≤ g.beatsPerBar)
    (rel : Bool) :
    let k := Context.opening n gs g c0 m (countInOf bars g.beatsPerBar g.startTempo)
    (k.record g).Opens { (k.advance rel).1 with lastOnset := some c0, muteFirst := false } n gs g c0 bars := by
  intro k
  have segment : k.segment = some g := Context.opening_segment hg _
  have onset := onset_rebased c0
  obtain ⟨map, segments⟩ := k.advance_map rel
  by_cases hb : bars = 0
  · have main : k.countIn = none := by
      show countInOf bars _ _ = none
      rw [hb, countInOf_none]
    have tempo : g.tempoAt k.beatIndex k.tempo = g.startTempo := Segment.tempoAt_first hs _
    have acc : (k.advance rel).1.acc = c0 * 65536 + beatPeriod g.startTempo := by
      rw [Context.advance_acc, k.beatTempo_main segment main, tempo]
      rfl
    rw [Context.record_main segment main]
    exact ⟨onset, tempo, rfl, rfl, by rw [if_pos hb]; rfl, by rw [if_pos hb], map, segments, acc, fun h => absurd hb h⟩
  · have count : k.countIn = some ⟨bars * g.beatsPerBar, bars, 1, g.startTempo⟩ := countInOf_some hb h1
    have countdown : (bars - 1) * g.beatsPerBar + (g.beatsPerBar - 1 + 1) = bars * g.beatsPerBar := by
      obtain ⟨j, rfl⟩ := Nat.exists_eq_succ_of_ne_zero hb
      rw [Nat.sub_add_cancel h1, Nat.succ_mul, Nat.succ_sub_one]
    have advance := Context.advance_countIn (rel := rel) segment count
    rw [CountIn.next_first h1 hb] at advance
    rw [Context.record_countIn g count]
    refine ⟨onset, rfl, rfl, rfl, by rw [if_neg hb], by rw [if_neg hb]; exact congrArg some countdown, map, segments, ?_, fun _ => ?_⟩
    · rw [advance]
      rfl
    · rw [advance]
      rfl

/-! ## The engine at the change point (R35, R41) -/

/-- R35, R41: the engine in the map built, with a pending hold point found again. -/
def ClickEngine.opened (e : ClickEngine) (n : Nat) (gs : List Segment) (g : Segment) (c0 : Sample) (bars : Nat) : ClickEngine :=
  { e with
    context := some (Context.opening n gs g c0 (decide (e.context.bind Context.lastOnset = some c0))
      (countInOf (g.countInBars bars) g.beatsPerBar g.startTempo))
    limit := none, release := false, taps := []
    holdPoint := e.holdPoint.map fun _ =>
      (c0 * 65536 + g.countInBars bars * g.beatsPerBar * beatPeriod g.startTempo) / 65536 }

theorem State.engineHandOver_opened (hg : (s.cue.book.segments n).head? = some g) (hheld : s.click.held = false)
    (hbars : bars ≤ 4) (h1 : 1 ≤ g.beatsPerBar) (h15 : g.beatsPerBar ≤ 15) (c0 : Sample) :
    ∃ x, s.engineHandOver c0 (.map n) bars =
      State.runEngine { s with
        click := s.click.opened n (s.cue.book.segments n) g c0 bars, ctl := { s.ctl with holdPending := x } } := by
  have built := Context.build_opening hg n bars c0 (decide (s.click.context.bind Context.lastOnset = some c0))
  have moved : s.mapClick (fun e => e.build n (s.cue.book.segments n) c0 bars) =
      { s with click :=
        { s.click with
          context := some (Context.opening n (s.cue.book.segments n) g c0
            (decide (s.click.context.bind Context.lastOnset = some c0)) (countInOf (g.countInBars bars) g.beatsPerBar g.startTempo))
          limit := none, release := false, taps := [] } } := by
    rw [← built]
    rfl
  have hold := ClickEngine.holdPointAt_opening
    (e := { s.click with
      context := some (Context.opening n (s.cue.book.segments n) g c0
        (decide (s.click.context.bind Context.lastOnset = some c0)) (countInOf (g.countInBars bars) g.beatsPerBar g.startTempo))
      limit := none, release := false, taps := [], holdPoint := none }) rfl hg hheld rfl hbars h1 h15
  unfold engineHandOver
  dsimp only
  rw [moved, State.rehold_eq]
  dsimp only
  rw [hold]
  exact ⟨_, rfl⟩

theorem ClickEngine.next_none {e : ClickEngine} {c : Context} (hc : e.context = some c)
    (h : e.state.produces = false ∨ e.blocked c.nextOnset = true) : e.next = none := by
  unfold next
  rw [hc]
  dsimp only
  rcases h with h | h <;> rw [h] <;> simp

/-- R26, R41: the opening waits in a TAP or FREE segment, and where a hold point stands at its first beat. -/
theorem ClickEngine.opened_waits {e : ClickEngine} (hg : gs.head? = some g) (hheld : e.held = false)
    (h : ¬ (g.kind = .metered ∨ g.kind = .vamp) ∨ (g.countInBars bars = 0 ∧ e.holdPoint ≠ none)) :
    (e.opened n gs g c0 bars).next = none := by
  refine ClickEngine.next_none rfl (h.imp (fun hs => ?_) fun ⟨hb, hh⟩ => ?_)
  · exact Bool.eq_false_iff.mpr (mt (ClickEngine.opening_produces (e := e.opened n gs g c0 bars) rfl hg hheld).mp hs)
  · obtain ⟨x, hx⟩ := Option.ne_none_iff_exists'.mp hh
    unfold blocked opened reached Context.nextOnset onsetOf Context.opening
    simp [hb, hx]

/-- R26: the opening of a METERED or VAMP segment is a beat at the change point. -/
theorem ClickEngine.opened_beat {e : ClickEngine} (hg : gs.head? = some g) (hheld : e.held = false)
    (hs : g.kind = .metered ∨ g.kind = .vamp) (h1 : 1 ≤ g.beatsPerBar) (low : 2000 ≤ g.startTempo)
    (high : g.startTempo ≤ 40000) (h : g.countInBars bars ≠ 0 ∨ e.holdPoint = none) :
    (e.opened n gs g c0 bars).next = some (.beat, c0) := by
  have plays := (ClickEngine.opening_produces (e := e.opened n gs g c0 bars) rfl hg hheld).mpr hs
  have onset (k : Option CountIn) (m : Bool) : (Context.opening n gs g c0 m k).nextOnset = c0 := onset_rebased c0
  have clear : (e.opened n gs g c0 bars).blocked c0 = false := by
    unfold blocked opened reached
    cases hh : e.holdPoint with
    | none => rfl
    | some x =>
      have hb := h.resolve_right (by rw [hh]; exact nofun)
      have period : 65536 ≤ beatPeriod g.startTempo := (by decide : 65536 ≤ 7200 * 65536).trans (le_beatPeriod (by omega) high)
      have beats : 1 ≤ g.countInBars bars * g.beatsPerBar := Nat.mul_pos (Nat.pos_of_ne_zero hb) h1
      have later : 65536 ≤ g.countInBars bars * g.beatsPerBar * beatPeriod g.startTempo :=
        period.trans (Nat.le_mul_of_pos_left _ beats)
      simp only [Option.map_some, Bool.false_or, decide_eq_false_iff_not, Nat.not_le]
      omega
  have next := ClickEngine.next_eq (e := e.opened n gs g c0 bars) rfl plays (by rw [onset]; exact clear)
  rwa [Context.move_beat (Context.opening_segment hg _) rfl, onset] at next

namespace State.Hand

theorem opened_engine (h : s.Hand f c) (href : c.mapRef = .map n) (hg : (s.cue.book.segments n).head? = some g) :
    (∃ k, (s.engineHandOver f.changePoint c.mapRef c.countIn).click.context = some k ∧ k.map = n ∧
      k.segments = s.cue.book.segments n) ∧ Report.ofBar (s.engineHandOver f.changePoint c.mapRef c.countIn).reports := by
  have some_ : s.cue.book.segments n ≠ [] := by
    intro nil
    rw [nil] at hg
    cases hg
  rw [href]
  exact State.engineHandOver_map some_ h.settled f.changePoint c.countIn

theorem opened (h : s.Hand f c) (href : c.mapRef = .map n) (hg : (s.cue.book.segments n).head? = some g) :
    ∃ k, (settleN (fuel + 1) (s.handOver false)).click.context = some k ∧ k.map = n ∧ k.segments = s.cue.book.segments n := by
  obtain ⟨⟨k, hk, same⟩, bar⟩ := h.opened_engine href hg
  exact ⟨k, by rw [h.settle_ofBar_click bar, hk], same⟩

section
variable (h : s.Hand f c) (href : c.mapRef = .map n) (hg : (s.cue.book.segments n).head? = some g)
  (hheld : s.click.held = false) (hbars : c.countIn ≤ 4) (h1 : 1 ≤ g.beatsPerBar) (h15 : g.beatsPerBar ≤ 15)
include h href hg hheld hbars h1 h15

theorem opened_waits
    (hw : ¬ (g.kind = .metered ∨ g.kind = .vamp) ∨ (g.countInBars c.countIn = 0 ∧ s.click.holdPoint ≠ none)) :
    (settleN (fuel + 1) (s.handOver false)).click =
      s.click.opened n (s.cue.book.segments n) g f.changePoint c.countIn := by
  obtain ⟨x, engine⟩ := State.engineHandOver_opened hg hheld hbars h1 h15 f.changePoint
  have none := ClickEngine.opened_waits (n := n) (c0 := f.changePoint) hg hheld hw
  rw [runEngine_waits (by
    intro m y hy
    rw [show ClickEngine.next _ = _ from none] at hy
    cases hy), ← href] at engine
  rw [h.settle_ofBar_click (h.opened_engine href hg).2, engine]

theorem opened_plays (hs : g.kind = .metered ∨ g.kind = .vamp) (low : 2000 ≤ g.startTempo) (high : g.startTempo ≤ 40000)
    (hw : g.countInBars c.countIn ≠ 0 ∨ s.click.holdPoint = none) (hdue : f.changePoint ≤ s.time.S + 4800) :
    (settleN (fuel + 1) (s.handOver false)).click =
      (s.click.opened n (s.cue.book.segments n) g f.changePoint c.countIn).afterBeat
        (Context.opening n (s.cue.book.segments n) g f.changePoint
          (decide (s.click.context.bind Context.lastOnset = some f.changePoint))
          (countInOf (g.countInBars c.countIn) g.beatsPerBar g.startTempo)) g := by
  obtain ⟨x, engine⟩ := State.engineHandOver_opened hg hheld hbars h1 h15 f.changePoint
  have next := ClickEngine.opened_beat (n := n) (c0 := f.changePoint) hg hheld hs h1 low high hw
  generalize hu : ({ s with
    click := s.click.opened n (s.cue.book.segments n) g f.changePoint c.countIn
    ctl := { s.ctl with holdPending := x } } : State) = u at engine
  have click : u.click = s.click.opened n (s.cue.book.segments n) g f.changePoint c.countIn := by rw [← hu]
  have time : u.time = s.time := by rw [← hu]
  rw [runEngine_due (by rw [click]; exact next) (by rw [time]; exact hdue), ← href] at engine
  have context : u.click.context = some (Context.opening n (s.cue.book.segments n) g f.changePoint
      (decide (s.click.context.bind Context.lastOnset = some f.changePoint))
      (countInOf (g.countInBars c.countIn) g.beatsPerBar g.startTempo)) := by
    rw [click]
    rfl
  have segment := Context.opening_segment (n := n) (c0 := f.changePoint) (g := g)
    (m := decide (s.click.context.bind Context.lastOnset = some f.changePoint)) hg
    (countInOf (g.countInBars c.countIn) g.beatsPerBar g.startTempo)
  rw [h.settle_ofBar_click (h.opened_engine href hg).2, engine, ← click]
  generalize Context.opening n (s.cue.book.segments n) g f.changePoint
    (decide (s.click.context.bind Context.lastOnset = some f.changePoint))
    (countInOf (g.countInBars c.countIn) g.beatsPerBar g.startTempo) = k at context segment
  have beat : u.made .beat = { u.beaten k g with reports := u.reports ++ k.barReports g } := produceBeat_reports context segment
  have frame := u.beaten_frame k g
  rw [beat]
  generalize u.beaten k g = b at frame
  exact frame.click

end

end State.Hand

end Sys2Proof.Machine
end

section
/-! PROOFS. CHANGE_DUE hands the cue in flight over at its change point (O21). -/

namespace Sys2Proof.Machine

variable {s t u : State} {c d : Cue} {f : Flight} {g : Segment} {n fuel : Nat} {k : Context}

/-! ## A pending edit, and a queued cue (R60, R74) -/

/-- R35: the engine's part of a hand-over to no map. -/
structure State.Silences (s v : State) : Prop where
  time : v.time = s.time
  cue : v.cue = s.cue
  context : v.click.context = none
  limit : v.click.limit = none
  reports : v.reports = s.reports

theorem State.handToEngine_silences (f : Flight) (href : c.mapRef = .silence) :
    s.Silences (s.handToEngine false f.changePoint c) := by
  unfold handToEngine
  rw [if_neg fun k => Bool.false_ne_true k.1, href]
  unfold engineHandOver
  dsimp only
  rw [State.rehold_eq]
  exact ⟨rfl, rfl, rfl, rfl, rfl⟩

/-- R60: an edit that waited for the slots to empty is applied by the hand-over. -/
theorem State.handOver_applies (hf : s.cue.inFlight = some f) (hc : s.cue.book.cue? f.fired.cue = some c)
    (hq : s.cue.queued = none) (he : s.cue.edit = .pendingApply) (href : c.mapRef = .silence) (hr : s.reports = []) :
    (s.handOver false).cue = (s.cue.handed f c).committed ∧ (s.handOver false).reports = [] := by
  have silent := State.handToEngine_silences (s := s) f href
  have hands := s.handCue_hands false f c
  rw [State.handOver_some false hf hc]
  generalize s.handToEngine false f.changePoint c = v at silent hands
  generalize s.handCue false f c = w at hands
  have cue : w.cue = s.cue.handed f c := by rw [hands.cue, silent.cue]
  rw [State.promote_none (by rw [cue]; exact hq)]
  have applied := Becomes.applyPending w (by rw [cue]; exact CueEngine.slotsEmpty_iff.mpr ⟨rfl, hq⟩)
  rw [if_pos (by rw [cue]; exact he), cue] at applied
  exact ⟨applied.cue, applied.reports.trans (hands.reports.trans (silent.reports.trans hr))⟩

/-- R74: the queued cue promoted where the engine has no context: its change point has come. -/
theorem State.promote_due {q : FiredCue} (hq : s.cue.queued = some q) (hc : s.click.context = none) :
    s.promote =
      { s with
        cue := { s.cue with queued := none, inFlight := some ⟨q, s.time.S + 4800⟩ }
        reports := s.reports ++ [.changeDue] } := by
  have point (k : ChangeKind) : s.click.changePoint (s.time.S + 4800) k = s.time.S + 4800 := by
    unfold ClickEngine.changePoint
    rw [hc]
  unfold promote
  rw [hq]
  dsimp only
  unfold fly placeFlight setChangePoint
  have horizon : s.horizon = s.time.S + 4800 := rfl
  rw [show State.click (s.mapCue _) = s.click from rfl, show State.horizon (s.mapCue _) = s.horizon from rfl, horizon, point]
  exact if_neg (Nat.lt_irrefl _)

theorem State.handOver_promotes {q : FiredCue} (hf : s.cue.inFlight = some f)
    (hc : s.cue.book.cue? f.fired.cue = some c) (hq : s.cue.queued = some q) (he : s.cue.edit ≠ .pendingApply)
    (href : c.mapRef = .silence) (hr : s.reports = [])
    (manual : ∀ d, s.cue.standby.bind s.cue.book.cue? = some d → d.goMode = .manual)
    (hd : s.cue.book.cue? q.cue = some d) (hdref : d.mapRef = .silence) :
    let t := settleN (fuel + 2) (s.handOver false)
    t.cue = { (s.cue.handed f c) with
      queued := none, running := some ⟨d.number, d.label, d.text, s.time.S + 4800⟩ } ∧
      t.click.context = none ∧ t.click.limit = none := by
  intro t
  have silent := State.handToEngine_silences (s := s) f href
  have hands := s.handCue_hands false f c
  have handOver := State.handOver_some false hf hc
  generalize s.handToEngine false f.changePoint c = v at silent hands
  generalize s.handCue false f c = w at hands handOver
  have cue : w.cue = s.cue.handed f c := by rw [hands.cue, silent.cue]
  have time : w.time.S = s.time.S := by rw [hands.time, silent.time]
  have reports : w.reports = [] := hands.reports.trans (silent.reports.trans hr)
  rw [State.promote_due (by rw [cue]; exact hq) (by rw [hands.click]; exact silent.context), reports, cue, time] at handOver
  replace handOver := handOver.trans (State.applyPending_none (by exact he))
  have second : State.Hand
      { w with
        cue := { s.cue.handed f c with queued := none, inFlight := some ⟨q, s.time.S + 4800⟩ }, reports := [] }
      ⟨q, s.time.S + 4800⟩ d := ⟨rfl, hd, rfl, he, rfl, manual⟩
  have same : t = settleN (fuel + 1) (State.handOver
      { w with
        cue := { s.cue.handed f c with queued := none, inFlight := some ⟨q, s.time.S + 4800⟩ }, reports := [] } false) := by
    show settleN (fuel + 2) (s.handOver false) = _
    rw [handOver, settleN_cons rfl]
    rfl
  have handed := second.handsOver (m := fuel)
  have quiet := second.silenced (m := fuel) hdref
  rw [← same] at handed quiet
  exact ⟨handed.cue, quiet.1, handed.limit⟩

/-! ## The engine of a map handed over (R32, R35, R41) -/

/-- R39: the opening beat of a METERED or VAMP segment, with the tap list empty. -/
theorem ClickEngine.afterBeat_static {e : ClickEngine} (hs : g.kind = .metered ∨ g.kind = .vamp) (k : Context) :
    e.afterBeat k g =
      { e with
        context := some { (k.advance e.release).1 with lastOnset := some (k.record g).onset, muteFirst := false }
        release := e.release && !(k.advance e.release).2
        kept := e.kept.drop (e.kept.length - 1) ++ [k.record g] } := by
  unfold afterBeat
  dsimp only
  rw [if_neg fun h => by rw [h.1] at hs; exact hs.elim nofun nofun]
  rfl

/-- R32, R35, R41: the engine at the change point of a map: it waits at the start, or has produced its first beat. -/
theorem State.Hand.opening (h : s.Hand f c) (href : c.mapRef = .map n) (hg : (s.cue.book.segments n).head? = some g)
    (hheld : s.click.held = false) (hdue : f.changePoint ≤ s.time.S + 4800) (hbars : c.countIn ≤ 4)
    (h1 : 1 ≤ g.beatsPerBar) (h15 : g.beatsPerBar ≤ 15) (low : 2000 ≤ g.startTempo) (high : g.startTempo ≤ 40000) :
    let bars := g.countInBars c.countIn
    let e := s.click.opened n (s.cue.book.segments n) g f.changePoint c.countIn
    let waits := ¬ (g.kind = .metered ∨ g.kind = .vamp) ∨ (bars = 0 ∧ s.click.holdPoint ≠ none)
    (waits → (settleN (fuel + 1) (s.handOver false)).click = e) ∧
      (¬ waits → ∃ (b : BeatRecord) (k : Context),
        b.Opens k n (s.cue.book.segments n) g f.changePoint bars ∧ k.lastOnset = some f.changePoint ∧
        (settleN (fuel + 1) (s.handOver false)).click =
          { e with context := some k, kept := s.click.kept.drop (s.click.kept.length - 1) ++ [b] }) := by
  intro bars e waits
  refine ⟨fun hw => h.opened_waits href hg hheld hbars h1 h15 hw, fun hw => ?_⟩
  obtain ⟨static, free⟩ := not_or.mp hw
  have static := not_not.mp static
  have free : bars ≠ 0 ∨ s.click.holdPoint = none := by
    by_contra none
    obtain ⟨zero, some_⟩ := not_or.mp none
    exact free ⟨not_not.mp zero, some_⟩
  have click := h.opened_plays (fuel := fuel) href hg hheld hbars h1 h15 static low high free hdue
  rw [ClickEngine.afterBeat_static static] at click
  have opens := Context.opening_opens (n := n) (c0 := f.changePoint) (bars := bars)
    (m := decide (s.click.context.bind Context.lastOnset = some f.changePoint)) hg static h1 false
  refine ⟨_, _, opens, rfl, click.trans ?_⟩
  rw [opens.onset]
  rfl

/-- R34: CHANGE_DUE taken at the sample `y` at which its limit came within the horizon. -/
theorem exec_changeDue {y : Sample} (hl : s.click.limit.map beforeHorizon = some y) (hy : y ≤ s.time.S) (hr : s.reports = []) :
    exec .changeDue s =
      .next ((settleN (8190 + 1) ((s.quiet.atS (s.takenAt y)).handOver false)).atS s.time.S).done := by
  have run := command_reached (v := fun s => s.click.limit.map beforeHorizon) (act := fun x => settle (x.report .changeDue))
    (s := s) hl hy
  rw [settle_changeDue (s := s.quiet.atS (s.takenAt y)) hr] at run
  exact run

theorem beforeHorizon_eq (x : Sample) : beforeHorizon x = x - 4800 := congrArg (x - ·) (rfl : Config.horizon = 4800)

theorem CueEngine.firedNotice_alone {k : CueEngine} (hq : k.queued = none) (f : Flight) (c : Cue) (y : Sample) :
    k.firedNotice f c y = .cueFired y f.fired f.changePoint c.mapRef k.standby false := by
  unfold firedNotice
  rw [hq]
  rfl

theorem ControlPort.offer_two {p : ControlPort} {a b : Notice} (ha : p.mask.getLsbD a.kind = true)
    (hb : p.mask.getLsbD b.kind = true) (hn : p.notices.length < 31) :
    ((p.offer a).offer b).notices = p.notices ++ [a, b] := by
  have first := ControlPort.offer_placed ha (Nat.lt_succ_of_lt hn)
  rw [ControlPort.offer_placed (by rw [ControlPort.offer_mask]; exact hb) (by rw [first, List.length_append]; exact Nat.succ_lt_succ hn),
    first, List.append_assoc]
  rfl

theorem Segment.countInBars_zero {bars : Nat} (h : ¬ (g.kind = .metered ∨ g.kind = .vamp)) : g.countInBars bars = 0 := if_neg h

/-- Settles O21: the engine's part by the map reference, then what every hand-over does; a pending edit and a promotion
come behind the first hand-over. -/
theorem handOvers : Obligations.HandOvers := by
  intro s x f c hl hx hr hf hc manual handed
  have due : s.click.limit.map beforeHorizon = some (x - 4800) := by rw [hl, Option.map_some, beforeHorizon_eq]
  have past : x - 4800 ≤ s.time.S := Nat.sub_le_of_le_add hx
  have named : ∃ y, y = x - 4800 := ⟨_, rfl⟩
  obtain ⟨y, hy⟩ := named
  rw [← hy] at due past ⊢
  have run := exec_changeDue due past hr
  refine ⟨fun hq he => ?_, fun hq he href => ?_, fun q d hq he href hd hdref => ?_⟩
  · have hand : State.Hand (s.quiet.atS (s.takenAt y)) f c := ⟨hf, hc, hq, he, hr, manual⟩
    have alone : (s.quiet.atS (s.takenAt y)).cue.queued = none := hq
    have done := hand.handsOver (m := 8190)
    have silenced := hand.silenced (m := 8190)
    have waits := hand.kept_waits (m := 8190)
    have beat (href : c.mapRef = .keep) (k : Context) (hk : s.click.context = some k) (g : Segment) :=
      hand.kept_beat (m := 8190) (k := k) (g := g) href hk
    have ends (href : c.mapRef = .keep) (k : Context) (hk : s.click.context = some k) :=
      hand.kept_ends (m := 8190) (k := k) href hk
    have starts (href : c.mapRef = .keep) (k : Context) (hk : s.click.context = some k) (g h : Segment) :=
      hand.kept_starts (m := 8190) (k := k) (g := g) (h := h) href hk
    have opened (n : Nat) (g : Segment) := hand.opened (fuel := 8190) (n := n) (g := g)
    have opening (n : Nat) (g : Segment) := hand.opening (fuel := 8190) (n := n) (g := g)
    generalize settleN (8190 + 1) _ = t at *
    have notices := done.notices
    refine ⟨_, run, done.cue, done.limit, done.held, silenced, fun href => ⟨waits href, fun k hk hdue => ⟨?_, ?_, ?_⟩⟩, ?_, ?_,
      done.expected, fun hm hroom => ?_, State.atS_time_back (s := s.quiet) done.time, done.vin, done.vout, done.ctl,
      done.reports, done.pending⟩
    · intro g hg hn
      exact beat href k hk g hg hn hdue
    · intro hn
      obtain ⟨click, port⟩ := ends href k hk hn hdue
      refine ⟨click, fun hm hm2 hroom => (ControlPort.arbitrate_notices _).trans ?_⟩
      show t.port.notices = _
      rw [port, CueEngine.firedNotice_alone alone, href]
      exact ControlPort.offer_two hm hm2 hroom
    · intro g h hg hnext hkind hcount hn
      have entered := starts href k hk g h hg hnext hkind hcount hn hdue
      unfold ClickEngine.enteredAt ClickEngine.entered at entered
      rw [Context.enter_eq hnext] at entered
      exact entered
    · intro n href hs
      obtain ⟨g, gs, hgs⟩ := List.exists_cons_of_ne_nil hs
      exact opened n g href (by show (s.cue.book.segments n).head? = _; rw [hgs]; rfl)
    · intro n g href hg hheld hdue hbars h1 h15 low high
      obtain ⟨still, plays⟩ := opening n g href hg hheld hdue hbars h1 h15 low high
      by_cases hw : ¬ (g.kind = .metered ∨ g.kind = .vamp) ∨ (g.countInBars c.countIn = 0 ∧ s.click.holdPoint ≠ none)
      · have none : g.countInBars c.countIn = 0 := hw.elim Segment.countInBars_zero And.left
        have click : t.click = _ := still hw
        unfold ClickEngine.opened at click
        have count : countInOf (g.countInBars c.countIn) g.beatsPerBar g.startTempo = Option.none := by
          rw [none, countInOf_none]
        rw [count] at click
        exact ⟨(congrArg ClickEngine.release click :), (congrArg ClickEngine.taps click :),
          (congrArg ClickEngine.held click).trans hheld, (congrArg ClickEngine.holdPoint click :),
          fun _ => ⟨(congrArg ClickEngine.context click :), (congrArg ClickEngine.kept click :)⟩, fun h => absurd hw h⟩
      · obtain ⟨b, k, opens, last, click⟩ := plays hw
        exact ⟨congrArg ClickEngine.release click, congrArg ClickEngine.taps click,
          (congrArg ClickEngine.held click).trans hheld, congrArg ClickEngine.holdPoint click, fun h => absurd h hw,
          fun _ => ⟨b, k, congrArg ClickEngine.kept click, opens.onset, opens.tempo, opens.beat, opens.level, opens.bar,
            opens.countdown, congrArg ClickEngine.context click, opens.map, opens.segments, opens.acc, last, opens.countIn⟩⟩
    · obtain ⟨rest, notices⟩ := notices hm hroom
      refine ⟨rest, (ControlPort.arbitrate_notices _).trans (notices.trans ?_)⟩
      rw [CueEngine.firedNotice_alone alone]
      rfl
  · have applied := State.handOver_applies (s := s.quiet.atS (s.takenAt y)) hf hc hq he href hr
    rw [settleN_nil applied.2] at run
    generalize State.handOver _ false = t at run applied
    have cue : t.cue = _ := applied.1
    exact ⟨_, run, congrArg CueEngine.book cue, congrArg CueEngine.serial cue, congrArg CueEngine.edit cue,
      congrArg CueEngine.buffer cue, (congrArg CueEngine.running cue :), congrArg CueEngine.inFlight cue⟩
  · have promoted := State.handOver_promotes (s := s.quiet.atS (s.takenAt y)) (fuel := 8189) hf hc hq he href hr manual hd
      hdref
    rw [show 8189 + 2 = 8190 + 1 from rfl] at promoted
    generalize settleN (8190 + 1) _ = t at run promoted
    exact ⟨_, run, promoted⟩

end Sys2Proof.Machine
end

section
/-! PROOFS. The gates of an MD input, and how its judge takes it (R39, R69, R76, R107, R110, R141). -/

namespace Sys2Proof.Machine

variable {s t u : State} {n : Station} {i : MdInput} {e : MdEnables} {b : Bool}

/-! ## The frame an MD input comes in (R122, R130) -/

/-- R122, R130: the state in which the MD inputs of a status frame are judged. -/
def State.reportedBy (s : State) (n : Station) (r : StationReport) : State := s.quiet.setCh n (s.statusTaken n r)

theorem State.reportedBy_ch (s : State) (n : Station) (r : StationReport) (m : Station) :
    (s.reportedBy n r).ch m = if m = n then s.statusTaken n r else s.ch m := s.quiet.ch_setCh n m _

theorem actStatusFrame_plain (hu : (s.ch n).link.state = .up) (r : StationReport) :
    actStatusFrame n ⟨r, [], none, (s.patchOf n).held, []⟩ s.quiet = s.reportedBy n r := by
  refine (actStatusFrame_up (s := s.quiet) hu r [] none (s.patchOf n).held).trans ?_
  refine (State.written_heldReport (s := s.quiet) _ _ _ _ ?_).trans ?_
  · cases hh : (s.patchOf n).held
    · exact .inl hh
    · exact .inr (.inl rfl)
  · exact s.quiet.setPatch_stands n (s.statusTaken n r)

/-- R141: an MD input judged, with its notice behind what its judge did. -/
theorem exec_mdInput {r : StationReport} {o : MdOutcome} (hu : (s.ch n).link.state = .up)
    (h : (if (s.ch n).assigned.role = .md then (s.reportedBy n r).judgeInput (s.ch n).assigned.md i
      else (s.reportedBy n r, .notMd)) = (t, o)) :
    exec (.statusFrame n ⟨r, [], none, (s.patchOf n).held, [i]⟩) s = .next (t.offer (.mdInput n i s.time.S o)).done := by
  refine command_done (act := actStatusFrame n ⟨r, [], none, (s.patchOf n).held, [i]⟩) ?_
  have first : actStatusFrame n ⟨r, [], none, (s.patchOf n).held, [i]⟩ s.quiet = (s.reportedBy n r).mdInput n i := by
    rw [← actStatusFrame_plain hu r]
    unfold actStatusFrame
    rw [if_pos (Channel.isUp_iff.mpr (show (s.quiet.ch n).link.state = .up from hu)),
      if_pos (Channel.isUp_iff.mpr (show (s.quiet.ch n).link.state = .up from hu))]
    rfl
  have assigned : ((s.reportedBy n r).ch n).assigned = (s.ch n).assigned := by
    rw [State.reportedBy_ch, if_pos rfl]
    rfl
  rw [first]
  unfold State.mdInput
  dsimp only
  rw [assigned, h]
  rfl

/-! ## The gates (R69, R76, R107, R141) -/

/-- R141: the enable of a kind of MD input. -/
def mdEnable (e : MdEnables) : MdInputKind → Bool
  | .go => e.go
  | .tap => e.tap
  | .release => e.release
  | .hold => e.hold
  | .stopCall => e.stopCall

theorem gate_shut {k : ControlMode} (hb : b = false) (hk : k = .remote) : (!b && decide (k = .remote)) = true := by
  rw [hb, hk]
  rfl

theorem gate_open {k : ControlMode} (h : b = true ∨ k = .local_) : ¬ (!b && decide (k = .remote)) = true := by
  rcases h with rfl | rfl
  · exact Bool.false_ne_true
  · simp

/-- R141: an input whose enable is clear, TAP and STOP_CALL in either mode and the others in REMOTE. -/
theorem State.judgeInput_disabled (hb : mdEnable e i.kind = false)
    (h : s.cue.mode = .remote ∨ (i.kind = .tap ∨ i.kind = .stopCall)) : s.judgeInput e i = (s, .disabled) := by
  unfold judgeInput
  cases hk : i.kind <;> rw [hk] at hb h
  case tap =>
    have off : e.tap = false := hb
    unfold mdTap
    rw [off]
    rfl
  case stopCall =>
    have off : e.stopCall = false := hb
    unfold mdStop
    rw [off]
    rfl
  all_goals
    have remote := h.resolve_right (by simp)
    exact if_pos (gate_shut hb remote)

/-! ## RELEASE (R76) -/

theorem State.judgeInput_release (hk : i.kind = .release) (h : mdEnable e .release = true ∨ s.cue.mode = .local_) :
    s.judgeInput e i =
      if s.click.accepts = true then ({ s with click := { s.click with release := true } }, .taken) else (s, .notVamping) := by
  unfold judgeInput
  rw [hk]
  refine (if_neg (gate_open h)).trans ?_
  unfold State.release
  by_cases ha : s.click.accepts = true
  · rw [if_pos ha, if_pos ha]
    rfl
  · rw [if_neg ha, if_neg ha]
    rfl

/-! ## TAP (R39, R40) -/

theorem EngineState.takesTaps {k : EngineState} :
    (k.produces || decide (k = .waitTap)) = true ↔ k ∈ [.countIn, .playing, .vamping, .waitTap] := by
  cases k <;> simp [EngineState.produces]

theorem ClickEngine.takesTap_iff {k : ClickEngine} :
    k.takesTap = true ↔ k.state ∈ [.countIn, .playing, .vamping, .waitTap] ∧
      ∃ c g, k.context = some c ∧ g.kind = .tap ∧
        (c.segments[c.currentIndex]? = some g ∨ c.segments[c.currentIndex + 1]? = some g) := by
  rw [← EngineState.takesTaps, ← ClickEngine.near_iff]
  unfold takesTap
  rw [Bool.and_eq_true]

theorem State.judgeInput_tap (hk : i.kind = .tap) (h : mdEnable e .tap = true) :
    s.judgeInput e i = if s.click.takesTap = true then (s.takeTap i.stamp, .taken) else (s, .notTaken) := by
  have on : e.tap = true := h
  unfold judgeInput mdTap
  rw [hk]
  dsimp only
  rw [on]
  rfl

theorem State.takeTap_bounce {x : Sample} (h : storeTap s.click.taps x = .bounce) : s.takeTap x = s := by
  unfold takeTap
  rw [h]

theorem Context.followTaps_eq (c : Context) (taps : List Sample) :
    c.followTaps taps =
      if c.tapPlaced = true ∧ c.moveDue = false ∧ c.segment.map Segment.kind = some .tap ∧ 2 ≤ taps.length then
        { c with tempo := tapTempo taps }
      else c := by
  have iff : (c.followsTaps && decide (2 ≤ taps.length)) = true ↔
      c.tapPlaced = true ∧ c.moveDue = false ∧ c.segment.map Segment.kind = some .tap ∧ 2 ≤ taps.length := by
    unfold followsTaps
    simp [and_assoc]
  unfold followTaps
  by_cases h : (c.followsTaps && decide (2 ≤ taps.length)) = true
  · rw [if_pos h, if_pos (iff.mp h)]
  · rw [if_neg h, if_neg (mt iff.mpr h)]

/-- R25: a tap stored leaves the engine's state. -/
theorem ClickEngine.tapped_state {k : ClickEngine} {c : Context} (hc : k.context = some c) (taps : List Sample) :
    ClickEngine.state { k with taps := taps, context := some (c.followTaps taps) } = k.state := by
  rw [Context.followTaps_eq]
  unfold state
  rw [hc]
  split <;> rfl

theorem State.takeTap_stored {x : Sample} {c : Context} {taps : List Sample} (h : storeTap s.click.taps x = .stored taps)
    (hc : s.click.context = some c) :
    s.takeTap x =
      State.placeTap { s with click := { s.click with taps := taps, context := some (c.followTaps taps) } } := by
  unfold takeTap
  rw [h]
  dsimp only
  show State.placeTap { s with click := { s.click with
    taps := taps, context := s.click.context.map fun c => c.followTaps taps } } = _
  rw [hc]
  rfl

/-- R25: the engine waits for taps at the start of a TAP segment. -/
theorem ClickEngine.waitTap_segment {k : ClickEngine} {c : Context} (h : k.state = .waitTap) (hc : k.context = some c) :
    c.tapPlaced = false ∧ ∃ g, c.segment = some g ∧ g.kind = .tap := by
  unfold state at h
  rw [hc] at h
  dsimp only at h
  split at h
  · cases h
  · split at h
    · cases h
    · cases hg : c.segment with
      | none =>
        rw [hg] at h
        cases h
      | some g =>
        rw [hg] at h
        dsimp only at h
        cases hk : g.kind <;> rw [hk] at h
        case tap =>
          cases hp : c.tapPlaced
          · exact ⟨rfl, g, rfl, hk⟩
          · rw [hp] at h
            cases h
        all_goals cases h

/-! ## HOLD (R104, R106, R107) -/

section
variable (hk : i.kind = .hold) (h : mdEnable e .hold = true ∨ s.cue.mode = .local_)
include hk h

theorem State.judgeInput_hold :
    s.judgeInput e i =
      match s.ctl.state with
      | .running => ((s.hold .md).1, .holdTaken)
      | .holding =>
        if s.ctl.continuePending.isSome = true then (s, .continueTaken) else (s.takeContinue 1 .md, .continueTaken)
      | .dark | .preshow | .stopped | .resuming => (s, .wrongState) := by
  unfold judgeInput
  rw [hk]
  refine (if_neg (gate_open h)).trans ?_
  cases s.ctl.state <;> rfl

theorem State.judgeInput_hold_taken (hs : s.ctl.state = .running) (hp : s.ctl.holdPending = none) :
    s.judgeInput e i =
      ({ s with
          click := { s.click with holdPoint := some (s.click.holdPointAt (s.time.S + 4800)) }
          ctl := { s.ctl with holdPending := some ⟨s.click.holdPointAt (s.time.S + 4800), .md⟩ } }, .holdTaken) := by
  rw [judgeInput_hold hk h, hs]
  dsimp only
  unfold State.hold
  rw [hp]
  rfl

theorem State.judgeInput_hold_stands (hs : s.ctl.state = .running) (hp : s.ctl.holdPending ≠ none) :
    s.judgeInput e i = (s, .holdTaken) := by
  obtain ⟨p, hp⟩ := Option.ne_none_iff_exists'.mp hp
  rw [judgeInput_hold hk h, hs]
  dsimp only
  unfold State.hold
  rw [hp]

theorem State.judgeInput_continue_stands (hs : s.ctl.state = .holding) (hp : s.ctl.continuePending ≠ none) :
    s.judgeInput e i = (s, .continueTaken) := by
  rw [judgeInput_hold hk h, hs]
  exact if_pos (Option.isSome_iff_ne_none.mpr hp)

theorem State.judgeInput_continue (hs : s.ctl.state = .holding) (hp : s.ctl.continuePending = none) :
    s.judgeInput e i = (s.takeContinue 1 .md, .continueTaken) := by
  rw [judgeInput_hold hk h, hs]
  dsimp only
  rw [hp]
  rfl

theorem State.judgeInput_hold_wrong (hs : s.ctl.state ∈ [ShowState.dark, .preshow, .stopped, .resuming]) :
    s.judgeInput e i = (s, .wrongState) := by
  rw [judgeInput_hold hk h]
  cases hx : s.ctl.state <;> rw [hx] at hs <;> simp at hs ⊢

end

/-! ## STOP_CALL (R110) -/

theorem State.judgeInput_stop (hk : i.kind = .stopCall) (h : mdEnable e .stopCall = true) :
    s.judgeInput e i =
      (s.judgeStop .md,
        match s.ctl.state.meets with
        | .dark => .wrongState
        | .stopped => .stopAdded
        | .show_ => .stopTaken) := by
  have on : e.stopCall = true := h
  unfold judgeInput mdStop
  rw [hk]
  dsimp only
  rw [on]
  rfl

/-! ## GO (R69, R81) -/

theorem State.judgeInput_go (hk : i.kind = .go) (h : mdEnable e .go = true ∨ s.cue.mode = .local_) :
    s.judgeInput e i =
      match s.callRefusal (s.cue.goTarget 0).isSome, s.cue.goTarget 0 with
      | none, some c => (settle ((s.takeCall c .md).countMdGo), .fired c.number s.cue.freeSlot)
      | some r, _ => (s, r.mdOutcome)
      | none, none => (s, .notFound) := by
  unfold judgeInput
  rw [hk]
  exact if_neg (gate_open h)

theorem CueEngine.goTarget_zero (k : CueEngine) : k.goTarget 0 = k.standby.bind k.book.cue? := by
  unfold goTarget
  cases k.standby.bind k.book.cue? with
  | none => rfl
  | some d => simp

section
variable (hk : i.kind = .go) (h : mdEnable e .go = true ∨ s.cue.mode = .local_)
include hk h

theorem State.judgeInput_go_refused {r : Reason} (hr : s.callRefusal (s.cue.standby.bind s.cue.book.cue?).isSome = some r) :
    s.judgeInput e i = (s, r.mdOutcome) := by
  rw [judgeInput_go hk h, CueEngine.goTarget_zero, hr]

theorem State.judgeInput_go_taken {d : Cue} (hd : s.cue.standby.bind s.cue.book.cue? = some d) (hr : s.callRefusal true = none) :
    s.judgeInput e i = (settle ((s.takeCall d .md).countMdGo), .fired d.number s.cue.freeSlot) := by
  rw [judgeInput_go hk h, CueEngine.goTarget_zero, hd, Option.isSome_some, hr]

end

/-- R81: the Cue Engine after a taken GO of source MD has been counted. -/
def CueEngine.mdCounted (k : CueEngine) : CueEngine :=
  { k with
    localEntry :=
      if k.mode = .local_ then k.localEntry.map fun e => { e with mdGos := e.mdGos + 1 } else k.localEntry }

theorem State.countMdGo_eq (s : State) : s.countMdGo = s.mapCue CueEngine.mdCounted := by
  unfold countMdGo mapCue CueEngine.mdCounted
  by_cases h : s.cue.mode = .local_
  · rw [if_pos h]
    simp only [h, if_true]
  · rw [if_neg h]
    simp only [h, if_false]

theorem State.Called.counted {cue : CueEngine} {k : ClickEngine} {rs : List Report} (h : s.Called t cue k rs) :
    s.Called t.countMdGo cue.mdCounted k rs := by
  rw [State.countMdGo_eq]
  exact { h with cue := congrArg CueEngine.mdCounted h.cue }

end Sys2Proof.Machine
end

section
/-! PROOFS. The gates and outcomes of an MD input of a status frame (O35). -/

namespace Sys2Proof.Machine

variable {s t u : State} {n : Station} {i : MdInput} {r : StationReport}

/-! ## Notices behind an act (R173) -/

theorem ControlPort.offer_notices_congr {p q : ControlPort} (hn : p.notices = q.notices) (hm : p.mask = q.mask) (x : Notice) :
    (p.offer x).notices = (q.offer x).notices := by
  have placed (p : ControlPort) : (p.offer x).notices =
      if p.mask.getLsbD x.kind = true ∧ p.notices.length < 32 then p.notices ++ [x] else p.notices := by
    rcases p.offer_cases x with ⟨k, hp⟩ | ⟨k, room, hp⟩ | ⟨k, room, hp⟩
    · rw [hp, if_neg fun h => Bool.false_ne_true (k.symm.trans h.1)]
    · rw [hp, if_pos ⟨k, room⟩]
    · rw [hp, if_neg fun h => Nat.not_lt.mpr room h.2]
  rw [placed, placed, hn, hm]

theorem ControlPort.foldl_offer_mask (xs : List Notice) (p : ControlPort) : (xs.foldl ControlPort.offer p).mask = p.mask := by
  induction xs generalizing p with
  | nil => rfl
  | cons x xs ih => exact (ih _).trans (p.offer_mask x)

theorem ControlPort.foldl_offer_length (xs : List Notice) (p : ControlPort) :
    (xs.foldl ControlPort.offer p).notices.length ≤ p.notices.length + xs.length := by
  induction xs generalizing p with
  | nil => exact Nat.le_refl _
  | cons x xs ih =>
    have first := p.offer_length_le x
    have rest := ih (p.offer x)
    rw [List.length_cons]
    show (xs.foldl ControlPort.offer (p.offer x)).notices.length ≤ _
    omega

theorem State.reportedBy_state (s : State) (n : Station) (r : StationReport) (m : Station) :
    ((s.reportedBy n r).ch m).link.state = (s.ch m).link.state := by
  rw [State.reportedBy_ch]
  split
  next h =>
    rw [h]
    rfl
  next => rfl

/-! ## TAP (R39, R40) -/

theorem State.judgeInput_tap_stored {e : MdEnables} {x : Context} {taps : List Sample} (hk : i.kind = .tap)
    (h : mdEnable e .tap = true) (ht : s.click.takesTap = true) (hs : storeTap s.click.taps i.stamp = .stored taps)
    (hx : s.click.context = some x) :
    s.judgeInput e i =
      (State.placeTap { s with click := { s.click with taps := taps, context := some (x.followTaps taps) } }, .taken) := by
  rw [State.judgeInput_tap hk h, if_pos ht, State.takeTap_stored hs hx]

/-- R39: an engine that waits for taps takes them. -/
theorem ClickEngine.takesTap_waiting {k : ClickEngine} {x : Context} (hs : k.state = .waitTap) (hx : k.context = some x)
    (hm : x.moveDue = false) : k.takesTap = true := by
  obtain ⟨-, g, hg, hk⟩ := ClickEngine.waitTap_segment hs hx
  refine ClickEngine.takesTap_iff.mpr ⟨by rw [hs]; simp, x, g, hx, hk, .inl ?_⟩
  unfold Context.currentIndex
  rw [hm]
  exact hg

theorem Context.followTaps_unplaced {c : Context} (h : c.tapPlaced = false) (taps : List Sample) : c.followTaps taps = c := by
  rw [Context.followTaps_eq, if_neg fun k => Bool.false_ne_true (h.symm.trans k.1)]

/-! ## GO (R69, R81) -/

theorem CueEngine.freeSlot_queued {k : CueEngine} (h : k.inFlight ≠ none) : k.freeSlot = .queued :=
  if_neg (mt Option.isNone_iff_eq_none.mp h)

theorem CueEngine.freeSlot_inFlight {k : CueEngine} (h : k.inFlight = none) : k.freeSlot = .inFlight :=
  if_pos (Option.isNone_iff_eq_none.mpr h)

theorem State.Called.notices {cue : CueEngine} {k : ClickEngine} {rs : List Report} (h : s.Called t cue k rs) (x : Notice) :
    (t.port.offer x).notices = (s.begun.offer x).notices := by
  obtain ⟨rs, port⟩ := h.port
  rw [port, ControlPort.offer_with_replies]

theorem State.begun_port (s : State) :
    s.begun.mask = s.port.mask ∧ s.begun.notices.length ≤ s.port.notices.length + 1 := by
  unfold begun
  split
  · exact ⟨ControlPort.offer_mask _ _, ControlPort.offer_length_le _ _⟩
  · exact ⟨rfl, Nat.le_succ _⟩

/-- R173: a notice behind a hand-over, where there is room for those of the hand-over and for it. -/
theorem State.HandsOver.last_notice {f : Flight} {d : Cue} {x : Notice} (h : t.HandsOver u f d)
    (hm : t.port.mask.getLsbD x.kind = true) (room : t.port.notices.length < 30) :
    (u.port.offer x).notices.getLast? = some x := by
  obtain ⟨xs, short, port⟩ := h.port
  have first := t.port.offer_length_le (t.cue.firedNotice f d t.time.S)
  have rest := ControlPort.foldl_offer_length xs (t.port.offer (t.cue.firedNotice f d t.time.S))
  have mask : u.port.mask = t.port.mask := by rw [port, ControlPort.foldl_offer_mask, ControlPort.offer_mask]
  rw [ControlPort.offer_placed (by rw [mask]; exact hm) (by rw [port]; omega), List.getLast?_concat]

/-- Settles O35: the gates, then the judge of each kind of input. -/
theorem mdInputs : Obligations.MdInputs := by
  intro s n r i hu frame c md off always note only live near
  have run {t : State} {o : MdOutcome} (hrole : (s.ch n).assigned.role = .md)
      (hj : (s.reportedBy n r).judgeInput md i = (t, o)) :
      exec frame s = .next (t.offer (.mdInput n i s.time.S o)).done := exec_mdInput hu (by rw [if_pos hrole]; exact hj)
  have stays {o : MdOutcome} (hrole : (s.ch n).assigned.role = .md)
      (hj : (s.reportedBy n r).judgeInput md i = (s.reportedBy n r, o)) : only o := run hrole hj
  have offIff : off ↔ mdEnable md i.kind = false := by
    show (match i.kind with
      | .go => md.go = false | .tap => md.tap = false | .release => md.release = false
      | .hold => md.hold = false | .stopCall => md.stopCall = false) ↔ _
    cases i.kind <;> exact Iff.rfl
  have asks (hl : live) {k : MdInputKind} (hk : i.kind = k) : (s.ch n).assigned.role = .md ∧
      (mdEnable md k = true ∨ s.cue.mode = .local_) := by
    obtain ⟨hrole, h⟩ := hl
    rw [offIff, hk, Bool.not_eq_false] at h
    exact ⟨hrole, h.imp_right And.left⟩
  have needs (hl : live) {k : MdInputKind} (hk : i.kind = k) (ha : k = .tap ∨ k = .stopCall) :
      (s.ch n).assigned.role = .md ∧ mdEnable md k = true := by
    obtain ⟨hrole, h⟩ := hl
    rw [offIff, hk, Bool.not_eq_false] at h
    exact ⟨hrole, h.resolve_right fun j => j.2 (by show i.kind = _ ∨ i.kind = _; rw [hk]; exact ha)⟩
  refine ⟨fun hrole => ?_, fun hrole hoff h => ?_, fun hl hk hn => ?_, fun hl hk hn => ?_, fun hl hk hn => ?_,
    fun hl hk hn hs hb => ?_, fun x taps hl hk hn hs hx hst => ?_, fun x taps hl hk hs hx hm hst hfew => ?_,
    fun x taps hl hk hs hx hm hst htwo => ?_, fun hl hk hs hp => ?_, fun hl hk hs hp => ?_, fun hl hk hs hp => ?_,
    fun x g hl hk hs hp hx hg hkind hm hb hlim hh hr => ?_, fun hl hk hs hp hr hx => ?_, fun x hl hk hs hp hr hx hg => ?_,
    fun hl hk hs => ?_, fun hl hk hs => ?_, fun rec hl hk hs hrec => ?_, fun hl hk hd hs => ?_, fun hl hk hp hr => ?_,
    fun hl hk hopen => ?_⟩
  · exact exec_mdInput (t := s.reportedBy n r) (o := .notMd) hu (if_neg hrole)
  · exact stays hrole (State.judgeInput_disabled (s := s.reportedBy n r) (offIff.mp hoff) h)
  · obtain ⟨hrole, hen⟩ := asks hl hk
    have accepts : s.click.accepts = true := ClickEngine.accepts_iff.mpr hn
    exact run hrole ((State.judgeInput_release (s := s.reportedBy n r) hk hen).trans (if_pos accepts))
  · obtain ⟨hrole, hen⟩ := asks hl hk
    have refuses : ¬ s.click.accepts = true := mt ClickEngine.accepts_iff.mp hn
    exact stays hrole ((State.judgeInput_release (s := s.reportedBy n r) hk hen).trans (if_neg refuses))
  · obtain ⟨hrole, hen⟩ := needs hl hk (.inl rfl)
    refine stays hrole ((State.judgeInput_tap hk hen).trans (if_neg fun h => ?_))
    obtain ⟨hin, hnear⟩ := ClickEngine.takesTap_iff.mp h
    replace hin : s.click.state ∈ [EngineState.countIn, .playing, .vamping, .waitTap] := hin
    rcases hn with hn | hn | hn | hn
    · exact hn hnear
    all_goals
      rw [hn] at hin
      simp at hin
  · obtain ⟨hrole, hen⟩ := needs hl hk (.inl rfl)
    refine stays hrole ((State.judgeInput_tap hk hen).trans ((if_pos (ClickEngine.takesTap_iff.mpr ⟨hs, hn⟩)).trans ?_))
    rw [State.takeTap_bounce (s := s.reportedBy n r) hb]
  · obtain ⟨hrole, hen⟩ := needs hl hk (.inl rfl)
    have among : s.click.state ∈ [EngineState.countIn, .playing, .vamping, .waitTap] :=
      List.subset_append_left _ [EngineState.waitTap] hs
    have takes : s.click.takesTap = true := ClickEngine.takesTap_iff.mpr ⟨among, hn⟩
    have stored := State.judgeInput_tap_stored (s := s.reportedBy n r) hk hen takes hst hx
    have state := ClickEngine.tapped_state hx taps
    rw [State.placeTap_waits (fun h => by
      have waiting : s.click.state = .waitTap := state.symm.trans h.1
      rw [waiting] at hs
      simp at hs), Context.followTaps_eq] at stored
    exact run hrole stored
  · obtain ⟨hrole, hen⟩ := needs hl hk (.inl rfl)
    have stored := State.judgeInput_tap_stored (s := s.reportedBy n r) hk hen (ClickEngine.takesTap_waiting hs hx hm) hst hx
    rw [Context.followTaps_unplaced (ClickEngine.waitTap_segment hs hx).1, ← hx,
      State.placeTap_waits fun h => Nat.not_le.mpr hfew h.2] at stored
    exact run hrole stored
  · obtain ⟨hrole, hen⟩ := needs hl hk (.inl rfl)
    have stored := State.judgeInput_tap_stored (s := s.reportedBy n r) hk hen (ClickEngine.takesTap_waiting hs hx hm) hst hx
    have state := (ClickEngine.tapped_state hx taps).trans hs
    rw [Context.followTaps_unplaced (ClickEngine.waitTap_segment hs hx).1] at stored state
    rw [State.placeTap_places (c := x) rfl state htwo] at stored
    exact run hrole stored
  · obtain ⟨hrole, hen⟩ := asks hl hk
    exact run hrole (State.judgeInput_hold_taken hk hen hs hp)
  · obtain ⟨hrole, hen⟩ := asks hl hk
    exact stays hrole (State.judgeInput_hold_stands hk hen hs hp)
  · obtain ⟨hrole, hen⟩ := asks hl hk
    exact stays hrole (State.judgeInput_continue_stands hk hen hs hp)
  · obtain ⟨hrole, hen⟩ := asks hl hk
    have act := run hrole (State.judgeInput_continue (s := s.reportedBy n r) hk hen hs hp)
    have taken := State.takeContinue_beat (s := s.reportedBy n r) (bars := 1) .md hs hr hx hg hkind hm hb hlim hh
    have first := Context.returnAt_first (x := s.time.S + 4800) (bars := 1) hg hb
    have counted := first.countIn Nat.one_ne_zero
    rw [Nat.one_mul] at counted
    generalize State.takeContinue _ 1 .md = t at act taken
    have reach := taken.reach
    rw [Nat.one_mul] at reach
    refine ⟨_, _, act, taken.ctl, taken.held, taken.taps, reach, taken.kept, first.onset, first.tempo, counted.1, counted.2.1,
      counted.2.2.2, fun m => ?_, taken.patchOf, ?_, taken.stands Nat.one_ne_zero, taken.time, taken.vin, taken.vout,
      taken.reports, taken.emitted, taken.pending⟩
    · have fed := taken.fed m
      rw [State.reportedBy_ch] at fed
      exact fed
    · exact congrArg (fun p => (ControlPort.offer p (.mdInput n i s.time.S .continueTaken)).arbitrate) taken.port
  · obtain ⟨hrole, hen⟩ := asks hl hk
    have act := run hrole (State.judgeInput_continue (s := s.reportedBy n r) hk hen hs hp)
    have taken := State.takeContinue_atOnce (s := s.reportedBy n r) (bars := 1) .md hs hr hx
    generalize State.takeContinue _ 1 .md = t at act taken
    refine ⟨_, act, taken.ctl, taken.click, fun m => ?_, ?_, taken.cue, taken.time, taken.patches, taken.vin, taken.vout,
      taken.reports.trans hr, taken.emitted, taken.pending⟩
    · have ch := taken.ch m
      rw [State.reportedBy_ch] at ch
      exact ch
    · exact congrArg (fun p => (ControlPort.offer p (.mdInput n i s.time.S .continueTaken)).arbitrate) taken.port
  · obtain ⟨hrole, hen⟩ := asks hl hk
    have act := run hrole (State.judgeInput_continue (s := s.reportedBy n r) hk hen hs hp)
    have taken := State.takeContinue_mapEnd (s := s.reportedBy n r) (bars := 1) .md hs hr hx hg
    generalize State.takeContinue _ 1 .md = t at act taken
    refine ⟨_, act, taken.ctl, taken.click, fun m => ?_, ?_, taken.cue, taken.time, taken.patches, taken.vin, taken.vout,
      taken.reports.trans hr, taken.emitted, taken.pending⟩
    · have ch := taken.ch m
      rw [State.reportedBy_ch] at ch
      exact ch
    · exact congrArg (fun p => (ControlPort.offer p (.mdInput n i s.time.S .continueTaken)).arbitrate) taken.port
  · obtain ⟨hrole, hen⟩ := asks hl hk
    exact stays hrole (State.judgeInput_hold_wrong hk hen hs)
  · obtain ⟨hrole, hen⟩ := needs hl hk (.inr rfl)
    refine stays hrole ((State.judgeInput_stop hk hen).trans ?_)
    rw [State.judgeStop_dark (s := s.reportedBy n r) .md hs, show (s.reportedBy n r).ctl.state = .dark from hs]
    rfl
  · obtain ⟨hrole, hen⟩ := needs hl hk (.inr rfl)
    have judged := State.judgeInput_stop (s := s.reportedBy n r) hk hen
    rw [State.judgeStop_stopped (s := s.reportedBy n r) (source := .md) hs hrec,
      show (s.reportedBy n r).ctl.state = .stopped from hs] at judged
    refine ⟨fun h => ?_, fun h => ?_⟩
    · rw [if_pos (show rec.causes.has .md = true from h)] at judged
      exact stays hrole judged
    · rw [if_neg (show ¬ rec.causes.has .md = true from fun k => Bool.false_ne_true (h.symm.trans k))] at judged
      exact run hrole judged
  · obtain ⟨hrole, hen⟩ := needs hl hk (.inr rfl)
    have judged := State.judgeInput_stop (s := s.reportedBy n r) hk hen
    rw [State.judgeStop_show (s := s.reportedBy n r) .md hd hs,
      ShowState.meets_show (x := (s.reportedBy n r).ctl.state) hd hs] at judged
    have act := run hrole judged
    have stopped := (s.reportedBy n r).takeStop_stopped .md
    generalize (s.reportedBy n r).takeStop .md = t at act stopped
    intro back empty applies reverted record
    refine ⟨_, act, stopped.ctl, stopped.click, stopped.patchOf, stopped.cue,
      (ControlPort.arbitrate_notices _).trans ?_, fun m => ?_, ?_, stopped.time, stopped.vin,
      stopped.vout, stopped.reports, stopped.pending⟩
    · have told := ControlPort.offer_notices_congr stopped.notices (stopped.mask.trans ?_) (.mdInput n i s.time.S .stopTaken)
      · exact told
      · dsimp only
        split
        · rw [ControlPort.offer_mask, ControlPort.cancelled_mask, ControlPort.offer_mask]
        · rw [ControlPort.cancelled_mask, ControlPort.offer_mask]
    · have ch := stopped.ch m
      rw [State.reportedBy_ch] at ch
      exact ch
    · have emitted := stopped.emitted
      simp only [State.reportedBy_state] at emitted
      exact emitted
  · obtain ⟨hrole, hen⟩ := asks hl hk
    refine stays hrole (State.judgeInput_go_refused (s := s.reportedBy n r) hk hen (r := .wrongState) ?_)
    exact State.callRefusal_closed fun h => h.elim hp hr
  · obtain ⟨hrole, hen⟩ := asks hl hk
    have hopen : (s.reportedBy n r).callsOpen := hopen
    have refused {x : Reason} (hx : (s.reportedBy n r).callRefusal (s.cue.standby.bind s.cue.book.cue?).isSome = some x) :
        only x.mdOutcome := stays hrole (State.judgeInput_go_refused (s := s.reportedBy n r) hk hen hx)
    refine ⟨fun hlock => refused (State.callRefusal_locked hopen hlock _), fun hlock ht => refused (x := .notFound) ?_,
      fun hlock ht hf hq => refused (x := .goQueueFull) ?_, fun d hlock ht hrs => ?_⟩
    · rw [ht]
      exact State.callRefusal_notFound hopen hlock
    · rw [Option.isSome_iff_ne_none.mpr ht]
      exact State.callRefusal_full hopen hlock hf hq
    · intro next fired point after begun same
      have act (free : s.cue.inFlight = none ∨ s.cue.queued = none) := run hrole
        (State.judgeInput_go_taken (s := s.reportedBy n r) hk hen ht (State.callRefusal_taken hopen hlock free))
      refine ⟨fun hf hq => ?_, fun hf hlate => ?_, fun hf hq hdue hedit manual => ?_⟩
      · have act := act (.inr hq)
        have called := (State.takeCall_queued (s := s.reportedBy n r) (c := d) (source := .md) hopen hf).counted
        generalize (State.takeCall (s.reportedBy n r) d .md).countMdGo = t at act called
        have reports : t.reports = [] := called.reports.trans hrs
        rw [settle_nil t reports, CueEngine.freeSlot_queued (k := (s.reportedBy n r).cue) hf] at act
        exact ⟨_, act, ⟨called.time, called.vin, called.vout, called.state, called.tests, reports, called.pending⟩, called.cue,
          called.click, called.patches, (ControlPort.arbitrate_notices _).trans (called.notices _)⟩
      · have act := act (.inl hf)
        have called := (State.takeCall_late (s := s.reportedBy n r) (c := d) (source := .md) hopen hf hlate).counted
        generalize (State.takeCall (s.reportedBy n r) d .md).countMdGo = t at act called
        have reports : t.reports = [] := called.reports.trans hrs
        rw [settle_nil t reports, CueEngine.freeSlot_inFlight (k := (s.reportedBy n r).cue) hf] at act
        exact ⟨_, act, ⟨called.time, called.vin, called.vout, called.state, called.tests, reports, called.pending⟩, called.cue,
          called.click, called.patches, (ControlPort.arbitrate_notices _).trans (called.notices _)⟩
      · have act := act (.inl hf)
        have called := (State.takeCall_due (s := s.reportedBy n r) (c := d) (source := .md) hopen hf hdue).counted
        generalize (State.takeCall (s.reportedBy n r) d .md).countMdGo = t at act called
        have reports : t.reports = [.changeDue] := by
          rw [called.reports]
          show s.reports ++ _ = _
          rw [hrs]
          rfl
        have cue : t.cue = { after with inFlight := some ⟨fired, point⟩ } := called.cue
        have known : s.cue.book.cue? d.number = some d := CueEngine.cue?_of_bind ht
        have hands := settleN_hands (m := 8190) cue known hq hedit manual reports
        rw [CueEngine.freeSlot_inFlight (k := (s.reportedBy n r).cue) hf] at act
        generalize hu : settle t = u at act
        rw [show settleN (8190 + 2) t = u from hu] at hands
        obtain ⟨rs, port⟩ := called.port
        obtain ⟨mask, room⟩ := (s.reportedBy n r).begun_port
        refine ⟨_, act, ⟨hands.time.trans called.time, hands.vin.trans called.vin, hands.vout.trans called.vout,
          hands.ctl.trans called.state, fun m => (hands.test m).trans (called.tests m), hands.reports,
          hands.pending.trans called.pending⟩, hands.cue.trans ?_, fun hm h28 => ?_⟩
        · show CueEngine.handed t.cue _ d = _
          rw [cue]
          unfold CueEngine.handed
          dsimp only
          rw [← hf]
        · refine (congrArg List.getLast? (ControlPort.arbitrate_notices _)).trans ?_
          refine hands.last_notice ?_ ?_
          · show t.port.mask.getLsbD 11 = true
            rw [port]
            exact (congrArg (·.getLsbD 11) mask).trans hm
          · show t.port.notices.length < 30
            rw [port]
            exact Nat.lt_of_le_of_lt room (Nat.lt_of_lt_of_le (Nat.succ_lt_succ h28) (by decide))

end Sys2Proof.Machine
end
